-- ==== Sys2Proof/Word.lean ====
section
/-! DEFINITION. The word types of the CH-318 model: a byte of a frame, and a set of event kinds. -/

namespace Sys2Proof

/-- One byte of a request or reply frame (R177, R180). -/
abbrev Byte := BitVec 8

/-- A set of event kinds as a request or reply carries it: the kind numbered `n` is bit `n` (R195). -/
abbrev EventSet := BitVec 32

end Sys2Proof
end

