-- ==== Sys2Proof/Machine/Arith.lean ====
section
/-! DEFINITION. The manual's arithmetic: round, floor, ceil and clamp (00_scope.md, Arithmetic), the little-endian
bytes of a payload (R178, R181) and the 16-bit check of a frame (R177). -/

namespace Sys2Proof.Machine

/-- "Round": the nearest integer to `n / d`, halves away from zero. -/
def roundDiv (n : Int) (d : Nat) : Int :=
  if 0 ≤ n then (2 * n + d) / (2 * d) else -((2 * -n + d) / (2 * d))

/-- "Floor" of `n / d` for a divisor above 0. -/
def floorDiv (n : Int) (d : Nat) : Int := n / d

/-- "Ceil" of `n / d` for a divisor above 0. -/
def ceilDiv (n d : Nat) : Nat := (n + d - 1) / d

/-- clamp(v, lo, hi): `v` brought into `lo` to `hi`. -/
def clampInt (v lo hi : Int) : Int := max lo (min v hi)

/-- `v` brought into 0 to `hi`, as a natural number. -/
def clampNat (v : Int) (hi : Nat) : Nat := min v.toNat hi

/-- A value moved toward `target` by at most `step`, taking the target exactly when it is within a step (R55). -/
def moveToward (v target : Int) (step : Nat) : Int :=
  if (target - v).natAbs ≤ step then target
  else if v < target then v + step else v - step

/-- The two bytes of a 16-bit value, low byte first. -/
def bytes16 (w : BitVec 16) : List Byte := [w.extractLsb' 0 8, w.extractLsb' 8 8]

/-- The four bytes of a 32-bit value, low byte first. -/
def bytes32 (w : BitVec 32) : List Byte :=
  [w.extractLsb' 0 8, w.extractLsb' 8 8, w.extractLsb' 16 8, w.extractLsb' 24 8]

/-- The eight bytes of a 64-bit value, low byte first. -/
def bytes64 (w : BitVec 64) : List Byte :=
  [w.extractLsb' 0 8, w.extractLsb' 8 8, w.extractLsb' 16 8, w.extractLsb' 24 8,
   w.extractLsb' 32 8, w.extractLsb' 40 8, w.extractLsb' 48 8, w.extractLsb' 56 8]

/-- One bit of the frame check: polynomial 0x1021, not reflected (R177). -/
def crcBit (c : BitVec 16) : BitVec 16 :=
  if c.getMsbD 0 then (c <<< 1) ^^^ 0x1021#16 else c <<< 1

/-- One byte taken into the frame check. -/
def crcByte (c : BitVec 16) (b : Byte) : BitVec 16 :=
  crcBit (crcBit (crcBit (crcBit (crcBit (crcBit (crcBit (crcBit (c ^^^ (b.setWidth 16 <<< 8)))))))))

/-- The 16-bit check of some bytes: initial value 0xFFFF, no final inversion (R177). -/
def crc16 (bs : List Byte) : BitVec 16 := bs.foldl crcByte 0xFFFF#16

/-- The check as it is sent: high byte first (R177, R180). -/
def crcBytes (c : BitVec 16) : List Byte := [c.extractLsb' 8 8, c.extractLsb' 0 8]

end Sys2Proof.Machine
end

