-- ==== Sys2Proof/Syntax.lean ====
section
/-! DEFINITION. The commands of the CH-318: one constructor of `Instr` for each row of spec/opcode_table.json.
A request row carries the port it arrived on, the tag and the payload bytes of its frame (R177, R181); a row that is
an event of the hub carries the readings or the name that the event brings with it. -/

namespace Sys2Proof

/-- The three ports: cabin, plant, hoist. -/
inductive Port where
  | cabin | plant | hoist
deriving DecidableEq, Repr

/-- The two wheel pairs: A (east) and B (west). -/
inductive Wheel where
  | a | b
deriving DecidableEq, Repr

/-- The four steering plates. -/
inductive PlateId where
  | n1 | n2 | s1 | s2
deriving DecidableEq, Repr

/-- What the inclinometer housing has delivered since the previous sample slot (R6). -/
inductive Delivery where
  /-- No set was delivered. -/
  | missing
  /-- A set was delivered and failed its link check. -/
  | broken
  /-- A whole set: the sensor's valid flag, then θx, θy (0.01 mm/m) and ψ (0.01°) as measured. -/
  | whole (valid : Bool) (x y psi : Int)
deriving DecidableEq, Repr

/-- The request kinds, in the order of the authority table (R181). -/
inductive Kind where
  | setScaler | queryMeasurements | reportRopeCount | setDatum | setDepthCheck | queryDepth
  | loadZone | dropZone | queryZone | setWheelDemand | setRamp | setFallbackSpeed | clearJam
  | halt | releaseHalt | queryDemand | queryWheels | setRecovery | queryRecovery
  | setSteerMode | setTrimManual | setSteerGains | setPlate | querySteering | clearPlate | queryPlates
  | surveyClaim | surveyRelease | surveyConfig | surveyClear | surveySetPointer | surveyStart | surveyStop
  | surveyWindow | readNext | querySurvey | surveyCheck | queryCheck
  | setPumpDemand | setTransport | setPlantCeiling | reportDensity | resetReturn | queryReturn
  | setPortTimeout | headRestart | testInject | queryPort | queryStatus
  | ackEvents | setEventEnables | setAlertLine | setMarkWidth | queryEvents
deriving DecidableEq, Repr

/-- The commands. `port`, `tag`, `payload` of a request row are those of its valid frame. -/
inductive Instr where
  /-- POWER_ON (R190); the level of PLANT_READY as RC reads it then (R175). -/
  | powerOn (plantReady : Bool)
  /-- BAD_FRAME (R177): the candidate bytes between two gaps of 20 ms. -/
  | badFrame (port : Port) (candidate : List Byte)
  /-- UNKNOWN_KIND (R182): a valid frame whose kind byte names no kind. -/
  | unknownKind (port : Port) (kind tag : Byte)
  | setScaler (port : Port) (tag : Byte) (payload : List Byte)
  | queryMeasurements (port : Port) (tag : Byte) (payload : List Byte)
  | reportRopeCount (port : Port) (tag : Byte) (payload : List Byte)
  | setDatum (port : Port) (tag : Byte) (payload : List Byte)
  | setDepthCheck (port : Port) (tag : Byte) (payload : List Byte)
  | queryDepth (port : Port) (tag : Byte) (payload : List Byte)
  | loadZone (port : Port) (tag : Byte) (payload : List Byte)
  | dropZone (port : Port) (tag : Byte) (payload : List Byte)
  | queryZone (port : Port) (tag : Byte) (payload : List Byte)
  | setWheelDemand (port : Port) (tag : Byte) (payload : List Byte)
  | setRamp (port : Port) (tag : Byte) (payload : List Byte)
  | setFallbackSpeed (port : Port) (tag : Byte) (payload : List Byte)
  | clearJam (port : Port) (tag : Byte) (payload : List Byte)
  | halt (port : Port) (tag : Byte) (payload : List Byte)
  | releaseHalt (port : Port) (tag : Byte) (payload : List Byte)
  | queryDemand (port : Port) (tag : Byte) (payload : List Byte)
  | queryWheels (port : Port) (tag : Byte) (payload : List Byte)
  | setRecovery (port : Port) (tag : Byte) (payload : List Byte)
  | queryRecovery (port : Port) (tag : Byte) (payload : List Byte)
  | setSteerMode (port : Port) (tag : Byte) (payload : List Byte)
  | setTrimManual (port : Port) (tag : Byte) (payload : List Byte)
  | setSteerGains (port : Port) (tag : Byte) (payload : List Byte)
  | setPlate (port : Port) (tag : Byte) (payload : List Byte)
  | querySteering (port : Port) (tag : Byte) (payload : List Byte)
  | clearPlate (port : Port) (tag : Byte) (payload : List Byte)
  | queryPlates (port : Port) (tag : Byte) (payload : List Byte)
  | surveyClaim (port : Port) (tag : Byte) (payload : List Byte)
  | surveyRelease (port : Port) (tag : Byte) (payload : List Byte)
  | surveyConfig (port : Port) (tag : Byte) (payload : List Byte)
  | surveyClear (port : Port) (tag : Byte) (payload : List Byte)
  | surveySetPointer (port : Port) (tag : Byte) (payload : List Byte)
  | surveyStart (port : Port) (tag : Byte) (payload : List Byte)
  | surveyStop (port : Port) (tag : Byte) (payload : List Byte)
  | surveyWindow (port : Port) (tag : Byte) (payload : List Byte)
  | readNext (port : Port) (tag : Byte) (payload : List Byte)
  | querySurvey (port : Port) (tag : Byte) (payload : List Byte)
  | surveyCheck (port : Port) (tag : Byte) (payload : List Byte)
  | queryCheck (port : Port) (tag : Byte) (payload : List Byte)
  | setPumpDemand (port : Port) (tag : Byte) (payload : List Byte)
  | setTransport (port : Port) (tag : Byte) (payload : List Byte)
  | setPlantCeiling (port : Port) (tag : Byte) (payload : List Byte)
  | reportDensity (port : Port) (tag : Byte) (payload : List Byte)
  | resetReturn (port : Port) (tag : Byte) (payload : List Byte)
  | queryReturn (port : Port) (tag : Byte) (payload : List Byte)
  | setPortTimeout (port : Port) (tag : Byte) (payload : List Byte)
  | headRestart (port : Port) (tag : Byte) (payload : List Byte)
  | testInject (port : Port) (tag : Byte) (payload : List Byte)
  | queryPort (port : Port) (tag : Byte) (payload : List Byte)
  | queryStatus (port : Port) (tag : Byte) (payload : List Byte)
  | ackEvents (port : Port) (tag : Byte) (payload : List Byte)
  | setEventEnables (port : Port) (tag : Byte) (payload : List Byte)
  | setAlertLine (port : Port) (tag : Byte) (payload : List Byte)
  | setMarkWidth (port : Port) (tag : Byte) (payload : List Byte)
  | queryEvents (port : Port) (tag : Byte) (payload : List Byte)
  /-- POSTED_HEAD_APPLY (R185) at one port's queue. -/
  | postedHeadApply (port : Port)
  /-- SAMPLE_SLOT (R6): what the housing delivered since the previous slot. -/
  | sampleSlot (delivery : Delivery)
  /-- TACH_GATE_END (R13): the pulses of the gate and whether the direction input reads the cutting direction. -/
  | tachGateEnd (wheel : Wheel) (pulses : Nat) (cutting : Bool)
  /-- FLOW_GATE_END (R14): the pulses of the gate. -/
  | flowGateEnd (pulses : Nat)
  /-- GOVERNOR_UPDATE (R54): the two gearbox transducers' readings (0.1 bar). -/
  | governorUpdate (pressureA pressureB : Int)
  /-- HEAD_PRESSURE_SAMPLE (R16): the transducer's reading (10 Pa). -/
  | headPressureSample (reading : Int)
  /-- PLATE_SAMPLE (R105): the four position sensors' readings (percent). -/
  | plateSample (n1 n2 s1 s2 : Int)
  | snapshotIntervalExpiry
  | stallTimerExpiry (wheel : Wheel)
  | tachFault (wheel : Wheel)
  | sensorLost
  | depthDisagree
  | disagreeClear
  | phaseTimerExpiry
  | burstStallTimerExpiry
  | settleTimerExpiry (plate : PlateId)
  | moveTimerExpiry (plate : PlateId)
  | primingTimerExpiry
  | starvationCountExpiry
  /-- PLANT_READY_RISE (R169): the time in ms the line has been low beyond what the ticks have counted (log entry 4). -/
  | plantReadyRise (lowMs : Nat)
  | plantReadyFall
  | holdTimerExpiry (port : Port)
  | silenceTimerExpiry (port : Port)
  | startUpTimerExpiry
  | widthTimerExpiry
deriving DecidableEq, Repr

end Sys2Proof
end

