-- ==== Sys2Proof/Decode.lean ====
section
/-! DEFINITION. From the bytes of a candidate frame to the command they spell, and back (R177, R181). The opcode table
gives no bits to any of its rows, so `decodeTableWord` spells no command; the hub's own encoding is its request frame,
and `commandOfFrame` and `frameOf` are its decoder and encoder. -/

namespace Sys2Proof

open Sys2Proof.Machine

/-- The kind byte of a request kind: numbered from 1 in the order of the authority table (R181). -/
def Kind.code : Kind → Nat
  | .setScaler => 1 | .queryMeasurements => 2 | .reportRopeCount => 3 | .setDatum => 4
  | .setDepthCheck => 5 | .queryDepth => 6 | .loadZone => 7 | .dropZone => 8
  | .queryZone => 9 | .setWheelDemand => 10 | .setRamp => 11 | .setFallbackSpeed => 12
  | .clearJam => 13 | .halt => 14 | .releaseHalt => 15 | .queryDemand => 16
  | .queryWheels => 17 | .setRecovery => 18 | .queryRecovery => 19 | .setSteerMode => 20
  | .setTrimManual => 21 | .setSteerGains => 22 | .setPlate => 23 | .querySteering => 24
  | .clearPlate => 25 | .queryPlates => 26 | .surveyClaim => 27 | .surveyRelease => 28
  | .surveyConfig => 29 | .surveyClear => 30 | .surveySetPointer => 31 | .surveyStart => 32
  | .surveyStop => 33 | .surveyWindow => 34 | .readNext => 35 | .querySurvey => 36
  | .surveyCheck => 37 | .queryCheck => 38 | .setPumpDemand => 39 | .setTransport => 40
  | .setPlantCeiling => 41 | .reportDensity => 42 | .resetReturn => 43 | .queryReturn => 44
  | .setPortTimeout => 45 | .headRestart => 46 | .testInject => 47 | .queryPort => 48
  | .queryStatus => 49 | .ackEvents => 50 | .setEventEnables => 51 | .setAlertLine => 52
  | .setMarkWidth => 53 | .queryEvents => 54

/-- All request kinds, in the order of their codes. -/
def Kind.all : List Kind :=
  [.setScaler, .queryMeasurements, .reportRopeCount, .setDatum, .setDepthCheck, .queryDepth, .loadZone, .dropZone,
   .queryZone, .setWheelDemand, .setRamp, .setFallbackSpeed, .clearJam, .halt, .releaseHalt, .queryDemand,
   .queryWheels, .setRecovery, .queryRecovery, .setSteerMode, .setTrimManual, .setSteerGains, .setPlate,
   .querySteering, .clearPlate, .queryPlates] ++
  [.surveyClaim, .surveyRelease, .surveyConfig, .surveyClear, .surveySetPointer, .surveyStart, .surveyStop,
   .surveyWindow, .readNext, .querySurvey, .surveyCheck, .queryCheck, .setPumpDemand, .setTransport,
   .setPlantCeiling, .reportDensity, .resetReturn, .queryReturn, .setPortTimeout, .headRestart, .testInject,
   .queryPort, .queryStatus, .ackEvents, .setEventEnables, .setAlertLine, .setMarkWidth, .queryEvents]

/-- The kind a kind byte names; bytes 0 and 55 to 255 name none (R181). -/
def Kind.ofCode (b : Byte) : Option Kind :=
  if b = 0 then none else Kind.all[b.toNat - 1]?

/-- The command of a valid frame of a known kind. -/
def commandOf (k : Kind) (p : Port) (tag : Byte) (payload : List Byte) : Instr :=
  match k with
  | .setScaler => .setScaler p tag payload
  | .queryMeasurements => .queryMeasurements p tag payload
  | .reportRopeCount => .reportRopeCount p tag payload
  | .setDatum => .setDatum p tag payload
  | .setDepthCheck => .setDepthCheck p tag payload
  | .queryDepth => .queryDepth p tag payload
  | .loadZone => .loadZone p tag payload
  | .dropZone => .dropZone p tag payload
  | .queryZone => .queryZone p tag payload
  | .setWheelDemand => .setWheelDemand p tag payload
  | .setRamp => .setRamp p tag payload
  | .setFallbackSpeed => .setFallbackSpeed p tag payload
  | .clearJam => .clearJam p tag payload
  | .halt => .halt p tag payload
  | .releaseHalt => .releaseHalt p tag payload
  | .queryDemand => .queryDemand p tag payload
  | .queryWheels => .queryWheels p tag payload
  | .setRecovery => .setRecovery p tag payload
  | .queryRecovery => .queryRecovery p tag payload
  | .setSteerMode => .setSteerMode p tag payload
  | .setTrimManual => .setTrimManual p tag payload
  | .setSteerGains => .setSteerGains p tag payload
  | .setPlate => .setPlate p tag payload
  | .querySteering => .querySteering p tag payload
  | .clearPlate => .clearPlate p tag payload
  | .queryPlates => .queryPlates p tag payload
  | .surveyClaim => .surveyClaim p tag payload
  | .surveyRelease => .surveyRelease p tag payload
  | .surveyConfig => .surveyConfig p tag payload
  | .surveyClear => .surveyClear p tag payload
  | .surveySetPointer => .surveySetPointer p tag payload
  | .surveyStart => .surveyStart p tag payload
  | .surveyStop => .surveyStop p tag payload
  | .surveyWindow => .surveyWindow p tag payload
  | .readNext => .readNext p tag payload
  | .querySurvey => .querySurvey p tag payload
  | .surveyCheck => .surveyCheck p tag payload
  | .queryCheck => .queryCheck p tag payload
  | .setPumpDemand => .setPumpDemand p tag payload
  | .setTransport => .setTransport p tag payload
  | .setPlantCeiling => .setPlantCeiling p tag payload
  | .reportDensity => .reportDensity p tag payload
  | .resetReturn => .resetReturn p tag payload
  | .queryReturn => .queryReturn p tag payload
  | .setPortTimeout => .setPortTimeout p tag payload
  | .headRestart => .headRestart p tag payload
  | .testInject => .testInject p tag payload
  | .queryPort => .queryPort p tag payload
  | .queryStatus => .queryStatus p tag payload
  | .ackEvents => .ackEvents p tag payload
  | .setEventEnables => .setEventEnables p tag payload
  | .setAlertLine => .setAlertLine p tag payload
  | .setMarkWidth => .setMarkWidth p tag payload
  | .queryEvents => .queryEvents p tag payload

/-- The kind, port, tag and payload of a request command; none for the hub's own events. -/
def Instr.request : Instr → Option (Kind × Port × Byte × List Byte)
  | .setScaler p t d => some (.setScaler, p, t, d)
  | .queryMeasurements p t d => some (.queryMeasurements, p, t, d)
  | .reportRopeCount p t d => some (.reportRopeCount, p, t, d)
  | .setDatum p t d => some (.setDatum, p, t, d)
  | .setDepthCheck p t d => some (.setDepthCheck, p, t, d)
  | .queryDepth p t d => some (.queryDepth, p, t, d)
  | .loadZone p t d => some (.loadZone, p, t, d)
  | .dropZone p t d => some (.dropZone, p, t, d)
  | .queryZone p t d => some (.queryZone, p, t, d)
  | .setWheelDemand p t d => some (.setWheelDemand, p, t, d)
  | .setRamp p t d => some (.setRamp, p, t, d)
  | .setFallbackSpeed p t d => some (.setFallbackSpeed, p, t, d)
  | .clearJam p t d => some (.clearJam, p, t, d)
  | .halt p t d => some (.halt, p, t, d)
  | .releaseHalt p t d => some (.releaseHalt, p, t, d)
  | .queryDemand p t d => some (.queryDemand, p, t, d)
  | .queryWheels p t d => some (.queryWheels, p, t, d)
  | .setRecovery p t d => some (.setRecovery, p, t, d)
  | .queryRecovery p t d => some (.queryRecovery, p, t, d)
  | .setSteerMode p t d => some (.setSteerMode, p, t, d)
  | .setTrimManual p t d => some (.setTrimManual, p, t, d)
  | .setSteerGains p t d => some (.setSteerGains, p, t, d)
  | .setPlate p t d => some (.setPlate, p, t, d)
  | .querySteering p t d => some (.querySteering, p, t, d)
  | .clearPlate p t d => some (.clearPlate, p, t, d)
  | .queryPlates p t d => some (.queryPlates, p, t, d)
  | .surveyClaim p t d => some (.surveyClaim, p, t, d)
  | .surveyRelease p t d => some (.surveyRelease, p, t, d)
  | .surveyConfig p t d => some (.surveyConfig, p, t, d)
  | .surveyClear p t d => some (.surveyClear, p, t, d)
  | .surveySetPointer p t d => some (.surveySetPointer, p, t, d)
  | .surveyStart p t d => some (.surveyStart, p, t, d)
  | .surveyStop p t d => some (.surveyStop, p, t, d)
  | .surveyWindow p t d => some (.surveyWindow, p, t, d)
  | .readNext p t d => some (.readNext, p, t, d)
  | .querySurvey p t d => some (.querySurvey, p, t, d)
  | .surveyCheck p t d => some (.surveyCheck, p, t, d)
  | .queryCheck p t d => some (.queryCheck, p, t, d)
  | .setPumpDemand p t d => some (.setPumpDemand, p, t, d)
  | .setTransport p t d => some (.setTransport, p, t, d)
  | .setPlantCeiling p t d => some (.setPlantCeiling, p, t, d)
  | .reportDensity p t d => some (.reportDensity, p, t, d)
  | .resetReturn p t d => some (.resetReturn, p, t, d)
  | .queryReturn p t d => some (.queryReturn, p, t, d)
  | .setPortTimeout p t d => some (.setPortTimeout, p, t, d)
  | .headRestart p t d => some (.headRestart, p, t, d)
  | .testInject p t d => some (.testInject, p, t, d)
  | .queryPort p t d => some (.queryPort, p, t, d)
  | .queryStatus p t d => some (.queryStatus, p, t, d)
  | .ackEvents p t d => some (.ackEvents, p, t, d)
  | .setEventEnables p t d => some (.setEventEnables, p, t, d)
  | .setAlertLine p t d => some (.setAlertLine, p, t, d)
  | .setMarkWidth p t d => some (.setMarkWidth, p, t, d)
  | .queryEvents p t d => some (.queryEvents, p, t, d)
  | .powerOn _ | .badFrame _ _ | .unknownKind _ _ _ | .postedHeadApply _ | .sampleSlot _ | .tachGateEnd _ _ _
  | .flowGateEnd _ | .governorUpdate _ _ | .headPressureSample _ | .plateSample _ _ _ _ | .snapshotIntervalExpiry
  | .stallTimerExpiry _ | .tachFault _ | .sensorLost | .depthDisagree | .disagreeClear | .phaseTimerExpiry
  | .burstStallTimerExpiry | .settleTimerExpiry _ | .moveTimerExpiry _ | .primingTimerExpiry
  | .starvationCountExpiry | .plantReadyRise _ | .plantReadyFall | .holdTimerExpiry _ | .silenceTimerExpiry _
  | .startUpTimerExpiry | .widthTimerExpiry => none

/-- The bytes of a candidate that the check covers: from the kind to the last payload byte (R177). -/
def checkedBytes (kind tag : Byte) (payload : List Byte) : List Byte :=
  kind :: tag :: BitVec.ofNat 8 payload.length :: payload

/-- A candidate read as a frame: kind, tag and payload when it passes the four checks of R177, none when it is bad. -/
def readFrame : List Byte → Option (Byte × Byte × List Byte)
  | marker :: kind :: tag :: len :: rest =>
    let payload := rest.take len.toNat
    if marker = 0xA5#8 ∧ len.toNat ≤ 60 ∧ rest.length = len.toNat + 2 ∧
        rest.drop len.toNat = crcBytes (crc16 (kind :: tag :: len :: payload))
    then some (kind, tag, payload) else none
  | _ => none

/-- The request frame of a kind byte, a tag and a payload (section 11.2). -/
def frameBytes (kind tag : Byte) (payload : List Byte) : List Byte :=
  0xA5#8 :: (checkedBytes kind tag payload ++ crcBytes (crc16 (checkedBytes kind tag payload)))

/-- THE DECODER: the command that a candidate frame on a port spells. A bad frame is BAD_FRAME (R177) and a valid frame
of no kind of the hub is UNKNOWN_KIND (R182). -/
def commandOfFrame (p : Port) (candidate : List Byte) : Instr :=
  match readFrame candidate with
  | none => .badFrame p candidate
  | some (kind, tag, payload) =>
    match Kind.ofCode kind with
    | none => .unknownKind p kind tag
    | some k => commandOf k p tag payload

/-- THE ENCODER: the frame that a request command is sent as; none for the hub's own events. -/
def frameOf (i : Instr) : Option (List Byte) :=
  i.request.map fun (k, _, tag, payload) => frameBytes (BitVec.ofNat 8 k.code) tag payload

/-- The command that a word spells by the table's bits: spec/opcode_table.json gives no row any bits, so none. -/
def decodeTableWord (_nbits _w : Nat) : Option Instr := none

end Sys2Proof
end

