-- ==== Sys2Proof/Config.lean ====
section
/-! DEFINITION. What the manual leaves open for good: the free values. -/

namespace Sys2Proof

/-- The value of a reply field that the manual lists but whose content it does not state in the case at hand
(log entry 12). `State.free` says which use of it this is; nothing can be proved of the value. -/
opaque Config.freeValue : Nat → BitVec 32

end Sys2Proof
end

