-- ==== Sys2Proof/Machine/State.lean ====
section
/-! DEFINITION. The state of the CH-318: every piece of held state the manual gives its eleven blocks, as plain data,
and the state after power-on. INVENTORY.md lists each field with its rule. Times are in ms; a timer that may be
stopped is an `Option`, `none` when stopped. -/

namespace Sys2Proof.Machine

/-! ## Names -/

/-- R9. -/
inductive SensorState where
  | ok | lost
deriving DecidableEq, Repr

/-- R19. -/
inductive DepthState where
  | unset | valid | stale
deriving DecidableEq, Repr

/-- R29. -/
inductive CrossCheck where
  | noDensity | comparing
deriving DecidableEq, Repr

/-- R35: the ground class. -/
inductive GroundClass where
  | soft | mixed | hard | rock
deriving DecidableEq, Repr

/-- R35: which of the two segment lengths applies. -/
inductive Selector where
  | l0 | l1
deriving DecidableEq, Repr

/-- R47. -/
inductive WheelState where
  | stopped | running | halting | halted | standby | recovering | jammed | tachFault
deriving DecidableEq, Repr

/-- R73. -/
inductive Phase where
  | stopping | reversing | rest | probe
deriving DecidableEq, Repr

/-- R85: how the most recent recovery ended. -/
inductive RecoveryEnd where
  | none | recovered | jammed | aborted
deriving DecidableEq, Repr

/-- R88: the actual steering mode; the chosen mode is AUTO or MANUAL (R87). -/
inductive SteerMode where
  | off | auto | manual | frozen
deriving DecidableEq, Repr

/-- R104. -/
inductive MoveState where
  | settled | moving | stuck
deriving DecidableEq, Repr

/-- R116, R118. -/
inductive SurveyState where
  | idle | claimed | armed | accumulating | holding | closed | full | checking | checkHolding
deriving DecidableEq, Repr

/-- R148. -/
inductive Verdict where
  | agree | xOnly | yOnly | both | noData
deriving DecidableEq, Repr

/-- R162. -/
inductive ReturnState where
  | off | waitingPlant | priming | pumping | starved | plantHold
deriving DecidableEq, Repr

/-- R187. -/
inductive LinkState where
  | down | active | lost
deriving DecidableEq, Repr

/-- R190. -/
inductive HubState where
  | starting | ready
deriving DecidableEq, Repr

/-- R198. -/
inductive AlertMode where
  | activeLowOpen | activeHighOpen | pushPullHigh
deriving DecidableEq, Repr

/-- The status codes, in the order of the status table (R181). -/
inductive Status where
  | done | doneClamped | taken | takenClamped | queueFull | unknownKind | notPermitted | badLength | starting
  | outOfRange | wrongState | locked | order | claimedByOther | notClaimant | runActive | full | end_
  | heldTooLong | linkLost
deriving DecidableEq, Repr

/-- The event kinds, in the order of their numbers (R195). -/
inductive Event where
  | halted | stall | recovered | jammed | tachFault | sensorLost | depthDisagree | depthRange | zoneChange
  | segmentClosed | surveyFull | checkDone | plateStuck | starved | plantHold | transportShort | refused
  | portLost | restarted
deriving DecidableEq, Repr

/-! ## One value for each port, wheel or plate -/

/-- A value for each port. -/
structure PerPort (α : Type) where
  cabin : α
  plant : α
  hoist : α
deriving DecidableEq, Repr

/-- A value for each wheel. -/
structure PerWheel (α : Type) where
  a : α
  b : α
deriving DecidableEq, Repr

/-- A value for each plate. -/
structure PerPlate (α : Type) where
  n1 : α
  n2 : α
  s1 : α
  s2 : α
deriving DecidableEq, Repr

/-! ## Measurement Front End -/

/-- R1: the settings of a ratio scaler. -/
structure Scaler where
  n : Nat
  r : Nat
  od : Nat
deriving DecidableEq, Repr

/-- R8: a set in the window: θx, θy, ψ as clamped. -/
structure SampleSet where
  x : Int
  y : Int
  psi : Int
deriving DecidableEq, Repr

/-- R13: the last tach result of a wheel. -/
structure TachResult where
  speed : Int
  pulses : Nat
  saturated : Bool
deriving DecidableEq, Repr

/-- R14 to R16, R105: a measurement as clamped, with its SATURATED mark. -/
structure Reading where
  value : Nat
  saturated : Bool
deriving DecidableEq, Repr

structure Mfe where
  depthScaler : Scaler
  tachScaler : Scaler
  flowScaler : Scaler
  sensor : SensorState
  /-- Oldest first, at most 8 (R8). -/
  window : List SampleSet
  newestSaturated : Bool
  invalidCount : Nat
  tach : PerWheel TachResult
  qm : Reading
  gearbox : PerWheel Reading
  headPressure : Reading
deriving DecidableEq, Repr

/-! ## Depth Reference -/

structure Dr where
  state : DepthState
  depth : Nat
  aboveDatum : Bool
  range : Bool
  disagree : Bool
  countReceived : Bool
  lastCount : Int
  c0 : Int
  datum : Nat
  toe : Nat
  /-- The toe snapshots, oldest first, at most 12 (R27). -/
  history : List Nat
  /-- The time left of the snapshot interval (R27). -/
  snapshotLeft : Nat
  fMeas : Nat
  crossCheck : CrossCheck
  rho : Nat
  hp : Nat
  outRun : Nat
  inRun : Nat
  offset : Nat
  band : Nat
deriving DecidableEq, Repr

/-! ## Ground Zone Table -/

/-- R35. -/
structure ZoneEntry where
  upper : Nat
  cls : GroundClass
  speedCeiling : Nat
  holdPressure : Nat
  stallPressure : Nat
  feedCeiling : Nat
  selector : Selector
deriving DecidableEq, Repr

structure Zt where
  /-- Slot k is the entry at position k; n is the length (R35). -/
  entries : List ZoneEntry
  current : Nat
  selectionDepth : Nat
deriving DecidableEq, Repr

/-! ## Wheel Governor -/

structure WheelRec where
  state : WheelState
  target : Int
  /-- The reference accumulator, in 0.01 rpm (R48). -/
  acc : Int
  torqueHold : Bool
  stallTimer : Option Nat
  zeroGates : Nat
deriving DecidableEq, Repr

structure Wg where
  wheels : PerWheel WheelRec
  demand : Nat
  ramp : Nat
  fallback : Nat
  ceiling : Nat
  sEff : Nat
  trim : Int
  fallbackFlag : Bool
  /-- The zone values last handed by ZT (R43). -/
  zoneCeiling : Nat
  zoneHold : Nat
  zoneStall : Nat
deriving DecidableEq, Repr

/-! ## Stall Recovery Unit -/

/-- R71. -/
structure RecoverySettings where
  bursts : Nat
  reverseSpeed : Nat
  reverseTime : Nat
  restTime : Nat
  probeSpeed : Nat
  probeTime : Nat
deriving DecidableEq, Repr

/-- R73: the recovery record. -/
structure Recovery where
  wheel : Wheel
  phase : Phase
  burst : Nat
  phaseTimer : Option Nat
  burstTimer : Option Nat
deriving DecidableEq, Repr

structure Sru where
  settings : RecoverySettings
  record : Option Recovery
  lastEnd : RecoveryEnd
  lastWheel : Wheel
  lastBurst : Nat
deriving DecidableEq, Repr

/-! ## Steering Law Unit -/

/-- R100. -/
structure SteerSettings where
  kx : Nat
  ky : Nat
  kt : Nat
  deadband : Nat
  twistDeadband : Nat
  lr10 : Nat
  trimLimit : Nat
  startDepth : Nat
deriving DecidableEq, Repr

/-- R93 to R96: the results of a computation. -/
structure SteerResult where
  dx : Int
  dy : Int
  sx : Int
  sy : Int
  ex : Int
  ey : Int
  psi : Int
  trim : Int
  uy : Int
  ut : Int
  plates : PerPlate Nat
deriving DecidableEq, Repr

structure Slu where
  /-- The chosen mode: AUTO when true, MANUAL when false (R87). -/
  chosenAuto : Bool
  actual : SteerMode
  settings : SteerSettings
  last : SteerResult
  offeredTrim : Int
  uy : Int
  ut : Int
  /-- The plate commands last handed to PSV. -/
  commands : PerPlate Nat
  manualTrim : Int
  manualPlates : PerPlate Nat
deriving DecidableEq, Repr

/-! ## Plate Servo -/

/-- R104. -/
structure Plate where
  command : Nat
  demand : Nat
  extension : Reading
  move : MoveState
  /-- The time left for the move (R106). -/
  moveTimer : Option Nat
  settleTimer : Option Nat
deriving DecidableEq, Repr

/-! ## Survey Unit -/

/-- R117: the flags of a record or an open segment. -/
structure SurveyFlags where
  held : Bool
  saturated : Bool
  capped : Bool
  interpolated : Bool
  short : Bool
  noSensor : Bool
deriving DecidableEq, Repr

/-- R142: the check field of a record. -/
structure CheckField where
  count : Nat
  meanX : Int
  meanY : Int
  verdict : Verdict
deriving DecidableEq, Repr

/-- R117: a record; its index is its place in the table, its length is bottom − top. -/
structure SurveyRecord where
  top : Nat
  bottom : Nat
  selector : Selector
  cls : GroundClass
  count : Nat
  meanX : Int
  meanY : Int
  meanPsi : Int
  dx : Int
  dy : Int
  flags : SurveyFlags
  check : Option CheckField
deriving DecidableEq, Repr

/-- R116: the open segment. -/
structure Segment where
  top : Nat
  length : Nat
  selector : Selector
  cls : GroundClass
  count : Nat
  sumX : Int
  sumY : Int
  sumPsi : Int
  flags : SurveyFlags
deriving DecidableEq, Repr

/-- R142: the verdict counts. -/
structure VerdictCounts where
  agree : Nat
  xOnly : Nat
  yOnly : Nat
  both : Nat
  noData : Nat
deriving DecidableEq, Repr

structure Su where
  state : SurveyState
  claimant : Option Port
  l0 : Nat
  l1 : Nat
  startDepth : Nat
  tolerance : Nat
  /-- The valid records by index; the pointer is the length (R117). -/
  records : List SurveyRecord
  nextTop : Nat
  segment : Option Segment
  rx : Int
  ry : Int
  liveX : Int
  liveY : Int
  checkFront : Nat
  target : Option Nat
  checkCount : Nat
  checkSumX : Int
  checkSumY : Int
  verdicts : VerdictCounts
  /-- Whether the pass in progress started from FULL (R143). -/
  checkFromFull : Bool
deriving DecidableEq, Repr

/-! ## Return Controller -/

/-- R158. -/
structure Transport where
  cutLength : Nat
  thickness : Nat
  hose : Nat
  velocity : Nat
  c100 : Nat
  rhoCut : Nat
  primingTime : Nat
deriving DecidableEq, Repr

structure Rc where
  state : ReturnState
  qc : Nat
  qp : Nat
  rhoS : Nat
  rhoR : Nat
  densityReported : Bool
  transport : Transport
  qSettle : Nat
  qConc : Nat
  qFloor : Nat
  qEff : Nat
  pump : Nat
  short : Bool
  primingTimer : Option Nat
  starvation : Nat
  /-- The level of PLANT_READY (R168). -/
  ready : Bool
  armed : Bool
  /-- The time the line has been low since the fall the detector recorded (R168, R169). -/
  lowFor : Nat
  /-- The zone feed ceiling last handed by ZT (R43). -/
  feedCeiling : Nat
  feedLimit : Nat
deriving DecidableEq, Repr

/-! ## Port Interfaces -/

/-- A posted request as it stands in a queue: its values as clamped (R184). A name stands as its name byte (R181). -/
inductive Posted where
  | setScaler (scaler n r od : Nat)
  | setDepthCheck (offset band : Nat)
  | loadZone (k upper cls speed hold stall feed selector : Nat)
  | dropZone (k : Nat)
  | setWheelDemand (s : Nat)
  | setRamp (rate : Nat)
  | setFallbackSpeed (speed : Nat)
  | clearJam
  | setRecovery (settings : RecoverySettings)
  | setSteerMode (mode : Nat)
  | setTrimManual (trim : Int)
  | setSteerGains (settings : SteerSettings)
  | setPlate (plate extension : Nat)
  | clearPlate (plate : Nat)
  | setPumpDemand (qc : Nat)
  | setTransport (settings : Transport)
  | setPortTimeout (port timeout : Nat)
  | ackEvents (set : EventSet)
  | setEventEnables (set : EventSet)
  | setAlertLine (mode : Nat)
  | setMarkWidth (width : Nat)
deriving DecidableEq, Repr

/-- R184: an entry of a posted queue. -/
structure Entry where
  request : Posted
  tag : Byte
deriving DecidableEq, Repr

/-- R185: the rejection record. -/
structure Rejection where
  kind : Kind
  tag : Byte
  code : Status
deriving DecidableEq, Repr

/-- R180: a reply frame as it was sent; `check` is its CRC as sent (R192). -/
structure Reply where
  kind : Byte
  tag : Byte
  status : Status
  payload : List Byte
  check : BitVec 16
deriving DecidableEq, Repr

structure PortRec where
  link : LinkState
  /-- Running in ACTIVE only (R187). -/
  silence : Option Nat
  timeout : Nat
  /-- The posted queue, head first (R185). -/
  queue : List Entry
  /-- The hold timer of the head; running while the head is held (R186). -/
  hold : Option Nat
  rejection : Option Rejection
  refused : Nat
  badFrames : Nat
  windowFirst : Nat
  windowLast : Nat
  cursor : Nat
  injection : Nat
  /-- The model's own field: the last reply frame sent on the port since power-on. -/
  lastReply : Option Reply
deriving DecidableEq, Repr

structure Pi where
  ports : PerPort PortRec
  hub : HubState
  /-- The time left on the start-up timer, 0 when stopped (R190). -/
  startUpLeft : Nat
deriving DecidableEq, Repr

/-! ## Event Unit -/

structure EuPort where
  latched : EventSet
  enabled : EventSet
  mode : AlertMode
deriving DecidableEq, Repr

structure Eu where
  ports : PerPort EuPort
  markWidth : Nat
  /-- The width timer; running exactly while the segment-mark line is active (R199). -/
  mark : Option Nat
deriving DecidableEq, Repr

/-! ## The hub -/

/-- The whole state of the hub, and the queue of commands that wait. -/
structure State where
  mfe : Mfe
  dr : Dr
  zt : Zt
  wg : Wg
  sru : Sru
  slu : Slu
  psv : PerPlate Plate
  su : Su
  rc : Rc
  pi : Pi
  eu : Eu
  /-- The model's own field: the commands that wait, first in, first out. -/
  pending : List Instr
  /-- The model's own field: how many free values have been used (log entry 12). -/
  free : Nat
deriving DecidableEq, Repr

/-- No rule of the manual stops the hub, so no fault exists: the type has no constructor. -/
inductive Fault : Type
deriving DecidableEq, Repr

/-- The reasons to refuse a command. -/
inductive Refusal where
  /-- Raised by an arm of `exec` for a command that has no meaning yet; safe, since the machine stops there. No arm of
  this model raises it. -/
  | notModelled (mnemonic : String)
deriving DecidableEq, Repr

/-- What one command answers. -/
abbrev Result := Host.Outcome State Fault Refusal

/-! ## After power-on -/

/-- R36: the built-in default zone. It has no upper bound; the field is never read. -/
def defaultZone : ZoneEntry :=
  { upper := 0, cls := .mixed, speedCeiling := 250, holdPressure := 3400, stallPressure := 3800,
    feedCeiling := 60, selector := .l0 }

/-- R2, R12, R17. -/
def Mfe.reset : Mfe :=
  { depthScaler := { n := 353, r := 30, od := 1 }, tachScaler := { n := 40, r := 2, od := 1 },
    flowScaler := { n := 36, r := 2, od := 1 }, sensor := .lost, window := [], newestSaturated := false,
    invalidCount := 0,
    tach := { a := { speed := 0, pulses := 0, saturated := false }, b := { speed := 0, pulses := 0, saturated := false } },
    qm := { value := 0, saturated := false },
    gearbox := { a := { value := 0, saturated := false }, b := { value := 0, saturated := false } },
    headPressure := { value := 0, saturated := false } }

/-- R34. -/
def Dr.reset : Dr :=
  { state := .unset, depth := 0, aboveDatum := false, range := false, disagree := false, countReceived := false,
    lastCount := 0, c0 := 0, datum := 0, toe := 0, history := [], snapshotLeft := 5000, fMeas := 0,
    crossCheck := .noDensity, rho := 1050, hp := 0, outRun := 0, inRun := 0, offset := 0, band := 10000 }

/-- R45. -/
def Zt.reset : Zt := { entries := [], current := 8, selectionDepth := 0 }

/-- A wheel at rest (R70). -/
def WheelRec.reset : WheelRec :=
  { state := .stopped, target := 0, acc := 0, torqueHold := false, stallTimer := none, zeroGates := 0 }

/-- R70. -/
def Wg.reset : Wg :=
  { wheels := { a := WheelRec.reset, b := WheelRec.reset }, demand := 0, ramp := 20, fallback := 30, ceiling := 30,
    sEff := 0, trim := 0, fallbackFlag := true, zoneCeiling := defaultZone.speedCeiling,
    zoneHold := defaultZone.holdPressure, zoneStall := defaultZone.stallPressure }

/-- R86, with the defaults of R71. -/
def Sru.reset : Sru :=
  { settings := { bursts := 3, reverseSpeed := 50, reverseTime := 2000, restTime := 1000, probeSpeed := 50,
                  probeTime := 3000 },
    record := none, lastEnd := .none, lastWheel := .a, lastBurst := 0 }

/-- The results of the last computation before the first one (R101, R102). -/
def SteerResult.zero : SteerResult :=
  { dx := 0, dy := 0, sx := 0, sy := 0, ex := 0, ey := 0, psi := 0, trim := 0, uy := 0, ut := 0,
    plates := { n1 := 0, n2 := 0, s1 := 0, s2 := 0 } }

/-- R102, with the defaults of R100. -/
def Slu.reset : Slu :=
  { chosenAuto := true, actual := .off,
    settings := { kx := 40, ky := 100, kt := 200, deadband := 20, twistDeadband := 10, lr10 := 100, trimLimit := 30,
                  startDepth := 20000 },
    last := SteerResult.zero, offeredTrim := 0, uy := 0, ut := 0,
    commands := { n1 := 0, n2 := 0, s1 := 0, s2 := 0 }, manualTrim := 0,
    manualPlates := { n1 := 0, n2 := 0, s1 := 0, s2 := 0 } }

/-- R114. -/
def Plate.reset : Plate :=
  { command := 0, demand := 0, extension := { value := 0, saturated := false }, move := .settled, moveTimer := none,
    settleTimer := none }

/-- Verdict counts of 0. -/
def VerdictCounts.zero : VerdictCounts := { agree := 0, xOnly := 0, yOnly := 0, both := 0, noData := 0 }

/-- R140, R153. -/
def Su.reset : Su :=
  { state := .idle, claimant := none, l0 := 5000, l1 := 10000, startDepth := 0, tolerance := 30, records := [],
    nextTop := 0, segment := none, rx := 0, ry := 0, liveX := 0, liveY := 0, checkFront := 0, target := none,
    checkCount := 0, checkSumX := 0, checkSumY := 0, verdicts := VerdictCounts.zero, checkFromFull := false }

/-- R175, with the defaults of R158 and PLANT_READY read as `ready`. -/
def Rc.reset (ready : Bool) : Rc :=
  { state := .off, qc := 0, qp := 0, rhoS := 1050, rhoR := 1050, densityReported := false,
    transport := { cutLength := 320, thickness := 120, hose := 150, velocity := 30, c100 := 20, rhoCut := 2650,
                   primingTime := 30000 },
    qSettle := 1909, qConc := 0, qFloor := 1909, qEff := 0, pump := 0, short := false, primingTimer := none,
    starvation := 0, ready := ready, armed := false, lowFor := 0, feedCeiling := defaultZone.feedCeiling,
    feedLimit := 0 }

/-- A port after power-on, with its default silence timeout (section 11.8, R188). -/
def PortRec.reset (timeout : Nat) : PortRec :=
  { link := .down, silence := none, timeout := timeout, queue := [], hold := none, rejection := none, refused := 0,
    badFrames := 0, windowFirst := 0, windowLast := 1023, cursor := 0, injection := 0, lastReply := none }

/-- R190 and the PI table of section 11.8. -/
def Pi.reset : Pi :=
  { ports := { cabin := PortRec.reset 2000, plant := PortRec.reset 10000, hoist := PortRec.reset 1000 }, hub := .starting,
    startUpLeft := 5000 }

/-- A port's event sets after power-on (R201). -/
def EuPort.reset : EuPort := { latched := 0, enabled := 0, mode := .activeLowOpen }

/-- R201. -/
def Eu.reset : Eu :=
  { ports := { cabin := EuPort.reset, plant := EuPort.reset, hoist := EuPort.reset }, markWidth := 200, mark := none }

/-- The hub right after power-on with PLANT_READY read as `ready`, no command waiting. -/
def State.powered (ready : Bool) : State :=
  { mfe := Mfe.reset, dr := Dr.reset, zt := Zt.reset, wg := Wg.reset, sru := Sru.reset, slu := Slu.reset,
    psv := { n1 := Plate.reset, n2 := Plate.reset, s1 := Plate.reset, s2 := Plate.reset }, su := Su.reset,
    rc := Rc.reset ready, pi := Pi.reset, eu := Eu.reset, pending := [], free := 0 }

/-- The machine right after reset: power-on with PLANT_READY read low (log entry 5). -/
def State.reset : State := State.powered false

end Sys2Proof.Machine
end

