-- ==== Sys2Proof/Machine/Operands.lean ====
section
/-! DEFINITION. The operands of the commands: the fields of a request payload, the codes of names and statuses, the
authority and the length of each kind (R181, R182), and the fields a reply payload is built from. -/

namespace Sys2Proof.Machine

/-! ## Reading a request payload (R178, R181) -/

/-- Byte `i` of a payload. -/
def byteAt (d : List Byte) (i : Nat) : Byte := d.getD i 0

/-- The two bytes from `i`, low byte first. -/
def word16At (d : List Byte) (i : Nat) : BitVec 16 := byteAt d (i + 1) ++ byteAt d i

/-- The four bytes from `i`, low byte first. -/
def word32At (d : List Byte) (i : Nat) : BitVec 32 :=
  byteAt d (i + 3) ++ byteAt d (i + 2) ++ byteAt d (i + 1) ++ byteAt d i

/-- The unsigned 4-byte integer from `i`. -/
def natAt (d : List Byte) (i : Nat) : Nat := (word32At d i).toNat

/-- The signed 4-byte integer from `i`. -/
def intAt (d : List Byte) (i : Nat) : Int := (word32At d i).toInt

/-- The signed 2-byte integer from `i` (the demand of SET_WHEEL_DEMAND, R49). -/
def int16At (d : List Byte) (i : Nat) : Int := (word16At d i).toInt

/-- The name byte at `i`, as a position in its list. -/
def nameAt (d : List Byte) (i : Nat) : Nat := (byteAt d i).toNat

/-- The port a name byte names. -/
def portNamed : Nat → Option Port
  | 0 => some .cabin
  | 1 => some .plant
  | 2 => some .hoist
  | _ => none

/-- The plate a name byte names. -/
def plateNamed : Nat → Option PlateId
  | 0 => some .n1
  | 1 => some .n2
  | 2 => some .s1
  | 3 => some .s2
  | _ => none

/-- The ground class a name byte names. -/
def classNamed : Nat → Option GroundClass
  | 0 => some .soft
  | 1 => some .mixed
  | 2 => some .hard
  | 3 => some .rock
  | _ => none

/-- The selector a name byte names. -/
def selectorNamed : Nat → Option Selector
  | 0 => some .l0
  | 1 => some .l1
  | _ => none

/-- The alert-line mode a name byte names. -/
def alertModeNamed : Nat → Option AlertMode
  | 0 => some .activeLowOpen
  | 1 => some .activeHighOpen
  | 2 => some .pushPullHigh
  | _ => none

/-! ## Kinds: authority and length -/

/-- The kind byte of a kind. -/
def kindByte (k : Kind) : Byte := BitVec.ofNat 8 k.code

/-- The ports a kind is permitted on (authority table of section 11.5). -/
def permitted (k : Kind) (port : Port) : Bool :=
  match k with
  | .reportRopeCount => port = .hoist
  | .setDatum => port = .hoist || port = .cabin
  | .setPlantCeiling | .reportDensity => port = .plant
  | .resetReturn => port = .cabin || port = .plant
  | .setScaler | .setDepthCheck | .loadZone | .dropZone | .setWheelDemand | .setRamp | .setFallbackSpeed | .clearJam
  | .halt | .releaseHalt | .setRecovery | .setSteerMode | .setTrimManual | .setSteerGains | .setPlate | .clearPlate
  | .setPumpDemand | .setTransport | .setPortTimeout | .headRestart | .testInject | .setMarkWidth => port = .cabin
  | .queryMeasurements | .queryDepth | .queryZone | .queryDemand | .queryWheels | .queryRecovery | .querySteering
  | .queryPlates | .surveyClaim | .surveyRelease | .surveyConfig | .surveyClear | .surveySetPointer | .surveyStart
  | .surveyStop | .surveyWindow | .readNext | .querySurvey | .surveyCheck | .queryCheck | .queryReturn | .queryPort
  | .queryStatus | .ackEvents | .setEventEnables | .setAlertLine | .queryEvents => true

/-- The payload length of a kind: the sum of the widths of the values its rule names (R181). -/
def payloadLength (k : Kind) : Nat :=
  match k with
  | .setScaler => 13
  | .setDepthCheck => 8
  | .loadZone => 26
  | .setWheelDemand => 2
  | .setRecovery => 24
  | .setSteerMode | .clearPlate | .queryPort | .setAlertLine => 1
  | .setSteerGains => 32
  | .setPlate | .setPortTimeout | .testInject => 5
  | .surveyConfig => 16
  | .surveyWindow | .reportDensity => 8
  | .setTransport => 28
  | .reportRopeCount | .setDatum | .dropZone | .queryZone | .setRamp | .setFallbackSpeed | .setTrimManual
  | .surveySetPointer | .setPumpDemand | .setPlantCeiling | .ackEvents | .setEventEnables | .setMarkWidth => 4
  | .queryMeasurements | .queryDepth | .clearJam | .halt | .releaseHalt | .queryDemand | .queryWheels
  | .queryRecovery | .querySteering | .queryPlates | .surveyClaim | .surveyRelease | .surveyClear | .surveyStart
  | .surveyStop | .readNext | .querySurvey | .surveyCheck | .queryCheck | .resetReturn | .queryReturn | .headRestart
  | .queryStatus | .queryEvents => 0

/-- The kind of a queued request. -/
def Posted.kind : Posted → Kind
  | .setScaler .. => .setScaler
  | .setDepthCheck .. => .setDepthCheck
  | .loadZone .. => .loadZone
  | .dropZone .. => .dropZone
  | .setWheelDemand .. => .setWheelDemand
  | .setRamp .. => .setRamp
  | .setFallbackSpeed .. => .setFallbackSpeed
  | .clearJam => .clearJam
  | .setRecovery .. => .setRecovery
  | .setSteerMode .. => .setSteerMode
  | .setTrimManual .. => .setTrimManual
  | .setSteerGains .. => .setSteerGains
  | .setPlate .. => .setPlate
  | .clearPlate .. => .clearPlate
  | .setPumpDemand .. => .setPumpDemand
  | .setTransport .. => .setTransport
  | .setPortTimeout .. => .setPortTimeout
  | .ackEvents .. => .ackEvents
  | .setEventEnables .. => .setEventEnables
  | .setAlertLine .. => .setAlertLine
  | .setMarkWidth .. => .setMarkWidth

/-! ## Codes of statuses and names (R181) -/

/-- The code of a status. -/
def statusCode : Status → Nat
  | .done => 0 | .doneClamped => 1 | .taken => 2 | .takenClamped => 3 | .queueFull => 4 | .unknownKind => 5
  | .notPermitted => 6 | .badLength => 7 | .starting => 8 | .outOfRange => 9 | .wrongState => 10 | .locked => 11
  | .order => 12 | .claimedByOther => 13 | .notClaimant => 14 | .runActive => 15 | .full => 16 | .end_ => 17
  | .heldTooLong => 18 | .linkLost => 19

/-- The number of an event kind (R195). -/
def eventNumber : Event → Nat
  | .halted => 0 | .stall => 1 | .recovered => 2 | .jammed => 3 | .tachFault => 4 | .sensorLost => 5
  | .depthDisagree => 6 | .depthRange => 7 | .zoneChange => 8 | .segmentClosed => 9 | .surveyFull => 10
  | .checkDone => 11 | .plateStuck => 12 | .starved => 13 | .plantHold => 14 | .transportShort => 15
  | .refused => 16 | .portLost => 17 | .restarted => 18

/-- The set that holds one event kind. -/
def eventBit (e : Event) : EventSet := 1#32 <<< eventNumber e

def portCode : Port → Nat
  | .cabin => 0 | .plant => 1 | .hoist => 2

/-- A claimant: a port, or none coded after the last. -/
def claimantCode : Option Port → Nat
  | some port => portCode port
  | none => 3

def wheelCode : Wheel → Nat
  | .a => 0 | .b => 1

def sensorCode : SensorState → Nat
  | .ok => 0 | .lost => 1

def depthStateCode : DepthState → Nat
  | .unset => 0 | .valid => 1 | .stale => 2

def crossCheckCode : CrossCheck → Nat
  | .noDensity => 0 | .comparing => 1

def classCode : GroundClass → Nat
  | .soft => 0 | .mixed => 1 | .hard => 2 | .rock => 3

def selectorCode : Selector → Nat
  | .l0 => 0 | .l1 => 1

def wheelStateCode : WheelState → Nat
  | .stopped => 0 | .running => 1 | .halting => 2 | .halted => 3 | .standby => 4 | .recovering => 5 | .jammed => 6
  | .tachFault => 7

def phaseCode : Phase → Nat
  | .stopping => 0 | .reversing => 1 | .rest => 2 | .probe => 3

def recoveryEndCode : RecoveryEnd → Nat
  | .none => 0 | .recovered => 1 | .jammed => 2 | .aborted => 3

def steerModeCode : SteerMode → Nat
  | .off => 0 | .auto => 1 | .manual => 2 | .frozen => 3

def moveStateCode : MoveState → Nat
  | .settled => 0 | .moving => 1 | .stuck => 2

def surveyStateCode : SurveyState → Nat
  | .idle => 0 | .claimed => 1 | .armed => 2 | .accumulating => 3 | .holding => 4 | .closed => 5 | .full => 6
  | .checking => 7 | .checkHolding => 8

def verdictCode : Verdict → Nat
  | .agree => 0 | .xOnly => 1 | .yOnly => 2 | .both => 3 | .noData => 4

def returnStateCode : ReturnState → Nat
  | .off => 0 | .waitingPlant => 1 | .priming => 2 | .pumping => 3 | .starved => 4 | .plantHold => 5

def linkCode : LinkState → Nat
  | .down => 0 | .active => 1 | .lost => 2

def hubCode : HubState → Nat
  | .starting => 0 | .ready => 1

def alertModeCode : AlertMode → Nat
  | .activeLowOpen => 0 | .activeHighOpen => 1 | .pushPullHigh => 2

/-! ## Building a reply payload (R178, R181) -/

/-- A numeric value: a 4-byte integer, little-endian. -/
def num (v : Int) : List Byte := bytes32 (BitVec.ofInt 32 v)

/-- RX and RY: 8-byte integers. -/
def num64 (v : Int) : List Byte := bytes64 (BitVec.ofInt 64 v)

/-- A 2-byte integer of the survey record (section 11.2). -/
def num16 (v : Int) : List Byte := bytes16 (BitVec.ofInt 16 v)

/-- A mark, flag or "whether". -/
def mark (m : Bool) : List Byte := [if m then 1 else 0]

/-- A name, tag, kind or status code: one byte. -/
def name (n : Nat) : List Byte := [BitVec.ofNat 8 n]

/-- A timer that reads 0 when stopped. -/
def timeOf (t : Option Nat) : Nat := t.getD 0

/-- The word of bytes 10 to 11 of a survey record (section 11.2). -/
def flagBits (f : SurveyFlags) : Nat :=
  (if f.held then 8 else 0) + (if f.saturated then 16 else 0) + (if f.capped then 32 else 0) +
  (if f.interpolated then 64 else 0) + (if f.short then 128 else 0) + (if f.noSensor then 256 else 0)

/-- The survey record of READ_NEXT, 40 bytes (R179). -/
def recordBytes (index : Nat) (r : SurveyRecord) : List Byte :=
  num16 index ++ num r.top ++ num r.bottom ++
  num16 ((selectorCode r.selector + 2 * classCode r.cls + flagBits r.flags : Nat) : Int) ++
  num16 r.count ++ num16 r.meanX ++ num16 r.meanY ++ num16 r.meanPsi ++ num r.dx ++ num r.dy ++
  (match r.check with
   | none => mark false ++ name 0 ++ num16 0 ++ num16 0 ++ num16 0
   | some k => mark true ++ name (verdictCode k.verdict) ++ num16 k.count ++ num16 k.meanX ++ num16 k.meanY) ++
  num 0

end Sys2Proof.Machine
end

