-- ==== Sys2Proof/Machine/Flags.lean ====
section
/-! DEFINITION. The marks, states and conditions of the hub that follow from other state: what the manual calls a
state, flag or condition without giving it a value of its own to hold. -/

namespace Sys2Proof.Machine

/-! ## Selecting a port's, wheel's or plate's part -/

def PerPort.get {α : Type} (t : PerPort α) : Port → α
  | .cabin => t.cabin
  | .plant => t.plant
  | .hoist => t.hoist

def PerPort.set {α : Type} (t : PerPort α) (port : Port) (v : α) : PerPort α :=
  match port with
  | .cabin => { t with cabin := v }
  | .plant => { t with plant := v }
  | .hoist => { t with hoist := v }

def PerWheel.get {α : Type} (t : PerWheel α) : Wheel → α
  | .a => t.a
  | .b => t.b

def PerWheel.set {α : Type} (t : PerWheel α) (w : Wheel) (v : α) : PerWheel α :=
  match w with
  | .a => { t with a := v }
  | .b => { t with b := v }

def PerPlate.get {α : Type} (t : PerPlate α) : PlateId → α
  | .n1 => t.n1
  | .n2 => t.n2
  | .s1 => t.s1
  | .s2 => t.s2

def PerPlate.set {α : Type} (t : PerPlate α) (q : PlateId) (v : α) : PerPlate α :=
  match q with
  | .n1 => { t with n1 := v }
  | .n2 => { t with n2 := v }
  | .s1 => { t with s1 := v }
  | .s2 => { t with s2 := v }

/-- The partner of a wheel. -/
def other : Wheel → Wheel
  | .a => .b
  | .b => .a

/-- A port's record. -/
def State.port (s : State) (port : Port) : PortRec := s.pi.ports.get port

/-! ## Wheels -/

/-- R48: the present reference, the accumulator divided by 10 with the fraction dropped. -/
def WheelRec.present (w : WheelRec) : Int := w.acc.tdiv 10

/-- R171: both wheels RUNNING. -/
def bothRunning (s : State) : Bool := s.wg.wheels.a.state = .running && s.wg.wheels.b.state = .running

/-- R53: the normal target of a wheel from a ceiling, an effective mean and an applied trim. -/
def normalTarget (w : Wheel) (ceiling sEff : Nat) (trim : Int) : Int :=
  match w with
  | .a => clampInt (sEff + trim) 0 ceiling
  | .b => clampInt (sEff - trim) 0 ceiling

/-- R53: lim. -/
def trimLim (trimLimit sEff : Nat) : Nat := min trimLimit (sEff / 4)

/-! ## Scalers (R1 to R3) -/

/-- R1: value = floor(c × N / (R × OD)). -/
def Scaler.convert (k : Scaler) (count : Int) : Int := floorDiv (count * k.n) (k.r * k.od)

/-- R3: DEPTH is RUNNING in VALID and STALE. -/
def depthScalerRunning (s : State) : Bool := s.dr.state != .unset

/-- R3: FLOW is RUNNING in every return state but OFF. -/
def flowScalerRunning (s : State) : Bool := s.rc.state != .off

/-- R3: a wheel at rest for the TACH scaler. -/
def atRest (w : WheelRec) : Bool := w.state = .stopped || w.state = .halted

/-- R3: TACH is STOPPED while each wheel is STOPPED or HALTED. -/
def tachScalerRunning (s : State) : Bool := !(atRest s.wg.wheels.a && atRest s.wg.wheels.b)

/-! ## The sample window (R10) -/

/-- The mean is defined when the window holds 8 sets. -/
def meansDefined (m : Mfe) : Bool := m.window.length = 8

/-- A window mean: round(sum / count), 0 when it is undefined. -/
def windowMean (m : Mfe) (f : SampleSet → Int) : Int :=
  if meansDefined m then roundDiv (m.window.map f).sum m.window.length else 0

/-! ## Survey conditions -/

/-- R118: the running states. -/
def SurveyState.running : SurveyState → Bool
  | .armed | .accumulating | .holding | .checking | .checkHolding => true
  | .idle | .claimed | .closed | .full => false

/-- R130: the accumulate condition. -/
def accumulateOk (s : State) : Bool :=
  s.dr.state = .valid && !s.dr.disagree && s.mfe.sensor = .ok && s.sru.record.isNone &&
  decide (s.dr.toe ≤ s.dr.depth + 500)

/-- R146: the check condition. -/
def checkOk (s : State) : Bool :=
  s.dr.state = .valid && !s.dr.disagree && s.mfe.sensor = .ok && decide (s.dr.depth ≤ s.su.checkFront + 500)

/-- The pointer: the count of valid records (R117). -/
def Su.pointer (u : Su) : Nat := u.records.length

/-! ## Steering mode (R88) -/

/-- The actual mode that the conditions of R88 give. -/
def modeNow (s : State) : SteerMode :=
  if s.dr.state != .valid then .off
  else if s.dr.depth < s.slu.settings.startDepth then .off
  else if s.mfe.sensor = .lost then .frozen
  else if s.dr.disagree then .frozen
  else if s.sru.record.isSome then .frozen
  else if s.slu.chosenAuto then .auto else .manual

/-! ## Plates -/

/-- R106: |command − measured extension| is greater than 2. -/
def outsideBand (command extension : Nat) : Bool := command > extension + 2 || extension > command + 2

/-! ## Zones (R40) -/

/-- The first slot, from `k` on, whose bound is greater than `x`. -/
def firstAbove (x : Nat) : List ZoneEntry → Nat → Option Nat
  | [], _ => none
  | e :: es, k => if x < e.upper then some k else firstAbove x es (k + 1)

/-- R40: the index of the zone containing a depth; 8 for the default zone. -/
def zoneIndexAt (entries : List ZoneEntry) (x : Nat) : Nat :=
  if entries.isEmpty then 8 else (firstAbove x entries 0).getD (entries.length - 1)

/-- The zone an index names: a slot's entry, or the default zone. -/
def zoneOf (entries : List ZoneEntry) (index : Nat) : ZoneEntry := entries.getD index defaultZone

/-- R43: the zone containing a depth another block names. -/
def zoneAt (s : State) (x : Nat) : ZoneEntry := zoneOf s.zt.entries (zoneIndexAt s.zt.entries x)

/-! ## Slurry return -/

/-- R159: the hose area in mm². -/
def hoseArea (t : Transport) : Nat := (roundDiv (7854 * (t.hose * t.hose)) 10000).toNat

/-- R159: the settling flow. -/
def settlingFlow (t : Transport) : Nat := ceilDiv (t.velocity * hoseArea t * 36) 10000

/-- R159: the concentration flow. -/
def concentrationFlow (t : Transport) (fMeas : Nat) : Nat :=
  ceilDiv (6 * fMeas * t.cutLength * t.thickness) (1000 * t.c100)

/-- R160: the effective demand. -/
def effectiveDemand (qc qFloor qp : Nat) : Nat := if 0 < qc then min (max qc qFloor) qp else 0

/-- R160: the return states in which the pump command is Qeff. -/
def pumpOn : ReturnState → Bool
  | .priming | .pumping | .starved => true
  | .off | .waitingPlant | .plantHold => false

/-- R172: the transport limit F_tr. -/
def transportLimit (r : Rc) : Nat :=
  if r.qSettle ≤ r.qp then
    (r.qp * 1000 * r.transport.c100) / (6 * r.transport.cutLength * r.transport.thickness)
  else 0

/-- R172: the measured concentration c100. -/
def measuredConcentration (r : Rc) : Nat :=
  clampNat (roundDiv (100 * ((r.rhoR : Int) - r.rhoS)) (r.transport.rhoCut - r.rhoS)) 100

/-- R172: the feed limit while the conditions of R171 hold. -/
def feedComputed (r : Rc) : Nat :=
  let f := min r.feedCeiling (transportLimit r)
  if r.transport.c100 < measuredConcentration r then (f * r.transport.c100) / measuredConcentration r else f

/-- R171: the four conditions. -/
def feedAllowed (s : State) : Bool :=
  bothRunning s && s.rc.state = .pumping && s.pi.ports.cabin.link = .active && s.dr.state = .valid

/-- R52: the FALLBACK flag as the return state, the fallback speed and the zone speed ceiling give it. -/
def fallbackNow (s : State) : Bool := s.rc.state != .pumping && decide (s.wg.fallback < s.wg.zoneCeiling)

/-! ## Events (R198) -/

/-- A port's alert line is asserted exactly when some event is both latched and enabled. -/
def alertAsserted (e : EuPort) : Bool := (e.latched &&& e.enabled) != 0

/-- The alert line's level. -/
inductive LineLevel where
  | pulledLow | released | drivenHigh | drivenLow
deriving DecidableEq, Repr

/-- The level that stands for each condition in each mode (R198). -/
def alertLevel (e : EuPort) : LineLevel :=
  match e.mode, alertAsserted e with
  | .activeLowOpen, true => .pulledLow
  | .activeLowOpen, false => .released
  | .activeHighOpen, true => .released
  | .activeHighOpen, false => .pulledLow
  | .pushPullHigh, true => .drivenHigh
  | .pushPullHigh, false => .drivenLow

/-! ## Posted queues (R186) -/

/-- Whether a request that is head of a queue is held in this state. -/
def held (r : Posted) (s : State) : Bool :=
  match r with
  | .setWheelDemand _ | .setRamp _ | .setRecovery _ => s.sru.record.isSome
  | .setPlate plate _ =>
    match plateNamed plate with
    | some q => (s.psv.get q).move = .moving
    | none => false
  | .setScaler .. | .setDepthCheck .. | .loadZone .. | .dropZone _ | .setFallbackSpeed _ | .clearJam | .setSteerMode _
  | .setTrimManual _ | .setSteerGains _ | .clearPlate _ | .setPumpDemand _ | .setTransport _ | .setPortTimeout _ _
  | .ackEvents _ | .setEventEnables _ | .setAlertLine _ | .setMarkWidth _ => false

end Sys2Proof.Machine
end

