-- ==== Sys2Proof/Machine/Ops.lean ====
section
/-! DEFINITION. The named operations the commands share: raising events, the frame's link effects and the one reply,
the arrival checks, and what the Return Controller recomputes. -/

namespace Sys2Proof.Machine

/-! ## Events (R195, R199) -/

/-- Adds kinds to the latched set of one port. -/
def latch (port : Port) (kinds : EventSet) (u : Eu) : Eu :=
  { u with ports := u.ports.set port { u.ports.get port with latched := (u.ports.get port).latched ||| kinds } }

/-- R199: SEGMENT_CLOSED makes the segment-mark line active and loads the width timer. -/
def startMark (u : Eu) : Eu := { u with mark := some u.markWidth }

/-- R195: a kind routed to all three ports. -/
def latchAll (e : Event) (u : Eu) : Eu :=
  latch .cabin (eventBit e) (latch .plant (eventBit e) (latch .hoist (eventBit e) u))

/-- A block raises an event that is routed to all three ports; SEGMENT_CLOSED also starts the mark pulse. -/
def raise (e : Event) (s : State) : State :=
  { s with eu := if e = .segmentClosed then startMark (latchAll e s.eu) else latchAll e s.eu }

/-- REFUSED, routed to the port whose queue gave the refusal. -/
def raiseRefused (port : Port) (s : State) : State := { s with eu := latch port (eventBit .refused) s.eu }

/-- PORT_LOST, routed to the two ports other than the one lost. -/
def raisePortLost (lost : Port) (s : State) : State :=
  match lost with
  | .cabin => { s with eu := latch .plant (eventBit .portLost) (latch .hoist (eventBit .portLost) s.eu) }
  | .plant => { s with eu := latch .cabin (eventBit .portLost) (latch .hoist (eventBit .portLost) s.eu) }
  | .hoist => { s with eu := latch .cabin (eventBit .portLost) (latch .plant (eventBit .portLost) s.eu) }

/-! ## Ports and replies -/

/-- Replaces a port's record. -/
def State.setPort (port : Port) (q : PortRec) (s : State) : State :=
  { s with pi := { s.pi with ports := s.pi.ports.set port q } }

/-- R180: the check of a reply, over its bytes from the kind to the last payload byte. -/
def replyCheck (kind tag : Byte) (status : Status) (payload : List Byte) : BitVec 16 :=
  crc16 (kind :: tag :: BitVec.ofNat 8 (statusCode status) :: BitVec.ofNat 8 payload.length :: payload)

/-- R180: the reply frame as the port sends it. -/
def Reply.bytes (r : Reply) : List Byte :=
  0x5A#8 :: r.kind :: r.tag :: BitVec.ofNat 8 (statusCode r.status) :: BitVec.ofNat 8 r.payload.length ::
    (r.payload ++ crcBytes r.check)

/-- R192: a reply under test injection carries the ones' complement of its check and takes one from the count; the
reply to TEST_INJECT itself never does. -/
def injected (q : PortRec) (kind : Byte) : Bool := decide (0 < q.injection) && kind != kindByte .testInject

/-- R178, R180, R192: the one reply to a valid frame. -/
def sendReply (port : Port) (kind tag : Byte) (status : Status) (payload : List Byte) (s : State) : State :=
  let q := s.port port
  let check := replyCheck kind tag status payload
  s.setPort port
    { q with
      injection := if injected q kind then q.injection - 1 else q.injection
      lastReply := some { kind := kind, tag := tag, status := status, payload := payload,
                          check := if injected q kind then ~~~check else check } }

/-- The reply to a request of a known kind. -/
def reply (k : Kind) (port : Port) (tag : Byte) (status : Status) (payload : List Byte) (s : State) : State :=
  sendReply port (kindByte k) tag status payload s

/-! ## Recomputation by the Return Controller -/

/-- R171, R172: RC recomputes the feed limit. -/
def recomputeFeed (s : State) : State :=
  { s with rc := { s.rc with feedLimit := if feedAllowed s then feedComputed s.rc else 0 } }

/-- R160: RC sets the pump command from Qeff and the return state. -/
def setPump (r : Rc) : Rc := { r with pump := if pumpOn r.state then r.qEff else 0 }

/-- R160: RC recomputes Qeff and the pump command. -/
def recomputeDemand (r : Rc) : Rc := setPump { r with qEff := effectiveDemand r.qc r.qFloor r.qp }

/-- R161: whether the TRANSPORT_SHORT condition holds. -/
def shortHolds (r : Rc) : Bool := decide (0 < r.qc) && decide (r.qp < r.qFloor)

/-- R161: RC re-judges TRANSPORT_SHORT and raises the event when the condition begins to hold. -/
def rejudgeShort (s : State) : State :=
  let s' : State := { s with rc := { s.rc with short := shortHolds s.rc } }
  if shortHolds s.rc && !s.rc.short then raise .transportShort s' else s'

/-- R159: RC recomputes the transport floor, then Qeff, the pump command and TRANSPORT_SHORT. -/
def recomputeFloor (s : State) : State :=
  let t := s.rc.transport
  let settle := settlingFlow t
  let conc := concentrationFlow t s.dr.fMeas
  rejudgeShort
    { s with rc := recomputeDemand { s.rc with qSettle := settle, qConc := conc, qFloor := max settle conc } }

/-- R52: WG takes a return state, a zone speed ceiling or a fallback speed, and FALLBACK is set or clear as they give. -/
def judgeFallback (s : State) : State := { s with wg := { s.wg with fallbackFlag := fallbackNow s } }

/-- R162: a change of return state, handed to WG, with the event that belongs to the new state. -/
def changeReturn (st : ReturnState) (s : State) : State :=
  let s' := judgeFallback (recomputeFeed { s with rc := setPump { s.rc with state := st } })
  match st with
  | .starved => raise .starved s'
  | .plantHold => raise .plantHold s'
  | .off | .waitingPlant | .priming | .pumping => s'

/-- R162: the return starts priming. -/
def startPriming (s : State) : State :=
  changeReturn .priming
    { s with rc := { s.rc with primingTimer := some s.rc.transport.primingTime, starvation := 0 } }

/-- R162: a return that is to start priming tests the plant first. -/
def testPlant (s : State) : State :=
  if s.rc.ready && decide (0 < s.rc.qp) then startPriming s else changeReturn .waitingPlant s

/-- R165, R166: the return becomes STARVED. -/
def starve (s : State) : State :=
  changeReturn .starved { s with rc := { s.rc with primingTimer := none, starvation := 0 } }

/-! ## Valid frames (R177, R187) -/

/-- R29: the cross-check resumes when the plant port returns, a density having been handed since power-on. -/
def resumeCrossCheck (s : State) : State :=
  if s.rc.densityReported then { s with dr := { s.dr with crossCheck := .comparing } } else s

/-- R187: a valid frame makes its port ACTIVE and restarts its silence timer before anything else is done with it;
a change of the cabin's link state is handed to RC, of the plant's to DR. -/
def hear (port : Port) (s : State) : State :=
  let q := s.port port
  let s' := s.setPort port { q with link := .active, silence := some q.timeout }
  if q.link = .active then s' else
    match port with
    | .cabin => recomputeFeed s'
    | .plant => resumeCrossCheck s'
    | .hoist => s'

/-- R182: the arrival checks of a request of a known kind, in order; a request that passes them goes on to `body`. -/
def receive (k : Kind) (port : Port) (tag : Byte) (payload : List Byte) (body : State → State) (s : State) : State :=
  let s' := hear port s
  if permitted k port = false then reply k port tag .notPermitted [] s'
  else if payload.length ≠ payloadLength k then reply k port tag .badLength [] s'
  else if s'.pi.hub = .starting ∧ k ≠ .queryStatus then reply k port tag .starting [] s'
  else body s'

/-- R183: a query is answered DONE with the values as they stand, and changes none of them. -/
def answer (k : Kind) (port : Port) (tag : Byte) (payload : List Byte) (values : State → List Byte) (s : State) :
    State :=
  receive k port tag payload (fun t => reply k port tag .done (values t) t) s

/-- A value the manual lists but does not state (log entry 12), as 4 bytes: the `i`-th from the ones used so far. -/
def freeNum (s : State) (i : Nat) : List Byte := bytes32 (Config.freeValue (s.free + i))

/-- The same as one byte. -/
def freeName (s : State) (i : Nat) : List Byte := [(Config.freeValue (s.free + i)).extractLsb' 0 8]

/-- Counts the free values used. -/
def useFree (n : Nat) (s : State) : State := { s with free := s.free + n }

end Sys2Proof.Machine
end

