-- ==== Sys2Proof/Machine/SteerOps.lean ====
section
/-! DEFINITION. Shared operations of the Plate Servo and the Steering Law Unit: a plate command handed, the actual mode
re-evaluated with the entry actions of the new mode, and the steering computation. -/

namespace Sys2Proof.Machine

/-! ## Plate Servo -/

/-- R106: a move begins. -/
def beginMove (q : Plate) : Plate := { q with move := .moving, moveTimer := some 8000, settleTimer := none }

/-- R106: a SETTLED plate begins a move when its command is outside the band of its measured extension. -/
def judgeBegin (q : Plate) : Plate :=
  if outsideBand q.command q.extension.value then beginMove q else q

/-- R109: what PSV does with a plate command SLU hands. -/
def takeCommand (v : Nat) (q : Plate) : Plate :=
  match q.move with
  | .settled => judgeBegin { q with demand := v, command := v }
  | .moving => { q with demand := v, command := v, settleTimer := none }
  | .stuck => { q with demand := v }

/-- SLU hands a plate command to PSV. -/
def handPlate (q : PlateId) (v : Nat) (s : State) : State :=
  { s with psv := s.psv.set q (takeCommand v (s.psv.get q)) }

/-- SLU sets a plate command, handed to PSV when it differs from the command last handed (R97). -/
def commandPlate (q : PlateId) (v : Nat) (s : State) : State :=
  if s.slu.commands.get q = v then s
  else handPlate q v { s with slu := { s.slu with commands := s.slu.commands.set q v } }

/-- SLU sets all four plate commands. -/
def commandPlates (c : PerPlate Nat) (s : State) : State :=
  commandPlate .s2 c.s2 (commandPlate .s1 c.s1 (commandPlate .n2 c.n2 (commandPlate .n1 c.n1 s)))

/-- No plate extended. -/
def noPlates : PerPlate Nat := { n1 := 0, n2 := 0, s1 := 0, s2 := 0 }

/-! ## Actual mode (R89 to R92) -/

/-- R90: entering OFF. -/
def enterOff (s : State) : State :=
  commandPlates noPlates { s with slu := { s.slu with actual := .off, offeredTrim := 0, uy := 0, ut := 0 } }

/-- R91: entering FROZEN. -/
def enterFrozen (s : State) : State := { s with slu := { s.slu with actual := .frozen, offeredTrim := 0 } }

/-- R92: entering AUTO; the applied values stand until the first computation. -/
def enterAuto (s : State) : State := { s with slu := { s.slu with actual := .auto } }

/-- R92: entering MANUAL. -/
def enterManual (s : State) : State :=
  commandPlates s.slu.manualPlates { s with slu := { s.slu with actual := .manual, offeredTrim := s.slu.manualTrim } }

/-- The entry actions of a mode. -/
def enterMode (m : SteerMode) (s : State) : State :=
  match m with
  | .off => enterOff s
  | .auto => enterAuto s
  | .manual => enterManual s
  | .frozen => enterFrozen s

/-- R89: SLU re-evaluates the actual mode when one of its inputs changes. -/
def reevaluate (s : State) : State := if modeNow s = s.slu.actual then s else enterMode (modeNow s) s

/-! ## The computation (R93 to R96) -/

/-- R95: a value at or below a deadband in magnitude is taken as 0. -/
def deadbanded (v : Int) (band : Nat) : Int := if v.natAbs ≤ band then 0 else v

/-- R94: the target slope for a deviation. -/
def targetSlope (d : Int) (lr10 : Nat) : Int := roundDiv (-d * 100) lr10

/-- The share of a signed demand that acts when it is positive. -/
def positivePart (u : Int) : Nat := u.toNat

/-- R96, step 4: the four plate commands. -/
def plateCommands (uy ut : Int) : PerPlate Nat :=
  { n1 := min 100 (positivePart (-uy) + positivePart ut)
    n2 := min 100 (positivePart (-uy) + positivePart (-ut))
    s1 := min 100 (positivePart uy + positivePart (-ut))
    s2 := min 100 (positivePart uy + positivePart ut) }

/-- R94 to R96, from the deviation, the window means, S_eff and the settings. -/
def steerCompute (k : SteerSettings) (sEff : Nat) (dx dy meanX meanY meanPsi : Int) : SteerResult :=
  let sx := targetSlope dx k.lr10
  let sy := targetSlope dy k.lr10
  let ex := deadbanded (sx - meanX) k.deadband
  let ey := deadbanded (sy - meanY) k.deadband
  let psi := deadbanded meanPsi k.twistDeadband
  let lim := trimLim k.trimLimit sEff
  let uy := clampInt (roundDiv (k.ky * ey) 1000) (-100) 100
  let ut := clampInt (roundDiv (-(k.kt * psi)) 1000) (-100) 100
  { dx := dx, dy := dy, sx := sx, sy := sy, ex := ex, ey := ey, psi := psi
    trim := clampInt (roundDiv (k.kx * ex) 1000) (-lim) lim
    uy := uy, ut := ut, plates := plateCommands uy ut }

/-- R93: the inputs of the computation as they stand: the live deviation counts in ACCUMULATING and HOLDING only. -/
def steerResult (s : State) : SteerResult :=
  let following := s.su.state = .accumulating ∨ s.su.state = .holding
  steerCompute s.slu.settings s.wg.sEff (if following then s.su.liveX else 0) (if following then s.su.liveY else 0)
    (windowMean s.mfe (·.x)) (windowMean s.mfe (·.y)) (windowMean s.mfe (·.psi))

/-- R97: the results applied in AUTO. -/
def applyResult (r : SteerResult) (s : State) : State :=
  commandPlates r.plates
    { s with slu := { s.slu with last := r, offeredTrim := r.trim, uy := r.uy, ut := r.ut } }

/-- R93, R97: SLU takes a valid sample in the mode that follows any change that came with it. -/
def steerSample (s : State) : State :=
  match s.slu.actual with
  | .auto => applyResult (steerResult s) s
  | .manual => { s with slu := { s.slu with last := steerResult s } }
  | .off | .frozen => s

end Sys2Proof.Machine
end

