-- ==== Sys2Proof/Machine/SurveyOps.lean ====
section
/-! DEFINITION. Shared operations of the Survey Unit: opening and closing segments, the accumulate and check
conditions, the live deviation, samples, and the check pass. -/

namespace Sys2Proof.Machine

/-- Replaces the survey context. -/
def State.setSu (u : Su) (s : State) : State := { s with su := u }

/-! ## Live deviation (R136) -/

/-- The mean of a sum over a count, 0 when nothing is counted. -/
def meanOf (sum : Int) (count : Nat) : Int := if count = 0 then 0 else roundDiv sum count

/-- The distance of the open segment's top to the toe, at most the segment's length. -/
def segmentDepth (g : Segment) (toe : Nat) : Int := (min toe (g.top + g.length) : Nat) - (g.top : Int)

/-- R136: round((R + partial) / 100,000). -/
def liveDeviation (r sum : Int) (g : Segment) (toe : Nat) : Int :=
  roundDiv (r + meanOf sum g.count * segmentDepth g toe) 100000

/-- R136: SU recomputes the live deviation; it is 0 outside ACCUMULATING and HOLDING. -/
def refreshLive (s : State) : State :=
  match s.su.state, s.su.segment with
  | .accumulating, some g | .holding, some g =>
    s.setSu { s.su with liveX := liveDeviation s.su.rx g.sumX g s.dr.toe
                        liveY := liveDeviation s.su.ry g.sumY g s.dr.toe }
  | _, _ => s.setSu { s.su with liveX := 0, liveY := 0 }

/-! ## Conditions (R130, R146) -/

/-- HELD set on the open segment. -/
def markHeld (g : Option Segment) : Option Segment := g.map fun g => { g with flags := { g.flags with held := true } }

/-- R130: SU judges the accumulate condition in ACCUMULATING and HOLDING. -/
def judgeAccumulate (s : State) : State :=
  match s.su.state with
  | .accumulating =>
    if accumulateOk s then s else s.setSu { s.su with state := .holding, segment := markHeld s.su.segment }
  | .holding => if accumulateOk s then s.setSu { s.su with state := .accumulating } else s
  | .idle | .claimed | .armed | .closed | .full | .checking | .checkHolding => s

/-- R146: SU judges the check condition in CHECKING and CHECK_HOLDING. -/
def judgeCheck (s : State) : State :=
  match s.su.state with
  | .checking => if checkOk s then s else s.setSu { s.su with state := .checkHolding }
  | .checkHolding => if checkOk s then s.setSu { s.su with state := .checking } else s
  | .idle | .claimed | .armed | .accumulating | .holding | .closed | .full => s

/-- A change of DISAGREE or of the sensor state: both conditions are judged. -/
def judgeSurvey (s : State) : State := refreshLive (judgeCheck (judgeAccumulate s))

/-- The creation or the clearing of the recovery record: the accumulate condition alone is judged. -/
def judgeRecovery (s : State) : State := refreshLive (judgeAccumulate s)

/-! ## Segments (R129, R132 to R135) -/

/-- No flag set. -/
def noFlags : SurveyFlags :=
  { held := false, saturated := false, capped := false, interpolated := false, short := false, noSensor := false }

/-- R129: a segment opened at a top, with HELD when the state is HOLDING. -/
def openedSegment (s : State) (top : Nat) : Segment :=
  let z := zoneAt s top
  { top := top, length := (match z.selector with | .l0 => s.su.l0 | .l1 => s.su.l1), selector := z.selector,
    cls := z.cls, count := 0, sumX := 0, sumY := 0, sumPsi := 0,
    flags := { noFlags with held := s.su.state = .holding } }

def openSegment (top : Nat) (s : State) : State := s.setSu { s.su with segment := some (openedSegment s top) }

/-- R132, R133: the means and the flags of a record for a segment: its own means, or copied ones when it counted
nothing. -/
def recordMeans (s : State) (g : Segment) : Int × Int × Int × SurveyFlags :=
  if g.count = 0 then
    match s.su.records.getLast? with
    | some r => (r.meanX, r.meanY, r.meanPsi, { g.flags with interpolated := true })
    | none =>
      if s.mfe.sensor = .ok then
        (windowMean s.mfe (·.x), windowMean s.mfe (·.y), windowMean s.mfe (·.psi),
          { g.flags with interpolated := true })
      else (0, 0, 0, { g.flags with interpolated := true, noSensor := true })
  else (roundDiv g.sumX g.count, roundDiv g.sumY g.count, roundDiv g.sumPsi g.count, g.flags)

/-- R132: the record of a segment closed at a bottom. -/
def closedRecord (s : State) (g : Segment) (bottom : Nat) (short : Bool) : SurveyRecord :=
  let (mx, my, mpsi, flags) := recordMeans s g
  let length : Int := (bottom : Int) - g.top
  { top := g.top, bottom := bottom, selector := g.selector, cls := g.cls, count := g.count, meanX := mx, meanY := my,
    meanPsi := mpsi, dx := roundDiv (s.su.rx + mx * length) 100000, dy := roundDiv (s.su.ry + my * length) 100000,
    flags := { flags with short := short }, check := none }

/-- R132, R134: a record is written at the pointer, RX and RY take their exact values, and SEGMENT_CLOSED is raised. -/
def writeRecord (g : Segment) (bottom : Nat) (short : Bool) (s : State) : State :=
  let r := closedRecord s g bottom short
  let length : Int := (bottom : Int) - g.top
  raise .segmentClosed
    (s.setSu { s.su with records := s.su.records ++ [r], segment := none,
                         rx := s.su.rx + r.meanX * length, ry := s.su.ry + r.meanY * length })

/-- R135: the table is full. -/
def fillTable (s : State) : State :=
  raise .surveyFull
    (s.setSu { s.su with state := (if s.su.claimant.isSome then .full else .idle), segment := none })

/-- R132, R134: closes the open segment while the depth lies at or below its bottom; at most `n` records. -/
def closePassed : Nat → State → State
  | 0, s => s
  | n + 1, s =>
    match s.su.segment with
    | none => s
    | some g =>
      if g.top + g.length ≤ s.dr.depth then
        let s' := writeRecord g (g.top + g.length) false s
        if 1024 ≤ s'.su.pointer then fillTable s'
        else closePassed n (openSegment (g.top + g.length) s')
      else s

/-- The most records one depth update can write. -/
def tableRoom : Nat := 1024

/-- R128: in ARMED, a depth at or below the next top opens the first segment and closes every boundary passed. -/
def judgeArming (s : State) : State :=
  if s.su.nextTop ≤ s.dr.depth then
    let s' := s.setSu { s.su with state := (if accumulateOk s then .accumulating else .holding), nextTop := 0 }
    refreshLive (closePassed tableRoom (openSegment s.su.nextTop s'))
  else s

/-! ## Samples (R131, R147) -/

/-- R131: a set added to the open segment. -/
def addToSegment (v : SampleSet) (saturated : Bool) (g : Segment) : Segment :=
  if g.count < 65535 then
    { g with count := g.count + 1, sumX := g.sumX + v.x, sumY := g.sumY + v.y, sumPsi := g.sumPsi + v.psi
             flags := { g.flags with saturated := g.flags.saturated || saturated
                                     capped := g.flags.capped || decide (g.count + 1 = 65535) } }
  else g

/-- R131, R147: SU takes a valid set. -/
def surveySample (v : SampleSet) (saturated : Bool) (s : State) : State :=
  match s.su.state with
  | .accumulating => refreshLive (s.setSu { s.su with segment := s.su.segment.map (addToSegment v saturated) })
  | .holding => refreshLive s
  | .checking =>
    if s.su.target.isSome && decide (s.su.checkCount < 65535) then
      s.setSu { s.su with checkCount := s.su.checkCount + 1, checkSumX := s.su.checkSumX + v.x
                          checkSumY := s.su.checkSumY + v.y }
    else s
  | .idle | .claimed | .armed | .closed | .full | .checkHolding => s

/-! ## Stopping a run (R127) -/

/-- R127: the open segment becomes a SHORT record or is discarded, and the run ends. -/
def stopRun (s : State) : State :=
  match s.su.segment with
  | none => refreshLive (s.setSu { s.su with state := .closed, nextTop := 0 })
  | some g =>
    if 1 ≤ g.count ∧ g.top + 500 ≤ s.dr.toe then
      let s' := writeRecord g (min s.dr.toe (g.top + g.length)) true s
      if 1024 ≤ s'.su.pointer then refreshLive (fillTable s')
      else refreshLive (s'.setSu { s'.su with state := .closed })
    else refreshLive (s.setSu { s.su with state := .closed, segment := none })

/-! ## The check pass (R143 to R152) -/

/-- R148: the verdict of a second reading. -/
def verdictOf (count : Nat) (dx dy tolerance : Nat) : Verdict :=
  if count = 0 then .noData
  else match decide (tolerance < dx), decide (tolerance < dy) with
    | false, false => .agree
    | true, false => .xOnly
    | false, true => .yOnly
    | true, true => .both

/-- R148: the check field of a record for the sums gathered. -/
def checkFieldOf (r : SurveyRecord) (count : Nat) (sumX sumY : Int) (tolerance : Nat) : CheckField :=
  let mx := meanOf sumX count
  let my := meanOf sumY count
  { count := count, meanX := mx, meanY := my
    verdict := verdictOf count (mx - r.meanX).natAbs (my - r.meanY).natAbs tolerance }

/-- The check field of a record passed over (R149). -/
def noDataField : CheckField := { count := 0, meanX := 0, meanY := 0, verdict := .noData }

/-- One verdict counted, `n` times. -/
def VerdictCounts.add (c : VerdictCounts) (v : Verdict) (n : Nat) : VerdictCounts :=
  match v with
  | .agree => { c with agree := c.agree + n }
  | .xOnly => { c with xOnly := c.xOnly + n }
  | .yOnly => { c with yOnly := c.yOnly + n }
  | .both => { c with both := c.both + n }
  | .noData => { c with noData := c.noData + n }

/-- R148: SU writes the target's check field, counts its verdict and empties the sums. -/
def writeCheck (index : Nat) (s : State) : State :=
  match s.su.records[index]? with
  | none => s
  | some r =>
    let f := checkFieldOf r s.su.checkCount s.su.checkSumX s.su.checkSumY s.su.tolerance
    s.setSu { s.su with records := s.su.records.set index { r with check := some f }
                        verdicts := s.su.verdicts.add f.verdict 1, checkCount := 0, checkSumX := 0, checkSumY := 0 }

/-- R149: the first `bound` records that lie below a depth are written NO_DATA. -/
def passOver (depth : Nat) : Nat → List SurveyRecord → List SurveyRecord
  | 0, rs => rs
  | _ + 1, [] => []
  | n + 1, r :: rs => (if depth < r.top then { r with check := some noDataField } else r) :: passOver depth n rs

/-- How many of the first `bound` records lie below a depth. -/
def countPassed (depth : Nat) : Nat → List SurveyRecord → Nat
  | 0, _ => 0
  | _ + 1, [] => 0
  | n + 1, r :: rs => (if depth < r.top then 1 else 0) + countPassed depth n rs

/-- R144: the index of the record containing a depth. -/
def recordContaining (depth : Nat) : List SurveyRecord → Nat → Option Nat
  | [], _ => none
  | r :: rs, k => if r.top ≤ depth ∧ depth < r.bottom then some k else recordContaining depth rs (k + 1)

/-- R150: the pass ends. -/
def endCheck (s : State) : State :=
  raise .checkDone
    (s.setSu { s.su with
      target := none, checkCount := 0, checkSumX := 0, checkSumY := 0, checkFront := 0, checkFromFull := false
      state := (if s.su.claimant.isNone then .idle else if s.su.pointer = 1024 then .full else .closed) })

/-- Whether the depth lies above the first record's top (R144, R150). -/
def aboveTable (s : State) : Bool :=
  match s.su.records with
  | [] => false
  | r :: _ => decide (s.dr.depth < r.top)

/-- R149: the records below `bound` that the frame passed over are written, and the target moves up, or the pass ends. -/
def moveTarget (bound : Nat) (s : State) : State :=
  let s' := s.setSu { s.su with
    records := passOver s.dr.depth bound s.su.records
    verdicts := s.su.verdicts.add .noData (countPassed s.dr.depth bound s.su.records)
    checkCount := 0, checkSumX := 0, checkSumY := 0
    target := recordContaining s.dr.depth s.su.records 0 }
  if aboveTable s then endCheck s' else s'

/-- R148, R149: the closes and the target at a depth update of the pass. -/
def advanceCheck (s : State) : State :=
  match s.su.target with
  | some i =>
    match s.su.records[i]? with
    | some r => if s.dr.depth < r.top then moveTarget i (writeCheck i s) else s
    | none => s
  | none =>
    match s.su.records.getLast? with
    | some r => if s.dr.depth < r.bottom then moveTarget s.su.pointer s else s
    | none => s

/-- R151: a pass ended by a stop: the target is written when anything was gathered. -/
def stopCheck (s : State) : State :=
  match s.su.target with
  | some i => if 1 ≤ s.su.checkCount then endCheck (writeCheck i s) else endCheck s
  | none => endCheck s

/-! ## Depth updates (R22) -/

/-- SU takes a depth update or a change of depth state. -/
def surveyDepth (s : State) : State :=
  match s.su.state with
  | .armed => if s.dr.state = .valid then judgeArming s else s
  | .accumulating | .holding =>
    let s' := judgeAccumulate s
    refreshLive (if s.dr.state = .valid then closePassed tableRoom s' else s')
  | .checking | .checkHolding =>
    if s.dr.state = .valid then
      judgeCheck (advanceCheck (s.setSu { s.su with checkFront := min s.su.checkFront s.dr.depth }))
    else judgeCheck s
  | .idle | .claimed | .closed | .full => s

/-- R121: SU takes the loss of a port: the claimant, if it was that port, becomes none. -/
def surveyLoss (port : Port) (s : State) : State :=
  if s.su.claimant = some port then
    s.setSu { s.su with claimant := none
                        state := (if s.su.state.running then s.su.state else .idle) }
  else s

end Sys2Proof.Machine
end

