-- ==== Sys2Proof/Machine/HubOps.lean ====
section
/-! DEFINITION. Shared operations across the blocks: zone selection, the depth update and its hand-on, the pressure
cross-check, and the wheels' changes of state outside the governor's ramp. -/

namespace Sys2Proof.Machine

/-! ## Ground Zone Table (R39, R41, R43) -/

/-- R43: the current zone's values are handed to WG and RC. -/
def handZone (s : State) : State :=
  let z := zoneOf s.zt.entries s.zt.current
  judgeFallback (recomputeFeed
    { s with wg := { s.wg with zoneCeiling := z.speedCeiling, zoneHold := z.holdPressure, zoneStall := z.stallPressure }
             rc := { s.rc with feedCeiling := z.feedCeiling } })

/-- R41: the current zone re-selected at a depth update. -/
def selectZone (depth : Nat) (s : State) : State :=
  let i := zoneIndexAt s.zt.entries depth
  let s' : State := { s with zt := { s.zt with current := i, selectionDepth := depth } }
  if i = s.zt.current then s' else handZone (raise .zoneChange s')

/-- R39: a taken change of the table, with the current zone selected afresh. -/
def changeTable (entries : List ZoneEntry) (s : State) : State :=
  let i := zoneIndexAt entries s.zt.selectionDepth
  let s' : State := { s with zt := { s.zt with entries := entries, current := i } }
  if i ≠ s.zt.current then handZone (raise .zoneChange s')
  else if zoneOf entries i ≠ zoneOf s.zt.entries i then handZone s'
  else s'

/-! ## Depth Reference -/

/-- R22: the depth update handed to ZT, then to SU, SLU and RC. -/
def handDepth (s : State) : State := recomputeFeed (reevaluate (surveyDepth (selectZone s.dr.depth s)))

/-- R28: the measured feed rate of a toe history. -/
def measuredFeed (history : List Nat) : Nat :=
  match history with
  | [] | [_] => 0
  | oldest :: next :: rest =>
    (((next :: rest).getLast?.getD 0 - oldest) * 12) / (10 * (rest.length + 1))

/-- R28: F_meas is replaced, and handed to RC when it differs. -/
def setFeedRate (v : Nat) (s : State) : State :=
  if v = s.dr.fMeas then s else recomputeFloor { s with dr := { s.dr with fMeas := v } }

/-- R20, R24: the toe history is emptied and the snapshot interval restarts. -/
def emptyHistory (s : State) : State :=
  setFeedRate 0 { s with dr := { s.dr with history := [], snapshotLeft := 5000 } }

/-- The greatest depth (R21). -/
def maxDepth : Nat := 3200000

/-- R21: the raw depth of a count. -/
def rawDepth (s : State) (count : Int) : Int := s.dr.datum + s.mfe.depthScaler.convert (count - s.dr.c0)

/-- R21, R26: the depth, its range flags and the toe of a count; DEPTH_RANGE when RANGE goes from clear to set. -/
def takeCount (count : Int) (s : State) : State :=
  let raw := rawDepth s count
  let depth := clampNat raw maxDepth
  let beyond := decide ((maxDepth : Int) < raw)
  let s' : State :=
    { s with dr := { s.dr with depth := depth, aboveDatum := decide (raw < 0), range := beyond
                               toe := max s.dr.toe depth } }
  if beyond && !s.dr.range then raise .depthRange s' else s'

/-- R20: a count taken in each depth state. -/
def reportCount (count : Int) (s : State) : State :=
  let s' : State := { s with dr := { s.dr with lastCount := count, countReceived := true } }
  match s.dr.state with
  | .unset => s'
  | .valid => handDepth (takeCount count s')
  | .stale => handDepth (takeCount count (emptyHistory { s' with dr := { s'.dr with state := .valid } }))

/-- R24: a taken SET_DATUM. -/
def takeDatum (datum : Nat) (s : State) : State :=
  handDepth (emptyHistory
    { s with dr := { s.dr with
        c0 := s.dr.lastCount, datum := datum, depth := datum, state := .valid, aboveDatum := false, range := false
        toe := datum, outRun := 0, inRun := 0 } })

/-- R25, R31: the hoist port is LOST; a VALID depth becomes STALE and the change is handed on. -/
def goStale (s : State) : State :=
  if s.dr.state = .valid then
    handDepth { s with dr := { s.dr with state := .stale, outRun := 0, inRun := 0 } }
  else s

/-! ## The pressure cross-check (R29 to R31) -/

/-- DISAGREE is replaced, and a change is handed to SU and SLU. -/
def setDisagree (d : Bool) (s : State) : State :=
  if d = s.dr.disagree then s else reevaluate (judgeSurvey { s with dr := { s.dr with disagree := d } })

/-- R29: the plant port is LOST. -/
def suspendCrossCheck (s : State) : State :=
  setDisagree false { s with dr := { s.dr with crossCheck := .noDensity, outRun := 0, inRun := 0 } }

/-- R30: the pressure depth of a head pressure. -/
def pressureDepth (p rho offset : Nat) : Nat := (p * 10000000) / (rho * 981) + offset

/-- R31: whether a sample is compared. -/
def compared (s : State) (saturated : Bool) : Bool :=
  s.dr.crossCheck = .comparing && s.dr.state = .valid && !saturated

/-- R31: |depth − h_p| is greater than the band. -/
def outOfBand (d : Dr) : Bool := decide (d.depth > d.hp + d.band) || decide (d.hp > d.depth + d.band)

/-- R31: one more on a run counter, saturating at 255. -/
def count255 (n : Nat) : Nat := min 255 (n + 1)

/-- R31: DISAGREE is set and DEPTH_DISAGREE raised. -/
def raiseDisagree (s : State) : State := setDisagree true (raise .depthDisagree s)

/-- R31: the judgement of a compared sample. -/
def compareDepth (s : State) : State :=
  if outOfBand s.dr then
    let s' : State := { s with dr := { s.dr with outRun := count255 s.dr.outRun, inRun := 0 } }
    if !s.dr.disagree && decide (3 ≤ s'.dr.outRun) then raiseDisagree s' else s'
  else
    let s' : State := { s with dr := { s.dr with inRun := count255 s.dr.inRun, outRun := 0 } }
    if s.dr.disagree && decide (3 ≤ s'.dr.inRun) then setDisagree false s' else s'

/-- R30, R31: DR takes a head pressure sample. -/
def takeHeadPressure (r : Reading) (s : State) : State :=
  let s' : State :=
    { s with mfe := { s.mfe with headPressure := r }
             dr := { s.dr with hp := pressureDepth r.value s.dr.rho s.dr.offset } }
  if compared s' r.saturated then compareDepth s' else s'

/-! ## Wheels -/

/-- Replaces a wheel. -/
def State.setWheel (w : Wheel) (v : WheelRec) (s : State) : State :=
  { s with wg := { s.wg with wheels := s.wg.wheels.set w v } }

/-- A wheel leaving RUNNING or the normal law: no stall run, no zero gates, TORQUE_HOLD clear (R56, R58, R60). -/
def quietWheel (st : WheelState) (target : Int) (w : WheelRec) : WheelRec :=
  { w with state := st, target := target, torqueHold := false, stallTimer := none, zeroGates := 0 }

/-- R48: a negative present reference is set to 0 at a change away from RECOVERING. -/
def noReverse (w : WheelRec) : WheelRec := if w.present < 0 then { w with acc := 0 } else w

/-- R63: one wheel at a halt; a wheel already HALTING or HALTED stays as it is. -/
def haltWheel (w : WheelRec) : WheelRec :=
  if w.state = .halting ∨ w.state = .halted then w
  else if (noReverse w).present = 0 then quietWheel .halted 0 { w with acc := 0 }
  else quietWheel .halting 0 (noReverse w)

/-- R64: HALTED is raised once for each wheel that has come to rest since an earlier state. -/
def raiseHalted (before : PerWheel WheelRec) (s : State) : State :=
  let fresh (w : Wheel) : Bool :=
    (s.wg.wheels.get w).state = .halted && (before.get w).state != .halted
  if fresh .a || fresh .b then raise .halted s else s

/-- The handing of a change of wheel state to RC (and to MFE, whose TACH scaler follows from it). -/
def handWheels (before : PerWheel WheelRec) (s : State) : State :=
  if s.wg.wheels.a.state = before.a.state ∧ s.wg.wheels.b.state = before.b.state then s else recomputeFeed s

/-- R84: the record is cleared and the clearing handed to SU and SLU. -/
def clearRecord (s : State) : State :=
  reevaluate (judgeRecovery { s with sru := { s.sru with record := none } })

/-- The last outcome of a recovery (R81, R82, R84). -/
def setOutcome (how : RecoveryEnd) (r : Recovery) (s : State) : State :=
  { s with sru := { s.sru with lastEnd := how, lastWheel := r.wheel, lastBurst := r.burst } }

/-- R84: a recovery, if there is one, is aborted. -/
def abortRecovery (s : State) : State :=
  match s.sru.record with
  | none => s
  | some r => setOutcome .aborted r (clearRecord s)

/-- R63, R66: the halt, without the release of a held queue head. -/
def haltWheels (s : State) : State :=
  let s1 := abortRecovery s
  let after : PerWheel WheelRec := { a := haltWheel s1.wg.wheels.a, b := haltWheel s1.wg.wheels.b }
  let s2 : State := { s1 with wg := { s1.wg with wheels := after } }
  handWheels s.wg.wheels (raiseHalted s.wg.wheels s2)

/-- R59, R74: the stall of a wheel is taken. -/
def takeStall (w : Wheel) (s : State) : State :=
  let s1 := s.setWheel w (quietWheel .recovering 0 (s.wg.wheels.get w))
  let s2 := s1.setWheel (other w) (quietWheel .standby 0 (noReverse (s.wg.wheels.get (other w))))
  let s3 := raise .stall s2
  let fresh : Recovery := { wheel := w, phase := .stopping, burst := 1, phaseTimer := none, burstTimer := none }
  let s4 : State := { s3 with sru := { s3.sru with record := some fresh } }
  handWheels s.wg.wheels (reevaluate (judgeRecovery s4))

/-- R61: the partner of a wheel in fault. -/
def standAside (w : WheelRec) : WheelRec :=
  if w.state = .stopped ∨ w.state = .running then quietWheel .standby 0 w else { w with torqueHold := false }

/-- R61: the tach fault of a wheel is taken. -/
def takeTachFault (w : Wheel) (s : State) : State :=
  let s1 := s.setWheel w (quietWheel .tachFault 0 { s.wg.wheels.get w with acc := 0 })
  let s2 := s1.setWheel (other w) (standAside (s.wg.wheels.get (other w)))
  handWheels s.wg.wheels (raise .tachFault s2)

/-- R57: a wheel enters the normal law outside an update, with the normal target last computed. -/
def enterNormal (g : Wg) (w : Wheel) : WheelRec :=
  let v := g.wheels.get w
  let t := normalTarget w g.ceiling g.sEff g.trim
  quietWheel (if t ≠ 0 ∨ v.present ≠ 0 then .running else .stopped) t v

/-- R62, R83: whether a wheel's state is one that CLEAR_JAM ends. -/
def jammedOrFault (w : WheelRec) : Bool := w.state = .jammed || w.state = .tachFault

/-- R62, R83: a wheel returned to the normal law by CLEAR_JAM. -/
def unjam (g : Wg) (w : Wheel) : WheelRec :=
  let v := g.wheels.get w
  if jammedOrFault v || v.state = .standby then enterNormal g w else v

/-- R62, R83: CLEAR_JAM with a wheel in JAMMED or TACH_FAULT. -/
def clearJamTaken (s : State) : State :=
  handWheels s.wg.wheels
    { s with wg := { s.wg with wheels := { a := unjam s.wg .a, b := unjam s.wg .b } } }

end Sys2Proof.Machine
end

