-- ==== Sys2Proof/Machine/Apply.lean ====
section
/-! DEFINITION. What the owning block does with each posted request at its application (R185): it is taken, with a new
state, or refused with a code. -/

namespace Sys2Proof.Machine

/-- A value inside its range, both ends included. -/
def inRange (v lo hi : Nat) : Bool := decide (lo ≤ v) && decide (v ≤ hi)

/-! ## Measurement Front End -/

/-- R2: the integer test of an instance on its settings (DEPTH, TACH, FLOW as 0, 1, 2). -/
def ratioOk (scaler : Nat) (k : Scaler) : Bool :=
  match scaler with
  | 0 => decide (5 * k.r * k.od ≤ 2 * k.n) && decide (k.n ≤ 40 * k.r * k.od)
  | 1 => decide (k.r * k.od ≤ k.n) && decide (k.n ≤ 60 * k.r * k.od)
  | _ => decide (k.r * k.od ≤ k.n) && decide (k.n ≤ 100 * k.r * k.od)

/-- R3: the state of the named instance. -/
def scalerRunning (scaler : Nat) (s : State) : Bool :=
  match scaler with
  | 0 => depthScalerRunning s
  | 1 => tachScalerRunning s
  | _ => flowScalerRunning s

def replaceScaler (scaler : Nat) (k : Scaler) (m : Mfe) : Mfe :=
  match scaler with
  | 0 => { m with depthScaler := k }
  | 1 => { m with tachScaler := k }
  | _ => { m with flowScaler := k }

/-- R4. -/
def applySetScaler (scaler n r od : Nat) (s : State) : Except Status State :=
  let k : Scaler := { n := n, r := r, od := od }
  if !(decide (scaler ≤ 2) && inRange n 2 511 && inRange r 2 31 && (od == 1 || od == 2 || od == 4)) then
    .error .outOfRange
  else if !ratioOk scaler k then .error .outOfRange
  else if scalerRunning scaler s then .error .locked
  else .ok { s with mfe := replaceScaler scaler k s.mfe }

/-! ## Depth Reference -/

/-- R32. -/
def applySetDepthCheck (offset band : Nat) (s : State) : Except Status State :=
  if inRange offset 0 50000 && inRange band 1000 50000 then
    .ok { s with dr := { s.dr with offset := offset, band := band } }
  else .error .outOfRange

/-! ## Ground Zone Table -/

/-- R37, check 1: the fields of a LOAD_ZONE as an entry, when each is within its range of R35. -/
def zoneFields (upper cls speed hold stall feed selector : Nat) : Option ZoneEntry :=
  match classNamed cls, selectorNamed selector with
  | some c, some l =>
    if inRange upper 1 maxDepth && inRange speed 0 350 && inRange hold 1000 4500 && inRange stall hold 4500 &&
        inRange feed 0 200 then
      some { upper := upper, cls := c, speedCeiling := speed, holdPressure := hold, stallPressure := stall,
             feedCeiling := feed, selector := l }
    else none
  | _, _ => none

/-- R37, check 3: the bound rises strictly between its neighbours. -/
def boundInOrder (entries : List ZoneEntry) (k upper : Nat) : Bool :=
  (match k with
   | 0 => true
   | j + 1 => match entries[j]? with
     | some above => decide (above.upper < upper)
     | none => false) &&
  (match entries[k + 1]? with
   | some below => decide (upper < below.upper)
   | none => true)

/-- R37: slot k replaced, or appended when k is n. -/
def putZone (entries : List ZoneEntry) (k : Nat) (e : ZoneEntry) : List ZoneEntry :=
  if k < entries.length then entries.set k e else entries ++ [e]

/-- R37. -/
def applyLoadZone (k upper cls speed hold stall feed selector : Nat) (s : State) : Except Status State :=
  match zoneFields upper cls speed hold stall feed selector with
  | none => .error .outOfRange
  | some e =>
    if 7 < k then .error .outOfRange
    else if s.zt.entries.length < k then .error .order
    else if !boundInOrder s.zt.entries k upper then .error .order
    else .ok (changeTable (putZone s.zt.entries k e) s)

/-- R38. -/
def applyDropZone (k : Nat) (s : State) : Except Status State :=
  if 7 < k then .error .outOfRange
  else if k < s.zt.entries.length then .ok (changeTable (s.zt.entries.take k) s)
  else .ok s

/-! ## Wheel Governor and Stall Recovery -/

/-- R49. -/
def applySetWheelDemand (v : Nat) (s : State) : Except Status State := .ok { s with wg := { s.wg with demand := v } }

/-- R50. -/
def applySetRamp (v : Nat) (s : State) : Except Status State := .ok { s with wg := { s.wg with ramp := v } }

/-- R51, R52. -/
def applySetFallbackSpeed (v : Nat) (s : State) : Except Status State :=
  if inRange v 0 150 then .ok (judgeFallback { s with wg := { s.wg with fallback := v } }) else .error .outOfRange

/-- R62, R83. -/
def applyClearJam (s : State) : Except Status State :=
  if jammedOrFault s.wg.wheels.a || jammedOrFault s.wg.wheels.b then .ok (clearJamTaken s) else .error .wrongState

/-- R71: the ranges of the recovery settings. -/
def recoveryOk (k : RecoverySettings) : Bool :=
  inRange k.bursts 1 8 && inRange k.reverseSpeed 20 100 && inRange k.reverseTime 500 5000 &&
  inRange k.restTime 500 5000 && inRange k.probeSpeed 20 150 && inRange k.probeTime 1000 10000

/-- R72. -/
def applySetRecovery (k : RecoverySettings) (s : State) : Except Status State :=
  if recoveryOk k then .ok { s with sru := { s.sru with settings := k } } else .error .outOfRange

/-! ## Steering -/

/-- R87. -/
def applySetSteerMode (mode : Nat) (s : State) : Except Status State :=
  match mode with
  | 1 => .ok (reevaluate { s with slu := { s.slu with chosenAuto := true } })
  | 2 => .ok (reevaluate { s with slu := { s.slu with chosenAuto := false } })
  | _ => .error .outOfRange

/-- R98. -/
def applySetTrimManual (v : Int) (s : State) : Except Status State :=
  .ok { s with slu := { s.slu with
    manualTrim := v, offeredTrim := if s.slu.actual = .manual then v else s.slu.offeredTrim } }

/-- R100: the ranges of the steering settings. -/
def gainsOk (k : SteerSettings) : Bool :=
  inRange k.kx 0 200 && inRange k.ky 0 500 && inRange k.kt 0 500 && inRange k.deadband 0 100 &&
  inRange k.twistDeadband 0 100 && inRange k.lr10 20 200 && inRange k.trimLimit 0 60 && inRange k.startDepth 0 200000

/-- R100. -/
def applySetSteerGains (k : SteerSettings) (s : State) : Except Status State :=
  if gainsOk k then
    let s' : State := { s with slu := { s.slu with settings := k } }
    .ok (if k.startDepth = s.slu.settings.startDepth then s' else reevaluate s')
  else .error .outOfRange

/-- R99. -/
def applySetPlate (plate extension : Nat) (s : State) : Except Status State :=
  match plateNamed plate with
  | none => .error .outOfRange
  | some q =>
    if s.slu.chosenAuto then .error .wrongState
    else
      let s' : State := { s with slu := { s.slu with manualPlates := s.slu.manualPlates.set q extension } }
      .ok (if s.slu.actual = .manual then commandPlate q extension s' else s')

/-- R111: a STUCK plate made SETTLED where it stands. -/
def freePlate (v : Plate) : Plate :=
  { v with move := .settled, command := v.extension.value, moveTimer := none, settleTimer := none }

/-- R111. -/
def applyClearPlate (plate : Nat) (s : State) : Except Status State :=
  match plateNamed plate with
  | none => .error .outOfRange
  | some q =>
    if (s.psv.get q).move = .stuck then
      .ok (handPlate q (s.slu.commands.get q) { s with psv := s.psv.set q (freePlate (s.psv.get q)) })
    else .error .wrongState

/-! ## Return Controller -/

/-- R163: Qc of 0 in a state other than OFF. -/
def returnOff (s : State) : State :=
  changeReturn .off { s with rc := { s.rc with primingTimer := none, starvation := 0, armed := false } }

/-- R155, R163. -/
def applySetPumpDemand (qc : Nat) (s : State) : Except Status State :=
  if qc = s.rc.qc then .ok s
  else
    let s' := rejudgeShort { s with rc := recomputeDemand { s.rc with qc := qc } }
    .ok (if s'.rc.state = .off then (if qc = 0 then s' else testPlant s')
         else if qc = 0 then returnOff s' else s')

/-- R158: the ranges of the transport settings. -/
def transportOk (t : Transport) : Bool :=
  inRange t.cutLength 220 400 && inRange t.thickness 60 200 && inRange t.hose 100 250 && inRange t.velocity 15 50 &&
  inRange t.c100 10 35 && inRange t.rhoCut 2000 2800 && inRange t.primingTime 5000 120000

/-- R158. -/
def applySetTransport (t : Transport) (s : State) : Except Status State :=
  if transportOk t then .ok (recomputeFeed (recomputeFloor { s with rc := { s.rc with transport := t } }))
  else .error .outOfRange

/-! ## Port Interfaces -/

/-- R188: the range of a port's silence timeout. -/
def timeoutOk (port : Port) (ms : Nat) : Bool :=
  match port with
  | .cabin => inRange ms 500 10000
  | .plant => inRange ms 1000 60000
  | .hoist => inRange ms 200 5000

/-- R188. -/
def applySetPortTimeout (portName ms : Nat) (s : State) : Except Status State :=
  match portNamed portName with
  | none => .error .outOfRange
  | some port =>
    if timeoutOk port ms then .ok (s.setPort port { s.port port with timeout := ms }) else .error .outOfRange

/-! ## Event Unit -/

/-- R196, R197: whether a set names a bit from 19 to 31. -/
def namesNoKind (set : EventSet) : Bool := (set >>> 19) != 0

/-- Replaces a port's event sets and mode. -/
def State.setEu (port : Port) (e : EuPort) (s : State) : State :=
  { s with eu := { s.eu with ports := s.eu.ports.set port e } }

/-- R196. -/
def applyAckEvents (port : Port) (set : EventSet) (s : State) : Except Status State :=
  if namesNoKind set then .error .outOfRange
  else
    let e := s.eu.ports.get port
    .ok (s.setEu port { e with latched := e.latched &&& ~~~set })

/-- R197. -/
def applySetEventEnables (port : Port) (set : EventSet) (s : State) : Except Status State :=
  if namesNoKind set then .error .outOfRange
  else .ok (s.setEu port { s.eu.ports.get port with enabled := set })

/-- R198. -/
def applySetAlertLine (port : Port) (mode : Nat) (s : State) : Except Status State :=
  match alertModeNamed mode with
  | none => .error .outOfRange
  | some m =>
    let e := s.eu.ports.get port
    if e.enabled ≠ 0 then .error .wrongState else .ok (s.setEu port { e with mode := m })

/-- R199. -/
def applySetMarkWidth (ms : Nat) (s : State) : Except Status State :=
  if inRange ms 10 2000 then .ok { s with eu := { s.eu with markWidth := ms } } else .error .outOfRange

/-! ## One request -/

/-- R185: a request at its owning block. `port` is the port whose queue it stood in. -/
def applyPosted (port : Port) (r : Posted) (s : State) : Except Status State :=
  match r with
  | .setScaler scaler n rr od => applySetScaler scaler n rr od s
  | .setDepthCheck offset band => applySetDepthCheck offset band s
  | .loadZone k upper cls speed hold stall feed selector => applyLoadZone k upper cls speed hold stall feed selector s
  | .dropZone k => applyDropZone k s
  | .setWheelDemand v => applySetWheelDemand v s
  | .setRamp v => applySetRamp v s
  | .setFallbackSpeed v => applySetFallbackSpeed v s
  | .clearJam => applyClearJam s
  | .setRecovery k => applySetRecovery k s
  | .setSteerMode mode => applySetSteerMode mode s
  | .setTrimManual v => applySetTrimManual v s
  | .setSteerGains k => applySetSteerGains k s
  | .setPlate plate extension => applySetPlate plate extension s
  | .clearPlate plate => applyClearPlate plate s
  | .setPumpDemand qc => applySetPumpDemand qc s
  | .setTransport t => applySetTransport t s
  | .setPortTimeout portName ms => applySetPortTimeout portName ms s
  | .ackEvents set => applyAckEvents port set s
  | .setEventEnables set => applySetEventEnables port set s
  | .setAlertLine mode => applySetAlertLine port mode s
  | .setMarkWidth ms => applySetMarkWidth ms s

end Sys2Proof.Machine
end

