-- ==== Sys2Proof/Machine/QueueOps.lean ====
section
/-! DEFINITION. Shared operations of the posted queues: refusal records, the application of heads, holds and their
release (R184 to R186). -/

namespace Sys2Proof.Machine

/-- R185: a refusal written to the port's record, counted, and raised in that port's set. -/
def recordRefusal (port : Port) (e : Entry) (code : Status) (s : State) : State :=
  let q := s.port port
  raiseRefused port
    (s.setPort port { q with rejection := some { kind := e.request.kind, tag := e.tag, code := code }
                             refused := min 255 (q.refused + 1) })

/-- R185: one entry delivered to its owning block and taken or refused there. -/
def applyEntry (port : Port) (e : Entry) (s : State) : State :=
  match applyPosted port e.request s with
  | .ok s' => s'
  | .error code => recordRefusal port e code s

/-- The queue of a port and the hold timer of its head, replaced. -/
def setQueue (port : Port) (queue : List Entry) (hold : Option Nat) (s : State) : State :=
  s.setPort port { s.port port with queue := queue, hold := hold }

/-- R186: the time a held head may wait. -/
def holdTime : Nat := 10000

/-- R185, R186: entries that become heads one after another: each is applied, until one is held or none is left. -/
def drainList (port : Port) : List Entry → State → State
  | [], s => setQueue port [] none s
  | e :: es, s =>
    if held e.request s then setQueue port (e :: es) (some holdTime) s
    else drainList port es (applyEntry port e s)

/-- The head of a port's queue is judged, and applied when it is not held. -/
def drain (port : Port) (s : State) : State := drainList port (s.port port).queue s

/-- R184: an entry joins the tail; in an empty queue it becomes the head and is judged. -/
def joinQueue (port : Port) (e : Entry) (s : State) : State :=
  let q := s.port port
  if q.queue.isEmpty then drainList port [e] s
  else s.setPort port { q with queue := q.queue ++ [e] }

/-- R186: the end of a hold releases the cabin's head when the head is one that this end concerns. Only the cabin port
takes the kinds that can be held. -/
def releaseHead (concerns : Posted → Bool) (s : State) : State :=
  match s.pi.ports.cabin.hold, s.pi.ports.cabin.queue with
  | some _, e :: _ => if concerns e.request then drain .cabin s else s
  | _, _ => s

/-- The heads held while a recovery exists. -/
def heldForRecovery (r : Posted) : Bool :=
  match r with
  | .setWheelDemand _ | .setRamp _ | .setRecovery _ => true
  | .setPlate _ _ | .setScaler .. | .setDepthCheck .. | .loadZone .. | .dropZone _ | .setFallbackSpeed _ | .clearJam
  | .setSteerMode _ | .setTrimManual _ | .setSteerGains _ | .clearPlate _ | .setPumpDemand _ | .setTransport _
  | .setPortTimeout _ _ | .ackEvents _ | .setEventEnables _ | .setAlertLine _ | .setMarkWidth _ => false

/-- The head held while a plate's move is in progress. -/
def heldForPlate (q : PlateId) (r : Posted) : Bool :=
  match r with
  | .setPlate plate _ => plateNamed plate = some q
  | .setWheelDemand _ | .setRamp _ | .setRecovery _ | .setScaler .. | .setDepthCheck .. | .loadZone .. | .dropZone _
  | .setFallbackSpeed _ | .clearJam | .setSteerMode _ | .setTrimManual _ | .setSteerGains _ | .clearPlate _
  | .setPumpDemand _ | .setTransport _ | .setPortTimeout _ _ | .ackEvents _ | .setEventEnables _ | .setAlertLine _
  | .setMarkWidth _ => false

/-- R186: the clearing of the recovery record is handed to PI. -/
def releaseRecovery (s : State) : State := releaseHead heldForRecovery s

/-- R110, R186: the end of a plate's move is handed to PI. -/
def releasePlate (q : PlateId) (s : State) : State := releaseHead (heldForPlate q) s

/-- R184: a posted request of a kind on its way into the queue: refused QUEUE_FULL, or answered TAKEN or TAKEN_CLAMPED
and joined. `make` gives the entry's values, and whether one was clamped. -/
def post (k : Kind) (port : Port) (tag : Byte) (payload : List Byte) (make : State → Posted × Bool) (s : State) :
    State :=
  receive k port tag payload
    (fun t =>
      if 8 ≤ (t.port port).queue.length then reply k port tag .queueFull [] t
      else
        let made := make t
        joinQueue port { request := made.1, tag := tag }
          (reply k port tag (if made.2 then .takenClamped else .taken) [] t))
    s

end Sys2Proof.Machine
end

