-- ==== Sys2Proof/Machine/Survey.lean ====
section
/-! DEFINITION. The commands of the chapter Survey Runs and the Survey Table: SURVEY_CLAIM, SURVEY_RELEASE,
SURVEY_CONFIG, SURVEY_CLEAR, SURVEY_SET_POINTER, SURVEY_START, SURVEY_STOP, SURVEY_WINDOW, READ_NEXT, QUERY_SURVEY. -/

namespace Sys2Proof.Machine

/-- R119, R122: the survey state, the claimant and the pointer. -/
def contextBytes (s : State) : List Byte :=
  name (surveyStateCode s.su.state) ++ name (claimantCode s.su.claimant) ++ num s.su.pointer

/-! ## The claim (R119, R120) -/

/-- R119: whether a claim of a port is taken. -/
def claimTaken (port : Port) (u : Su) : Bool :=
  match u.claimant with
  | none => u.state = .idle || u.state.running
  | some p => p = port

/-- R119: the context after a taken claim. -/
def claimSurvey (port : Port) (u : Su) : Su :=
  { u with claimant := some port, state := if u.state = .idle then .claimed else u.state }

def execSurveyClaim (port : Port) (tag : Byte) (payload : List Byte) (s : State) : Result :=
  .next (receive .surveyClaim port tag payload
    (fun t =>
      if claimTaken port t.su then
        let t' := t.setSu (claimSurvey port t.su)
        reply .surveyClaim port tag .done (contextBytes t') t'
      else reply .surveyClaim port tag .claimedByOther (name (claimantCode t.su.claimant)) t)
    s)

/-- R120: the check that refuses a release, if one fails. -/
def releaseRefusal (port : Port) (u : Su) : Option Status :=
  if u.claimant ≠ some port then some .notClaimant
  else if u.state.running then some .runActive
  else none

def execSurveyRelease (port : Port) (tag : Byte) (payload : List Byte) (s : State) : Result :=
  .next (receive .surveyRelease port tag payload
    (fun t =>
      match releaseRefusal port t.su with
      | some code => reply .surveyRelease port tag code (name (surveyStateCode t.su.state)) t
      | none =>
        let t' := t.setSu { t.su with claimant := none, state := .idle }
        reply .surveyRelease port tag .done (name (surveyStateCode t'.su.state)) t')
    s)

/-! ## Run requests (R122 to R127) -/

/-- R122: a run request, with its own checks and its effect; the reply carries the context whatever the status. -/
def runRequest (k : Kind) (port : Port) (tag : Byte) (payload : List Byte) (refusal : State → Option Status)
    (effect : State → State) (s : State) : State :=
  receive k port tag payload
    (fun t =>
      if t.su.claimant ≠ some port then reply k port tag .notClaimant (contextBytes t) t
      else match refusal t with
        | some code => reply k port tag code (contextBytes t) t
        | none => reply k port tag .done (contextBytes (effect t)) (effect t))
    s

/-- R116: the ranges of the four settings of SURVEY_CONFIG. -/
def configOk (l0 l1 startDepth tolerance : Nat) : Bool :=
  inRange l0 2500 50000 && inRange l1 2500 50000 && inRange startDepth 0 maxDepth && inRange tolerance 5 200

/-- R123: the settings replaced. -/
def configSurvey (payload : List Byte) (u : Su) : Su :=
  { u with l0 := natAt payload 0, l1 := natAt payload 4, startDepth := natAt payload 8, tolerance := natAt payload 12 }

/-- R123. -/
def configRefusal (payload : List Byte) (s : State) : Option Status :=
  if s.su.state.running then some .runActive
  else if s.su.state = .full then some .full
  else if configOk (natAt payload 0) (natAt payload 4) (natAt payload 8) (natAt payload 12) then none
  else some .outOfRange

def execSurveyConfig (port : Port) (tag : Byte) (payload : List Byte) (s : State) : Result :=
  .next (runRequest .surveyConfig port tag payload (configRefusal payload)
    (fun t => t.setSu (configSurvey payload t.su)) s)

/-- R124: refused in a running state. -/
def runningRefusal (s : State) : Option Status := if s.su.state.running then some .runActive else none

/-- R124: the table cleared. -/
def clearSurvey (u : Su) : Su := { u with records := [], rx := 0, ry := 0, verdicts := VerdictCounts.zero, state := .claimed }

def execSurveyClear (port : Port) (tag : Byte) (payload : List Byte) (s : State) : Result :=
  .next (runRequest .surveyClear port tag payload runningRefusal (fun t => t.setSu (clearSurvey t.su)) s)

/-- R125: the raw deviation rebuilt from the last record kept. -/
def rebuiltDeviation (records : List SurveyRecord) : Int × Int :=
  match records.getLast? with
  | some r => (r.dx * 100000, r.dy * 100000)
  | none => (0, 0)

/-- R125: the state after the pointer has been set. -/
def pointerState (p : Nat) : SurveyState :=
  if p = 0 then .claimed else if p = 1024 then .full else .closed

/-- R125: the table truncated to its first p records. -/
def truncateSurvey (p : Nat) (u : Su) : Su :=
  let kept := u.records.take p
  { u with records := kept, rx := (rebuiltDeviation kept).1, ry := (rebuiltDeviation kept).2, state := pointerState p }

/-- R125. -/
def pointerRefusal (p : Nat) (s : State) : Option Status :=
  if s.su.state.running then some .runActive else if s.su.pointer < p then some .outOfRange else none

def execSurveySetPointer (port : Port) (tag : Byte) (payload : List Byte) (s : State) : Result :=
  .next (runRequest .surveySetPointer port tag payload (pointerRefusal (natAt payload 0))
    (fun t => t.setSu (truncateSurvey (natAt payload 0) t.su)) s)

/-- R126. -/
def startRefusal (s : State) : Option Status :=
  if s.su.state.running then some .runActive
  else if s.su.state = .full then some .full
  else if 1024 ≤ s.su.pointer then some .full
  else if s.dr.state ≠ .valid then some .wrongState
  else none

/-- R126: the next top of a run. -/
def nextTopOf (u : Su) : Nat :=
  match u.records.getLast? with
  | some r => r.bottom
  | none => u.startDepth

/-- R126, R128: the run is armed, and the arming judged at once. -/
def startSurvey (s : State) : State :=
  judgeArming (s.setSu { s.su with state := .armed, nextTop := nextTopOf s.su })

def execSurveyStart (port : Port) (tag : Byte) (payload : List Byte) (s : State) : Result :=
  .next (runRequest .surveyStart port tag payload startRefusal startSurvey s)

/-- R127. -/
def stopRefusal (s : State) : Option Status := if s.su.state.running then none else some .wrongState

/-- R127, R151: the run or the check pass in progress is ended. -/
def stopSurvey (s : State) : State :=
  match s.su.state with
  | .armed | .accumulating | .holding => stopRun s
  | .checking | .checkHolding => stopCheck s
  | .idle | .claimed | .closed | .full => s

def execSurveyStop (port : Port) (tag : Byte) (payload : List Byte) (s : State) : Result :=
  .next (runRequest .surveyStop port tag payload stopRefusal stopSurvey s)

/-! ## Reading the table (R137 to R139) -/

/-- R137: whether a window is valid. -/
def windowOk (first last : Nat) : Bool := decide (first ≤ last) && decide (last ≤ 1023)

def execSurveyWindow (port : Port) (tag : Byte) (payload : List Byte) (s : State) : Result :=
  .next (receive .surveyWindow port tag payload
    (fun t =>
      let first := natAt payload 0
      let last := natAt payload 4
      if windowOk first last then
        reply .surveyWindow port tag .done []
          (t.setPort port { t.port port with windowFirst := first, windowLast := last, cursor := first })
      else reply .surveyWindow port tag .outOfRange [] t)
    s)

/-- R138: the record at a port's cursor, when the cursor is at or below the effective last. -/
def recordAtCursor (q : PortRec) (records : List SurveyRecord) : Option SurveyRecord :=
  if q.cursor ≤ q.windowLast then records[q.cursor]? else none

def execReadNext (port : Port) (tag : Byte) (payload : List Byte) (s : State) : Result :=
  .next (receive .readNext port tag payload
    (fun t =>
      let q := t.port port
      match recordAtCursor q t.su.records with
      | some r =>
        reply .readNext port tag .done (recordBytes q.cursor r) (t.setPort port { q with cursor := q.cursor + 1 })
      | none => reply .readNext port tag .end_ [] t)
    s)

/-- R139: the open segment's fields, each 0 when no segment is open. -/
def segmentBytes (g : Option Segment) : List Byte :=
  match g with
  | none => num 0 ++ num 0 ++ name 0 ++ name 0 ++ num 0 ++ num16 0
  | some g =>
    num g.top ++ num g.length ++ name (selectorCode g.selector) ++ name (classCode g.cls) ++ num g.count ++
    num16 (flagBits g.flags : Nat)

/-- The five verdict counts. -/
def verdictBytes (c : VerdictCounts) : List Byte :=
  num c.agree ++ num c.xOnly ++ num c.yOnly ++ num c.both ++ num c.noData

/-- R139: the reply's values. -/
def surveyBytes (port : Port) (s : State) : List Byte :=
  let u := s.su
  let q := s.port port
  contextBytes s ++ num u.l0 ++ num u.l1 ++ num u.startDepth ++ num u.tolerance ++
  num (if u.state = .armed then u.nextTop else 0 : Nat) ++ segmentBytes u.segment ++ num u.liveX ++ num u.liveY ++
  num64 u.rx ++ num64 u.ry ++ verdictBytes u.verdicts ++ num q.windowFirst ++ num q.windowLast ++ num q.cursor

def execQuerySurvey (port : Port) (tag : Byte) (payload : List Byte) (s : State) : Result :=
  .next (answer .querySurvey port tag payload (surveyBytes port) s)

end Sys2Proof.Machine
end

