-- ==== Sys2Proof/Machine/Check.lean ====
section
/-! DEFINITION. The commands of the chapter Check Pass: SURVEY_CHECK, QUERY_CHECK. -/

namespace Sys2Proof.Machine

/-- R143. -/
def checkRefusal (s : State) : Option Status :=
  if s.su.state ≠ .closed ∧ s.su.state ≠ .full then some .wrongState
  else if s.su.pointer = 0 then some .wrongState
  else if s.dr.state ≠ .valid then some .wrongState
  else none

/-- R143, R144: the context at the start of a pass. -/
def openedCheck (s : State) : Su :=
  { s.su with
    checkFromFull := s.su.state = .full, checkFront := s.dr.depth, verdicts := VerdictCounts.zero
    checkCount := 0, checkSumX := 0, checkSumY := 0, target := recordContaining s.dr.depth s.su.records 0
    state := .checking }

/-- R143, R144, R146: a taken SURVEY_CHECK; with the frame above the first record the pass ends at once. -/
def startCheck (s : State) : State :=
  let s' := s.setSu (openedCheck s)
  if aboveTable s' then endCheck s' else judgeCheck s'

def execSurveyCheck (port : Port) (tag : Byte) (payload : List Byte) (s : State) : Result :=
  .next (runRequest .surveyCheck port tag payload checkRefusal startCheck s)

/-- R154: whether a pass is in progress. -/
def checkInProgress (u : Su) : Bool := u.state = .checking || u.state = .checkHolding

/-- R154: the state the pass started from. -/
def startedFrom (u : Su) : SurveyState := if checkInProgress u && u.checkFromFull then .full else .closed

/-- Whether the reply to QUERY_CHECK carries a target index the manual does not state: a pass with no target. -/
def indexOpen (u : Su) : Bool := checkInProgress u && u.target.isNone

/-- R154: the target index and its mark. Within a pass that has no target the index is not stated: a free value
(log entry 12). -/
def targetBytes (s : State) : List Byte :=
  match s.su.target with
  | some i => num i ++ mark true
  | none => (if indexOpen s.su then freeNum s 0 else num 0) ++ mark false

/-- R154: the target record's top, bottom and means. -/
def targetRecordBytes (u : Su) : List Byte :=
  match u.target.bind (u.records[·]?) with
  | some r => num r.top ++ num r.bottom ++ num r.meanX ++ num r.meanY
  | none => num 0 ++ num 0 ++ num 0 ++ num 0

/-- R154: the reply's values. -/
def checkBytes (s : State) : List Byte :=
  let u := s.su
  name (surveyStateCode u.state) ++ name (claimantCode u.claimant) ++ name (surveyStateCode (startedFrom u)) ++
  num u.checkFront ++ targetBytes s ++ num u.checkCount ++ num (meanOf u.checkSumX u.checkCount) ++
  num (meanOf u.checkSumY u.checkCount) ++ targetRecordBytes u ++ num u.tolerance ++ verdictBytes u.verdicts

def execQueryCheck (port : Port) (tag : Byte) (payload : List Byte) (s : State) : Result :=
  .next (receive .queryCheck port tag payload
    (fun t => reply .queryCheck port tag .done (checkBytes t) (if indexOpen t.su then useFree 1 t else t)) s)

end Sys2Proof.Machine
end

