-- ==== Sys2Proof/Machine/GovernorOps.lean ====
section
/-! DEFINITION. Shared operations of the governor update (R52 to R58, R64) and of the Stall Recovery Unit's step
(R75 to R82). -/

namespace Sys2Proof.Machine

/-! ## Pressures and targets (R15, R52, R53) -/

/-- A measurement clamped to 0 to `hi`, SATURATED when the reading lay above (R14 to R16). -/
def readingOf (v : Int) (hi : Nat) : Reading := { value := clampNat v hi, saturated := decide ((hi : Int) < v) }

/-- R52: the ceiling. -/
def ceilingNow (s : State) : Nat :=
  if s.rc.state = .pumping then s.wg.zoneCeiling else min s.wg.zoneCeiling s.wg.fallback

/-- R53, step 3: the applied trim for an effective mean. -/
def appliedTrim (s : State) (sEff : Nat) : Int :=
  match s.slu.actual with
  | .off | .frozen => 0
  | .auto | .manual =>
    let lim := trimLim s.slu.settings.trimLimit sEff
    clampInt s.slu.offeredTrim (-lim) lim

/-- R54, step 2. -/
def retarget (s : State) : State :=
  let ceiling := ceilingNow s
  let sEff := min s.wg.demand ceiling
  { s with wg := { s.wg with ceiling := ceiling, fallbackFlag := fallbackNow s, sEff := sEff, trim := appliedTrim s sEff } }

/-! ## One wheel at an update (R54, steps 3 to 5) -/

/-- R55: the halt ramp. -/
def haltRamp : Nat := 100

/-- R55, R56: a wheel of the normal law, from its normal target and the pressure sampled. -/
def rampWheel (target : Int) (ramp hold pressure : Nat) (w : WheelRec) : WheelRec :=
  let th := decide (hold ≤ pressure)
  { w with target := target, torqueHold := th
           acc := if th && decide (w.acc < 10 * target) then w.acc else moveToward w.acc (10 * target) ramp }

/-- R54, step 3: the target, the torque hold and the reference of a wheel. -/
def moveWheel (g : Wg) (pressure : Nat) (id : Wheel) (w : WheelRec) : WheelRec :=
  match w.state with
  | .stopped | .running => rampWheel (normalTarget id g.ceiling g.sEff g.trim) g.ramp g.zoneHold pressure w
  | .halting | .standby => { w with target := 0, torqueHold := false, acc := moveToward w.acc 0 haltRamp }
  | .halted | .recovering | .jammed | .tachFault => { w with target := 0, torqueHold := false }

/-- R57: a wheel of the normal law settled between STOPPED and RUNNING. -/
def settleWheel (w : WheelRec) : WheelRec :=
  match w.state with
  | .stopped | .running =>
    if w.target ≠ 0 ∨ w.present ≠ 0 then
      if w.state = .running then w else { w with state := .running, stallTimer := none, zeroGates := 0 }
    else { w with state := .stopped, stallTimer := none, zeroGates := 0 }
  | .halting | .halted | .standby | .recovering | .jammed | .tachFault => w

/-- R58, R80: a run timer that starts, advances by an update, or stops. -/
def runTimer (holds : Bool) (t : Option Nat) : Option Nat :=
  if holds then (match t with
    | none => some 0
    | some v => some (v + 100)) else none

/-- R58: the stall condition. -/
def stallCondition (w : WheelRec) (pressure stall : Nat) (speed : Int) : Bool :=
  decide (20 ≤ w.present) && decide (stall ≤ pressure) && decide (speed < 10)

/-- R58: the stall timer of a wheel in RUNNING. -/
def stallWheel (pressure stall : Nat) (speed : Int) (w : WheelRec) : WheelRec :=
  if w.state = .running then { w with stallTimer := runTimer (stallCondition w pressure stall speed) w.stallTimer }
  else w

/-- R54, steps 3 to 5, for one wheel. -/
def governWheel (s : State) (id : Wheel) : WheelRec :=
  let pressure := (s.mfe.gearbox.get id).value
  stallWheel pressure s.wg.zoneStall (s.mfe.tach.get id).speed
    (settleWheel (moveWheel s.wg pressure id (s.wg.wheels.get id)))

/-- R58: the stall timer has reached 1,000 ms. -/
def stallReached (w : WheelRec) : Bool := w.state = .running && decide (1000 ≤ timeOf w.stallTimer)

/-- R59: the wheel whose stall is taken: the one with the higher pressure, or A. -/
def stalledWheel (s : State) : Option Wheel :=
  match stallReached s.wg.wheels.a, stallReached s.wg.wheels.b with
  | false, false => none
  | true, false => some .a
  | false, true => some .b
  | true, true => some (if s.mfe.gearbox.a.value < s.mfe.gearbox.b.value then .b else .a)

/-- R59: a stall reached at this update is taken; none can be while a recovery exists. -/
def takeStalls (s : State) : State :=
  match s.sru.record, stalledWheel s with
  | none, some w => takeStall w s
  | _, _ => s

/-- R64: a HALTING wheel that has come to rest. -/
def restWheel (w : WheelRec) : WheelRec :=
  if w.state = .halting ∧ w.present = 0 then { w with state := .halted, acc := 0 } else w

/-- R54, step 6. -/
def restWheels (s : State) : State :=
  let after : PerWheel WheelRec := { a := restWheel s.wg.wheels.a, b := restWheel s.wg.wheels.b }
  raiseHalted s.wg.wheels { s with wg := { s.wg with wheels := after } }

/-! ## The Stall Recovery Unit (R75 to R82) -/

/-- R75: the target of a phase. -/
def phaseTarget (k : RecoverySettings) (ceiling : Nat) (p : Phase) : Int :=
  match p with
  | .stopping | .rest => 0
  | .reversing => -(k.reverseSpeed : Int)
  | .probe => (min k.probeSpeed ceiling : Nat)

/-- R75: the step of a phase. -/
def phaseStep (ramp : Nat) (p : Phase) : Nat :=
  match p with
  | .probe => ramp
  | .stopping | .reversing | .rest => haltRamp

/-- R71: the time a phase is held at its target; STOPPING has none. -/
def phaseTime (k : RecoverySettings) (p : Phase) : Option Nat :=
  match p with
  | .stopping => none
  | .reversing => some k.reverseTime
  | .rest => some k.restTime
  | .probe => some k.probeTime

/-- R80: the speed test of a phase. -/
def slowInPhase (p : Phase) (speed : Int) : Bool :=
  match p with
  | .reversing => decide (speed.natAbs < 10)
  | .probe => decide (speed < 10)
  | .stopping | .rest => false

/-- R80: the burst stall condition. -/
def burstStallCondition (p : Phase) (w : WheelRec) (pressure stall : Nat) (speed : Int) : Bool :=
  decide (20 ≤ w.present.natAbs) && decide (stall ≤ pressure) && slowInPhase p speed

/-- Replaces the recovery record. -/
def State.setRecord (r : Option Recovery) (s : State) : State := { s with sru := { s.sru with record := r } }

/-- R82: a wheel handed back in RUNNING, under its normal target. -/
def handBack (g : Wg) (id : Wheel) : WheelRec :=
  quietWheel .running (normalTarget id g.ceiling g.sEff g.trim) (noReverse (g.wheels.get id))

/-- R82: the recovery ends as RECOVERED. A held head of the cabin queue is released by the clearing of the record. -/
def endRecovered (r : Recovery) (s : State) : State :=
  let after : PerWheel WheelRec := { a := handBack s.wg .a, b := handBack s.wg .b }
  let s1 := recomputeFeed { s with wg := { s.wg with wheels := after } }
  raise .recovered (setOutcome .recovered r (releaseRecovery (clearRecord s1)))

/-- R81: the recovery ends with the wheel JAMMED. -/
def endJammed (r : Recovery) (s : State) : State :=
  let s1 := recomputeFeed (s.setWheel r.wheel (quietWheel .jammed 0 { s.wg.wheels.get r.wheel with acc := 0 }))
  raise .jammed (setOutcome .jammed r (releaseRecovery (clearRecord s1)))

/-- R81: the burst of the record has failed. -/
def failBurst (r : Recovery) (s : State) : State :=
  if r.burst < s.sru.settings.bursts then
    s.setRecord (some { r with burst := r.burst + 1, phase := .stopping, phaseTimer := none, burstTimer := none })
  else endJammed r s

/-- A record at the entry to a phase: both timers stopped. -/
def enterPhase (p : Phase) (r : Recovery) : Recovery := { r with phase := p, phaseTimer := none, burstTimer := none }

/-- R75, step 1: the phase that follows one whose time is served; none when PROBE ends the recovery. -/
def nextPhase (p : Phase) : Option Phase :=
  match p with
  | .stopping => some .reversing
  | .reversing => some .rest
  | .rest => some .probe
  | .probe => none

/-- R75, step 3: the arrival of the reference at the target of the phase. -/
def arrive (r : Recovery) : Recovery :=
  match r.phase with
  | .stopping => enterPhase .reversing r
  | .reversing | .rest | .probe => if r.phaseTimer.isNone then { r with phaseTimer := some 0 } else r

/-- R75, steps 2 to 4, for the record as step 1 left it. -/
def driveRecovery (r : Recovery) (s : State) : State :=
  let w := s.wg.wheels.get r.wheel
  let target := 10 * phaseTarget s.sru.settings s.wg.ceiling r.phase
  let w' : WheelRec := { w with acc := moveToward w.acc target (phaseStep s.wg.ramp r.phase) }
  let r1 := if w'.acc = target then arrive r else r
  let holds := burstStallCondition r1.phase w' (s.mfe.gearbox.get r.wheel).value s.wg.zoneStall
    (s.mfe.tach.get r.wheel).speed
  let r2 : Recovery := { r1 with burstTimer := runTimer holds r1.burstTimer }
  let s' := (s.setWheel r.wheel w').setRecord (some r2)
  if 1000 ≤ timeOf r2.burstTimer then failBurst r2 s' else s'

/-- R75, step 1: the phase timer advanced by an update. -/
def advanceTimer (r : Recovery) : Recovery := { r with phaseTimer := r.phaseTimer.map (· + 100) }

/-- R75, step 1: the phase timer has reached the time of its phase. -/
def phaseServed (k : RecoverySettings) (r : Recovery) : Bool :=
  match r.phaseTimer, phaseTime k r.phase with
  | some t, some limit => decide (limit ≤ t)
  | _, _ => false

/-- R75: the step of SRU at a governor update. -/
def stepRecovery (r : Recovery) (s : State) : State :=
  let r1 := advanceTimer r
  if phaseServed s.sru.settings r1 then
    match nextPhase r1.phase with
    | some p => driveRecovery (enterPhase p r1) s
    | none => endRecovered r1 s
  else driveRecovery r1 s

/-! ## The update (R54) -/

/-- R54, step 1. -/
def samplePressures (a b : Int) (s : State) : State :=
  { s with mfe := { s.mfe with gearbox := { a := readingOf a 4500, b := readingOf b 4500 } } }

/-- R54, steps 3 to 5: both wheels, each from the values of the update. -/
def governWheels (s : State) : State :=
  let after : PerWheel WheelRec := { a := governWheel s .a, b := governWheel s .b }
  { s with wg := { s.wg with wheels := after } }

/-- R54, step 7: SRU's step for a recovery that existed at the start of the update. -/
def stepSru (before : State) (s : State) : State :=
  match before.sru.record with
  | none => s
  | some r => if (before.wg.wheels.get r.wheel).state = .recovering then stepRecovery r s else s

/-- R54: the governor update. -/
def governorStep (a b : Int) (s : State) : State :=
  handWheels s.wg.wheels
    (stepSru s (restWheels (takeStalls (governWheels (retarget (samplePressures a b s))))))

end Sys2Proof.Machine
end

