-- ==== Sys2Proof/Machine/Depth.lean ====
section
/-! DEFINITION. The commands of the chapter Depth Reference: REPORT_ROPE_COUNT, SET_DATUM, SET_DEPTH_CHECK, QUERY_DEPTH,
HEAD_PRESSURE_SAMPLE, SNAPSHOT_INTERVAL_EXPIRY, DEPTH_DISAGREE, DISAGREE_CLEAR. -/

namespace Sys2Proof.Machine

/-! ## REPORT_ROPE_COUNT (R20 to R22) -/

/-- R22: the reply's values, after the update has been handed on. -/
def countBytes (s : State) : List Byte :=
  num s.dr.depth ++ name (depthStateCode s.dr.state) ++ mark s.dr.aboveDatum ++ mark s.dr.range ++
  mark s.dr.disagree ++ num s.rc.feedLimit ++ num s.zt.current

def execReportRopeCount (port : Port) (tag : Byte) (payload : List Byte) (s : State) : Result :=
  .next (receive .reportRopeCount port tag payload
    (fun t =>
      let t' := reportCount (intAt payload 0) t
      reply .reportRopeCount port tag .done (countBytes t') t')
    s)

/-! ## SET_DATUM (R23, R24) -/

/-- R24: the reply's values. -/
def datumBytes (s : State) : List Byte := num s.dr.depth ++ name (depthStateCode s.dr.state)

/-- R23: the check that refuses a SET_DATUM, if one fails. -/
def datumRefusal (datum : Nat) (s : State) : Option Status :=
  if 200000 < datum then some .outOfRange
  else if s.dr.countReceived = false then some .wrongState
  else if s.dr.state = .stale then some .wrongState
  else if s.su.state.running then some .wrongState
  else none

def execSetDatum (port : Port) (tag : Byte) (payload : List Byte) (s : State) : Result :=
  .next (receive .setDatum port tag payload
    (fun t =>
      match datumRefusal (natAt payload 0) t with
      | some code => reply .setDatum port tag code [] t
      | none =>
        let t' := takeDatum (natAt payload 0) t
        reply .setDatum port tag .done (datumBytes t') t')
    s)

/-! ## SET_DEPTH_CHECK (R32) -/

/-- R32: the slurry level offset and the agreement band. -/
def postSetDepthCheck (payload : List Byte) : Posted := .setDepthCheck (natAt payload 0) (natAt payload 4)

def execSetDepthCheck (port : Port) (tag : Byte) (payload : List Byte) (s : State) : Result :=
  .next (post .setDepthCheck port tag payload (fun _ => (postSetDepthCheck payload, false)) s)

/-! ## QUERY_DEPTH (R33) -/

/-- R33: the reply's values. -/
def depthBytes (s : State) : List Byte :=
  let d := s.dr
  name (depthStateCode d.state) ++ num d.depth ++ mark d.aboveDatum ++ mark d.range ++ mark d.disagree ++
  mark d.countReceived ++ num d.lastCount ++ num d.c0 ++ num d.datum ++ num d.toe ++ num d.history.length ++
  num (d.history.getLast?.getD 0 : Nat) ++ num (d.history.head?.getD 0 : Nat) ++ num d.fMeas ++
  name (crossCheckCode d.crossCheck) ++ num d.rho ++ num d.hp ++ num d.outRun ++ num d.inRun ++ num d.offset ++
  num d.band

def execQueryDepth (port : Port) (tag : Byte) (payload : List Byte) (s : State) : Result :=
  .next (answer .queryDepth port tag payload depthBytes s)

/-! ## HEAD_PRESSURE_SAMPLE (R16, R30, R31) -/

def execHeadPressureSample (reading : Int) (s : State) : Result :=
  .next (takeHeadPressure (readingOf reading 400000) s)

/-! ## SNAPSHOT_INTERVAL_EXPIRY (R27, R28) -/

/-- R27: a snapshot that joins a history of at most 12. -/
def pushToe (toe : Nat) (h : List Nat) : List Nat :=
  if 12 ≤ h.length then h.drop (h.length - 11) ++ [toe] else h ++ [toe]

/-- R27, R28: the push of the toe in VALID. -/
def pushSnapshot (s : State) : State :=
  let h := pushToe s.dr.toe s.dr.history
  setFeedRate (measuredFeed h) { s with dr := { s.dr with history := h } }

def execSnapshotIntervalExpiry (s : State) : Result :=
  let s' : State := { s with dr := { s.dr with snapshotLeft := 5000 } }
  .next (if s.dr.state = .valid then pushSnapshot s' else s')

/-! ## DEPTH_DISAGREE and DISAGREE_CLEAR (R31) -/

/-- R31: the conditions under which a sample can be compared at all. -/
def canCompare (s : State) : Bool := s.dr.crossCheck = .comparing && s.dr.state = .valid

/-- DEPTH_DISAGREE: the out-of-band run counter has reached 3 with DISAGREE clear. -/
def execDepthDisagree (s : State) : Result :=
  .next (if canCompare s && !s.dr.disagree then
      raiseDisagree { s with dr := { s.dr with outRun := max 3 s.dr.outRun, inRun := 0 } }
    else s)

/-- DISAGREE_CLEAR: the in-band run counter has reached 3 with DISAGREE set. -/
def execDisagreeClear (s : State) : Result :=
  .next (if canCompare s && s.dr.disagree then
      setDisagree false { s with dr := { s.dr with inRun := max 3 s.dr.inRun, outRun := 0 } }
    else s)

end Sys2Proof.Machine
end

