-- ==== Sys2Proof/Machine/Events.lean ====
section
/-! DEFINITION. The commands of the chapter Events, Alert Lines and the Segment Mark: ACK_EVENTS, SET_EVENT_ENABLES,
SET_ALERT_LINE, SET_MARK_WIDTH, QUERY_EVENTS, WIDTH_TIMER_EXPIRY. -/

namespace Sys2Proof.Machine

def execAckEvents (port : Port) (tag : Byte) (payload : List Byte) (s : State) : Result :=
  .next (post .ackEvents port tag payload (fun _ => (.ackEvents (word32At payload 0), false)) s)

def execSetEventEnables (port : Port) (tag : Byte) (payload : List Byte) (s : State) : Result :=
  .next (post .setEventEnables port tag payload (fun _ => (.setEventEnables (word32At payload 0), false)) s)

def execSetAlertLine (port : Port) (tag : Byte) (payload : List Byte) (s : State) : Result :=
  .next (post .setAlertLine port tag payload (fun _ => (.setAlertLine (nameAt payload 0), false)) s)

def execSetMarkWidth (port : Port) (tag : Byte) (payload : List Byte) (s : State) : Result :=
  .next (post .setMarkWidth port tag payload (fun _ => (.setMarkWidth (natAt payload 0), false)) s)

/-- R200: the reply's values. -/
def eventsBytes (port : Port) (s : State) : List Byte :=
  let e := s.eu.ports.get port
  bytes32 e.latched ++ bytes32 e.enabled ++ name (alertModeCode e.mode) ++ mark (alertAsserted e) ++
  num s.eu.markWidth ++ mark s.eu.mark.isSome ++ num (timeOf s.eu.mark : Nat)

def execQueryEvents (port : Port) (tag : Byte) (payload : List Byte) (s : State) : Result :=
  .next (answer .queryEvents port tag payload (eventsBytes port) s)

/-- WIDTH_TIMER_EXPIRY (R199): the width timer has run out, and the segment-mark line becomes inactive. -/
def execWidthTimerExpiry (s : State) : Result := .next { s with eu := { s.eu with mark := none } }

end Sys2Proof.Machine
end

