-- ==== Sys2Proof/Machine/Measure.lean ====
section
/-! DEFINITION. The commands of the chapter Measurement Inputs and Ratio Scalers: SET_SCALER, QUERY_MEASUREMENTS,
SAMPLE_SLOT, SENSOR_LOST, TACH_GATE_END, FLOW_GATE_END. -/

namespace Sys2Proof.Machine

/-! ## SET_SCALER (R4) -/

/-- R4: instance name, N, R, OD; nothing is clamped. -/
def postSetScaler (payload : List Byte) : Posted :=
  .setScaler (nameAt payload 0) (natAt payload 1) (natAt payload 5) (natAt payload 9)

def execSetScaler (port : Port) (tag : Byte) (payload : List Byte) (s : State) : Result :=
  .next (post .setScaler port tag payload (fun _ => (postSetScaler payload, false)) s)

/-! ## QUERY_MEASUREMENTS (R18) -/

/-- R18: N, R, OD and the state of an instance (STOPPED 0, RUNNING 1). -/
def scalerBytes (k : Scaler) (running : Bool) : List Byte := num k.n ++ num k.r ++ num k.od ++ mark running

/-- R18: a tach result. -/
def tachBytes (t : TachResult) : List Byte := num t.speed ++ num t.pulses ++ mark t.saturated

/-- A measurement with its SATURATED mark. -/
def readingBytes (r : Reading) : List Byte := num r.value ++ mark r.saturated

/-- R18: the reply's values. -/
def measurementsBytes (s : State) : List Byte :=
  let m := s.mfe
  scalerBytes m.depthScaler (depthScalerRunning s) ++ scalerBytes m.tachScaler (tachScalerRunning s) ++
  scalerBytes m.flowScaler (flowScalerRunning s) ++
  name (sensorCode m.sensor) ++ num m.window.length ++ num m.invalidCount ++
  num (windowMean m (·.x)) ++ num (windowMean m (·.y)) ++ num (windowMean m (·.psi)) ++ mark (meansDefined m) ++
  mark m.newestSaturated ++ tachBytes m.tach.a ++ tachBytes m.tach.b ++ readingBytes m.qm ++
  readingBytes m.gearbox.a ++ readingBytes m.gearbox.b ++ readingBytes m.headPressure

def execQueryMeasurements (port : Port) (tag : Byte) (payload : List Byte) (s : State) : Result :=
  .next (answer .queryMeasurements port tag payload measurementsBytes s)

/-! ## SAMPLE_SLOT and SENSOR_LOST (R6 to R11) -/

/-- R7: the sensor becomes LOST, the window is emptied, SENSOR_LOST is raised and the change offered to SU and SLU. -/
def loseSensor (s : State) : State :=
  reevaluate (judgeSurvey (raise .sensorLost
    { s with mfe := { s.mfe with sensor := .lost, window := [], newestSaturated := false } }))

/-- R7: an invalid set. -/
def takeInvalid (s : State) : State :=
  let s' : State := { s with mfe := { s.mfe with invalidCount := count255 s.mfe.invalidCount } }
  if s.mfe.sensor = .ok ∧ 5 ≤ s'.mfe.invalidCount then loseSensor s' else s'

/-- R8: the ranges of the sensor. -/
def clampSet (x y psi : Int) : SampleSet :=
  { x := clampInt x (-5000) 5000, y := clampInt y (-5000) 5000, psi := clampInt psi (-1000) 1000 }

/-- R8: a set that joins a window of at most 8. -/
def joinWindow (v : SampleSet) (w : List SampleSet) : List SampleSet :=
  if 8 ≤ w.length then w.drop (w.length - 7) ++ [v] else w ++ [v]

/-- R8, R9: MFE takes a valid set into its window and brings the sensor state up to date. -/
def takeSet (v : SampleSet) (saturated : Bool) (m : Mfe) : Mfe :=
  let w := joinWindow v m.window
  { m with window := w, newestSaturated := saturated, invalidCount := 0
           sensor := if w.length = 8 then .ok else m.sensor }

/-- R190: the first change of the sensor state to OK ends STARTING. -/
def endStarting (s : State) : State := { s with pi := { s.pi with hub := .ready, startUpLeft := 0 } }

/-- R8, R9, R11: a valid set; a change of the sensor state to OK is judged before the set is counted by SU and computed
with by SLU. -/
def takeValid (x y psi : Int) (s : State) : State :=
  let v := clampSet x y psi
  let saturated := decide (v ≠ { x := x, y := y, psi := psi })
  let s1 : State := { s with mfe := takeSet v saturated s.mfe }
  if s1.mfe.sensor = s.mfe.sensor then steerSample (surveySample v saturated s1)
  else steerSample (reevaluate (surveySample v saturated (judgeSurvey (endStarting s1))))

def execSampleSlot (delivery : Delivery) (s : State) : Result :=
  .next (match delivery with
    | .missing | .broken => takeInvalid s
    | .whole false _ _ _ => takeInvalid s
    | .whole true x y psi => takeValid x y psi s)

/-- SENSOR_LOST: the fifth consecutive invalid set has been counted while the sensor state is OK. -/
def execSensorLost (s : State) : Result :=
  .next (if s.mfe.sensor = .ok then
      loseSensor { s with mfe := { s.mfe with invalidCount := max 5 s.mfe.invalidCount } }
    else s)

/-! ## TACH_GATE_END (R13, R60) -/

/-- R13: the result of a tach gate. -/
def tachResult (k : Scaler) (pulses : Nat) (cutting : Bool) : TachResult :=
  let p := min 65535 pulses
  let v := if p = 0 then 0 else k.convert p
  let signed := if cutting then v else -v
  { speed := clampInt signed (-500) 500, pulses := p, saturated := decide (clampInt signed (-500) 500 ≠ signed) }

/-- R60: a zero gate. -/
def zeroGate (s : State) (w : Wheel) (pulses : Nat) : Bool :=
  decide (pulses = 0) && decide (20 ≤ (s.wg.wheels.get w).present) &&
  decide ((s.mfe.gearbox.get w).value < s.wg.zoneStall)

/-- R60: WG judges a gate of a wheel in RUNNING. -/
def judgeGate (w : Wheel) (pulses : Nat) (s : State) : State :=
  let v := s.wg.wheels.get w
  if v.state = .running then
    if zeroGate s w pulses then
      if 4 ≤ v.zeroGates + 1 then takeTachFault w s else s.setWheel w { v with zeroGates := v.zeroGates + 1 }
    else s.setWheel w { v with zeroGates := 0 }
  else s

def execTachGateEnd (wheel : Wheel) (pulses : Nat) (cutting : Bool) (s : State) : Result :=
  let r := tachResult s.mfe.tachScaler pulses cutting
  .next (judgeGate wheel r.pulses { s with mfe := { s.mfe with tach := s.mfe.tach.set wheel r } })

/-! ## FLOW_GATE_END (R14, R165, R166) -/

/-- R14: the measured return flow of a gate. -/
def flowReading (k : Scaler) (pulses : Nat) : Reading := readingOf (k.convert (min 65535 pulses : Nat)) 10000

/-- R165, R166: RC judges the measured flow in PRIMING and PUMPING. -/
def judgeFlow (s : State) : State :=
  match s.rc.state with
  | .priming =>
    if s.rc.qEff / 2 ≤ s.mfe.qm.value then
      changeReturn .pumping { s with rc := { s.rc with primingTimer := none, starvation := 0 } }
    else s
  | .pumping =>
    if s.mfe.qm.value < 3 * s.rc.qEff / 10 then
      if 5 ≤ s.rc.starvation + 1 then starve s
      else { s with rc := { s.rc with starvation := s.rc.starvation + 1 } }
    else { s with rc := { s.rc with starvation := 0 } }
  | .off | .waitingPlant | .starved | .plantHold => s

def execFlowGateEnd (pulses : Nat) (s : State) : Result :=
  .next (judgeFlow { s with mfe := { s.mfe with qm := flowReading s.mfe.flowScaler pulses } })

end Sys2Proof.Machine
end

