-- ==== Sys2Proof/Machine/Plates.lean ====
section
/-! DEFINITION. The commands of the chapter Steering Plates: CLEAR_PLATE, QUERY_PLATES, PLATE_SAMPLE,
SETTLE_TIMER_EXPIRY, MOVE_TIMER_EXPIRY. -/

namespace Sys2Proof.Machine

def execClearPlate (port : Port) (tag : Byte) (payload : List Byte) (s : State) : Result :=
  .next (post .clearPlate port tag payload (fun _ => (.clearPlate (nameAt payload 0), false)) s)

/-- R113: the values of one plate. -/
def plateBytes (q : Plate) : List Byte :=
  name (moveStateCode q.move) ++ num q.command ++ num q.demand ++ readingBytes q.extension ++
  num (timeOf q.moveTimer : Nat) ++ mark q.moveTimer.isSome ++ num (timeOf q.settleTimer : Nat) ++
  mark q.settleTimer.isSome

/-- R113: the reply's values. -/
def plateReplyBytes (s : State) : List Byte :=
  plateBytes s.psv.n1 ++ plateBytes s.psv.n2 ++ plateBytes s.psv.s1 ++ plateBytes s.psv.s2

def execQueryPlates (port : Port) (tag : Byte) (payload : List Byte) (s : State) : Result :=
  .next (answer .queryPlates port tag payload plateReplyBytes s)

/-! ## The plate sample (R105 to R107) -/

/-- R105: a position reading clamped to 0 to 100, SATURATED when it lay outside. -/
def extensionOf (v : Int) : Reading := { value := clampNat v 100, saturated := decide (v < 0 ∨ 100 < v) }

/-- R107: a move that ends SETTLED. -/
def settlePlate (q : Plate) : Plate := { q with move := .settled, moveTimer := none, settleTimer := none }

/-- R107: the settle band judged for a MOVING plate. -/
def judgeSettle (q : Plate) : Plate :=
  if outsideBand q.command q.extension.value then { q with settleTimer := none }
  else match q.settleTimer with
    | none => { q with settleTimer := some 0 }
    | some t => if 300 ≤ t + 100 then settlePlate q else { q with settleTimer := some (t + 100) }

/-- R105: one plate at a sample. -/
def samplePlate (v : Int) (q : Plate) : Plate :=
  let q' : Plate := { q with extension := extensionOf v }
  match q.move with
  | .settled => judgeBegin q'
  | .moving => judgeSettle q'
  | .stuck => q'

/-- R107, R110: the end of a plate's move at this sample is handed to PI. -/
def handEnd (q : PlateId) (before : PerPlate Plate) (s : State) : State :=
  if (before.get q).move = .moving ∧ (s.psv.get q).move = .settled then releasePlate q s else s

/-- R105: the sample of the four plates. -/
def plateStep (n1 n2 s1 s2 : Int) (s : State) : State :=
  let after : PerPlate Plate :=
    { n1 := samplePlate n1 s.psv.n1, n2 := samplePlate n2 s.psv.n2,
      s1 := samplePlate s1 s.psv.s1, s2 := samplePlate s2 s.psv.s2 }
  let t : State := { s with psv := after }
  handEnd .s2 s.psv (handEnd .s1 s.psv (handEnd .n2 s.psv (handEnd .n1 s.psv t)))

def execPlateSample (n1 n2 s1 s2 : Int) (s : State) : Result := .next (plateStep n1 n2 s1 s2 s)

/-! ## The timers (R107, R108) -/

/-- SETTLE_TIMER_EXPIRY (R107): the running settle timer of a MOVING plate has reached 300 ms. -/
def execSettleTimerExpiry (plate : PlateId) (s : State) : Result :=
  let q := s.psv.get plate
  .next (if q.move = .moving ∧ q.settleTimer.isSome then
      releasePlate plate { s with psv := s.psv.set plate (settlePlate q) }
    else s)

/-- R108: a plate given up as STUCK. -/
def stickPlate (q : Plate) : Plate :=
  { q with move := .stuck, command := q.extension.value, moveTimer := none, settleTimer := none }

/-- MOVE_TIMER_EXPIRY (R108): the move timer of a MOVING plate has run down to 0. -/
def execMoveTimerExpiry (plate : PlateId) (s : State) : Result :=
  let q := s.psv.get plate
  .next (if q.move = .moving then
      releasePlate plate (raise .plateStuck { s with psv := s.psv.set plate (stickPlate q) })
    else s)

end Sys2Proof.Machine
end

