-- ==== Sys2Proof/Machine/Ports.lean ====
section
/-! DEFINITION. The commands of the chapter Master Ports: POWER_ON, BAD_FRAME, UNKNOWN_KIND, SET_PORT_TIMEOUT,
HEAD_RESTART, TEST_INJECT, QUERY_PORT, QUERY_STATUS, POSTED_HEAD_APPLY, HOLD_TIMER_EXPIRY, SILENCE_TIMER_EXPIRY,
START_UP_TIMER_EXPIRY. -/

namespace Sys2Proof.Machine

/-! ## Power-on and the frame checks (R177, R182, R190) -/

/-- POWER_ON: every block at its defaults; the model's own fields are kept. -/
def execPowerOn (plantReady : Bool) (s : State) : Result :=
  .next { State.powered plantReady with pending := s.pending, free := s.free }

/-- BAD_FRAME: a bad candidate is dropped and counted. A candidate that is a valid frame is no BAD_FRAME. -/
def execBadFrame (port : Port) (candidate : List Byte) (s : State) : Result :=
  .next (if (readFrame candidate).isNone then
      s.setPort port { s.port port with badFrames := min 65535 ((s.port port).badFrames + 1) }
    else s)

def execUnknownKind (port : Port) (kind tag : Byte) (s : State) : Result :=
  .next (sendReply port kind tag .unknownKind [] (hear port s))

/-! ## Settings and queries (R188, R192 to R194) -/

def execSetPortTimeout (port : Port) (tag : Byte) (payload : List Byte) (s : State) : Result :=
  .next (post .setPortTimeout port tag payload
    (fun _ => (.setPortTimeout (nameAt payload 0) (natAt payload 1), false)) s)

/-- R192. -/
def execTestInject (port : Port) (tag : Byte) (payload : List Byte) (s : State) : Result :=
  .next (receive .testInject port tag payload
    (fun t =>
      match portNamed (nameAt payload 0) with
      | none => reply .testInject port tag .outOfRange [] t
      | some p =>
        if inRange (natAt payload 1) 1 16 then
          reply .testInject port tag .done [] (t.setPort p { t.port p with injection := natAt payload 1 })
        else reply .testInject port tag .outOfRange [] t)
    s)

/-- R193: the head's kind and tag, whether it is held, and the time left on the hold timer. -/
def headBytes (q : PortRec) : List Byte :=
  match q.queue, q.hold with
  | e :: _, some t => name e.request.kind.code ++ [e.tag] ++ mark true ++ num t
  | _, _ => name 0 ++ name 0 ++ mark false ++ num 0

/-- R193: the rejection record and its mark. What an empty record reads as is not stated: free values (log entry
12). -/
def rejectionBytes (q : PortRec) (s : State) : List Byte :=
  match q.rejection with
  | some r => name r.kind.code ++ [r.tag] ++ name (statusCode r.code) ++ mark true
  | none => freeName s 0 ++ freeName s 1 ++ freeName s 2 ++ mark false

/-- R193: the reply's values for a port. -/
def portBytes (p : Port) (s : State) : List Byte :=
  let q := s.port p
  name (linkCode q.link) ++ num q.timeout ++ num (timeOf q.silence : Nat) ++ num q.queue.length ++ headBytes q ++
  num q.badFrames ++ num q.refused ++ rejectionBytes q s ++ num q.injection

def execQueryPort (port : Port) (tag : Byte) (payload : List Byte) (s : State) : Result :=
  .next (receive .queryPort port tag payload
    (fun t =>
      match portNamed (nameAt payload 0) with
      | none => reply .queryPort port tag .outOfRange [] t
      | some p =>
        reply .queryPort port tag .done (portBytes p t) (if (t.port p).rejection.isNone then useFree 3 t else t))
    s)

/-- R194: a port's link state, queue entries and whether its head is held. -/
def linkBytes (q : PortRec) : List Byte := name (linkCode q.link) ++ num q.queue.length ++ mark q.hold.isSome

/-- R194: the reply's values. -/
def statusBytes (port : Port) (s : State) : List Byte :=
  name (hubCode s.pi.hub) ++ num s.pi.startUpLeft ++ name (portCode port) ++ linkBytes s.pi.ports.cabin ++
  linkBytes s.pi.ports.plant ++ linkBytes s.pi.ports.hoist ++ num (s.port port).injection

def execQueryStatus (port : Port) (tag : Byte) (payload : List Byte) (s : State) : Result :=
  .next (answer .queryStatus port tag payload (statusBytes port) s)

/-! ## HEAD_RESTART (R191 and the restart rule of each block) -/

/-- R191, steps 2 and 3: one port. -/
def restartPort (q : PortRec) : PortRec := { q with queue := [], hold := none, injection := 0 }

/-- R191, R201: PI's own part, and the end of a mark pulse that was running. -/
def restartPi (s : State) : State :=
  { s with
    pi := { s.pi with ports := { cabin := restartPort s.pi.ports.cabin, plant := restartPort s.pi.ports.plant,
                                 hoist := restartPort s.pi.ports.hoist } }
    eu := { s.eu with mark := none } }

/-- R84, R86: a recovery is aborted; its wheels and holds are restarted by the steps that follow. -/
def restartSru (s : State) : State :=
  match s.sru.record with
  | none => s
  | some r => setOutcome .aborted r { s with sru := { s.sru with record := none } }

/-- R70: both wheels STOPPED at once; the FALLBACK flag as the return state OFF gives it. -/
def restartWg (s : State) : State :=
  { s with wg := { s.wg with wheels := { a := WheelRec.reset, b := WheelRec.reset }
                             fallbackFlag := decide (s.wg.fallback < s.wg.zoneCeiling) } }

/-- R176. -/
def restartRc (s : State) : State :=
  { s with rc := { s.rc with
      state := .off, qc := 0, primingTimer := none, starvation := 0, armed := false, qEff := 0, pump := 0
      feedLimit := 0, short := false } }

/-- R34. -/
def restartDr (s : State) : State := { s with dr := { s.dr with outRun := 0, inRun := 0 } }

/-- R141: a run or a pass is ended as by SURVEY_STOP, and the claim released. -/
def restartSu (s : State) : State :=
  let s' := stopSurvey s
  s'.setSu { s'.su with state := .idle, claimant := none, nextTop := 0 }

/-- R115: one plate. -/
def restartPlate (q : Plate) : Plate :=
  judgeBegin { q with command := 0, demand := 0, move := .settled, moveTimer := none, settleTimer := none }

/-- R115. -/
def restartPsv (s : State) : State :=
  { s with psv := { n1 := restartPlate s.psv.n1, n2 := restartPlate s.psv.n2, s1 := restartPlate s.psv.s1
                    s2 := restartPlate s.psv.s2 } }

/-- R103: the applied values and the manual setpoints are zeroed, and the actual mode is re-evaluated without entry
actions. -/
def restartSlu (s : State) : State :=
  { s with slu := { s.slu with
      actual := modeNow s, offeredTrim := 0, uy := 0, ut := 0, commands := noPlates, manualTrim := 0
      manualPlates := noPlates } }

/-- R191, steps 2 to 5. -/
def restartHub (s : State) : State :=
  raise .restarted (restartSlu (restartPsv (restartSu (restartDr (restartRc (restartWg (restartSru (restartPi s))))))))

def execHeadRestart (port : Port) (tag : Byte) (payload : List Byte) (s : State) : Result :=
  .next (receive .headRestart port tag payload
    (fun t => restartHub (reply .headRestart port tag .done [] t)) s)

/-! ## The posted queue's events (R185, R186) -/

/-- POSTED_HEAD_APPLY: the head of a port's queue is applied when it is not held. A head found held is held on, its hold
timer started when it is not yet running. -/
def execPostedHeadApply (port : Port) (s : State) : Result :=
  let q := s.port port
  .next (match q.queue with
    | [] => s
    | e :: _ => if held e.request s && q.hold.isSome then s else drain port s)

/-- HOLD_TIMER_EXPIRY: the head held is discarded HELD_TOO_LONG, and the next entry becomes the head. -/
def execHoldTimerExpiry (port : Port) (s : State) : Result :=
  let q := s.port port
  .next (match q.hold, q.queue with
    | some _, e :: es => drainList port es (recordRefusal port e .heldTooLong s)
    | _, _ => s)

/-! ## The timers of the links and the start-up (R189, R190) -/

/-- R189, steps 1 and 2: a port that becomes LOST. -/
def losePort (port : Port) (s : State) : State :=
  let q := s.port port
  let s' := s.setPort port
    { q with
      link := .lost, silence := none, hold := none, queue := [], refused := min 255 (q.refused + q.queue.length)
      rejection := match q.queue.getLast? with
        | some e => some { kind := e.request.kind, tag := e.tag, code := .linkLost }
        | none => q.rejection }
  if q.queue.isEmpty then s' else raiseRefused port s'

/-- R189, step 4: the loss handed to WG and RC, to DR, or to DR. -/
def handLoss (port : Port) (s : State) : State :=
  match port with
  | .cabin => recomputeFeed (haltWheels s)
  | .plant => suspendCrossCheck s
  | .hoist => goStale s

/-- SILENCE_TIMER_EXPIRY: the silence timer has run out in ACTIVE. -/
def execSilenceTimerExpiry (port : Port) (s : State) : Result :=
  .next (if (s.port port).link = .active then
      surveyLoss port (handLoss port (raisePortLost port (losePort port s)))
    else s)

/-- START_UP_TIMER_EXPIRY: the start-up timer has run out in STARTING. -/
def execStartUpTimerExpiry (s : State) : Result :=
  .next (if s.pi.hub = .starting then { s with pi := { s.pi with hub := .ready, startUpLeft := 0 } } else s)

end Sys2Proof.Machine
end

