-- ==== Sys2Proof/Machine/Recovery.lean ====
section
/-! DEFINITION. The commands of the chapter Stall Recovery: SET_RECOVERY, QUERY_RECOVERY, PHASE_TIMER_EXPIRY,
BURST_STALL_TIMER_EXPIRY. -/

namespace Sys2Proof.Machine

/-- R71, R72: the six settings in the order of the table. -/
def recoveryAt (payload : List Byte) : RecoverySettings :=
  { bursts := natAt payload 0, reverseSpeed := natAt payload 4, reverseTime := natAt payload 8,
    restTime := natAt payload 12, probeSpeed := natAt payload 16, probeTime := natAt payload 20 }

def execSetRecovery (port : Port) (tag : Byte) (payload : List Byte) (s : State) : Result :=
  .next (post .setRecovery port tag payload (fun _ => (.setRecovery (recoveryAt payload), false)) s)

/-- R85: the record's fields and the present phase target; all 0 when no recovery exists. -/
def recordFields (s : State) : List Byte :=
  match s.sru.record with
  | none => mark false ++ name 0 ++ name 0 ++ num 0 ++ num 0 ++ mark false ++ num 0 ++ mark false ++ num 0
  | some r =>
    mark true ++ name (wheelCode r.wheel) ++ name (phaseCode r.phase) ++ num r.burst ++
    num (timeOf r.phaseTimer : Nat) ++ mark r.phaseTimer.isSome ++ num (timeOf r.burstTimer : Nat) ++
    mark r.burstTimer.isSome ++ num (phaseTarget s.sru.settings s.wg.ceiling r.phase)

/-- R85: the reply's values. -/
def recoveryBytes (s : State) : List Byte :=
  let k := s.sru.settings
  recordFields s ++ num k.bursts ++ num k.reverseSpeed ++ num k.reverseTime ++ num k.restTime ++ num k.probeSpeed ++
  num k.probeTime ++ name (recoveryEndCode s.sru.lastEnd) ++ name (wheelCode s.sru.lastWheel) ++ num s.sru.lastBurst

def execQueryRecovery (port : Port) (tag : Byte) (payload : List Byte) (s : State) : Result :=
  .next (answer .queryRecovery port tag payload recoveryBytes s)

/-- PHASE_TIMER_EXPIRY (R75, step 1): the running phase timer has reached the time of its phase. -/
def execPhaseTimerExpiry (s : State) : Result :=
  .next (match s.sru.record with
    | none => s
    | some r =>
      if r.phaseTimer.isSome then
        match nextPhase r.phase with
        | some p => s.setRecord (some (enterPhase p r))
        | none => endRecovered r s
      else s)

/-- BURST_STALL_TIMER_EXPIRY (R81): the running burst stall timer has reached 1,000 ms. -/
def execBurstStallTimerExpiry (s : State) : Result :=
  .next (match s.sru.record with
    | none => s
    | some r => if r.burstTimer.isSome then failBurst r s else s)

end Sys2Proof.Machine
end

