-- ==== Sys2Proof/Machine/Return.lean ====
section
/-! DEFINITION. The commands of the chapter Slurry Return and Transport Balance: SET_PUMP_DEMAND, SET_TRANSPORT,
SET_PLANT_CEILING, REPORT_DENSITY, RESET_RETURN, QUERY_RETURN, PRIMING_TIMER_EXPIRY, STARVATION_COUNT_EXPIRY,
PLANT_READY_RISE, PLANT_READY_FALL. -/

namespace Sys2Proof.Machine

/-! ## Posted (R155, R158) -/

/-- R155: the pump demand clamped to 0 to 7,000, and whether it was clamped. -/
def postPumpDemand (payload : List Byte) : Posted × Bool :=
  let raw := natAt payload 0
  let v := min raw 7000
  (.setPumpDemand v, decide (v ≠ raw))

def execSetPumpDemand (port : Port) (tag : Byte) (payload : List Byte) (s : State) : Result :=
  .next (post .setPumpDemand port tag payload (fun _ => postPumpDemand payload) s)

/-- R158: the seven settings in the order of the table. -/
def transportAt (payload : List Byte) : Transport :=
  { cutLength := natAt payload 0, thickness := natAt payload 4, hose := natAt payload 8, velocity := natAt payload 12,
    c100 := natAt payload 16, rhoCut := natAt payload 20, primingTime := natAt payload 24 }

def execSetTransport (port : Port) (tag : Byte) (payload : List Byte) (s : State) : Result :=
  .next (post .setTransport port tag payload (fun _ => (.setTransport (transportAt payload), false)) s)

/-! ## SET_PLANT_CEILING (R156, R164, R167) -/

/-- R156, step 4: the change of Qp taken into the return state. -/
def ceilingIntoState (s : State) : State :=
  match s.rc.state with
  | .priming | .pumping =>
    if s.rc.qp = 0 then
      changeReturn .waitingPlant { s with rc := { s.rc with primingTimer := none, starvation := 0 } }
    else s
  | .waitingPlant => if s.rc.ready && decide (0 < s.rc.qp) then startPriming s else s
  | .off | .starved | .plantHold => s

/-- R156: a ceiling as clamped is taken. -/
def takeCeiling (qp : Nat) (s : State) : State :=
  ceilingIntoState (recomputeFeed (rejudgeShort { s with rc := recomputeDemand { s.rc with qp := qp } }))

/-- R156: the reply's values. -/
def ceilingBytes (s : State) : List Byte := num s.rc.qp ++ name (returnStateCode s.rc.state)

def execSetPlantCeiling (port : Port) (tag : Byte) (payload : List Byte) (s : State) : Result :=
  .next (receive .setPlantCeiling port tag payload
    (fun t =>
      let raw := natAt payload 0
      let t' := takeCeiling (min raw 7000) t
      reply .setPlantCeiling port tag (if raw ≤ 7000 then .done else .doneClamped) (ceilingBytes t') t')
    s)

/-! ## REPORT_DENSITY (R157) -/

/-- R157: the densities replaced, the supply density handed to DR, and the feed limit recomputed. -/
def takeDensity (rhoS rhoR : Nat) (s : State) : State :=
  recomputeFeed
    { s with rc := { s.rc with rhoS := rhoS, rhoR := rhoR, densityReported := true }
             dr := { s.dr with rho := rhoS, crossCheck := .comparing } }

def execReportDensity (port : Port) (tag : Byte) (payload : List Byte) (s : State) : Result :=
  .next (receive .reportDensity port tag payload
    (fun t =>
      let rhoS := natAt payload 0
      let rhoR := natAt payload 4
      if inRange rhoS 1000 1600 && inRange rhoR 1000 1600 then
        reply .reportDensity port tag .done [] (takeDensity rhoS rhoR t)
      else reply .reportDensity port tag .outOfRange [] t)
    s)

/-! ## RESET_RETURN (R170) -/

/-- R170: whether the reset is refused. -/
def resetRefused (r : Rc) : Bool := r.state = .plantHold && !r.ready

/-- R162, R169, R170: a return on hold is taken out of it, the detector disarmed. -/
def leaveHold (s : State) : State := testPlant { s with rc := { s.rc with armed := false } }

/-- R170: a taken reset. -/
def resetReturn (s : State) : State :=
  match s.rc.state with
  | .starved => testPlant s
  | .plantHold => leaveHold s
  | .off | .waitingPlant | .priming | .pumping => s

/-- R170: the reply's value. -/
def returnBytes (s : State) : List Byte := name (returnStateCode s.rc.state)

def execResetReturn (port : Port) (tag : Byte) (payload : List Byte) (s : State) : Result :=
  .next (receive .resetReturn port tag payload
    (fun t =>
      if resetRefused t.rc then reply .resetReturn port tag .wrongState (returnBytes t) t
      else reply .resetReturn port tag .done (returnBytes (resetReturn t)) (resetReturn t))
    s)

/-! ## QUERY_RETURN (R174) -/

/-- Whether the manual states the time the line has been low: armed, with the line low. -/
def lowTimeStated (r : Rc) : Bool := r.armed && !r.ready

/-- R174: the time the line has been low; a free value when it is not stated (log entry 12). -/
def lowTimeBytes (s : State) : List Byte := if lowTimeStated s.rc then num s.rc.lowFor else freeNum s 0

/-- R174: the seven transport settings. -/
def transportBytes (t : Transport) : List Byte :=
  num t.cutLength ++ num t.thickness ++ num t.hose ++ num t.velocity ++ num t.c100 ++ num t.rhoCut ++ num t.primingTime

/-- R174: the four conditions of R171 as they stand. -/
def feedMarks (s : State) : List Byte :=
  mark (bothRunning s) ++ mark (s.rc.state = .pumping) ++ mark (s.pi.ports.cabin.link = .active) ++
  mark (s.dr.state = .valid)

/-- R174: the reply's values. DESIGN CHOICE: the level of PLANT_READY is sent as a one-byte mark, 1 for asserted (log
entry 8), and F_tr and c100 are the formulas of R172 over the values as they stand, also while a condition of R171 does
not hold (log entry 13). -/
def returnReplyBytes (s : State) : List Byte :=
  let r := s.rc
  returnBytes s ++ num r.qc ++ num r.qp ++ num r.qEff ++ num r.pump ++ readingBytes s.mfe.qm ++ num r.qSettle ++
  num r.qConc ++ num r.qFloor ++ num s.dr.fMeas ++ mark r.short ++ num (timeOf r.primingTimer : Nat) ++
  mark r.primingTimer.isSome ++ num r.starvation ++ mark r.ready ++ mark r.armed ++ lowTimeBytes s ++ num r.rhoS ++
  num r.rhoR ++ mark r.densityReported ++ num (measuredConcentration r) ++ transportBytes r.transport ++
  num r.feedCeiling ++ num (transportLimit r) ++ num r.feedLimit ++ feedMarks s

def execQueryReturn (port : Port) (tag : Byte) (payload : List Byte) (s : State) : Result :=
  .next (receive .queryReturn port tag payload
    (fun t => reply .queryReturn port tag .done (returnReplyBytes t) (if lowTimeStated t.rc then t else useFree 1 t)) s)

/-! ## The return's own events (R165 to R169) -/

/-- PRIMING_TIMER_EXPIRY (R165): the priming timer has run out in PRIMING. -/
def execPrimingTimerExpiry (s : State) : Result := .next (if s.rc.state = .priming then starve s else s)

/-- STARVATION_COUNT_EXPIRY (R166): the starvation count has reached 5 in PUMPING. -/
def execStarvationCountExpiry (s : State) : Result := .next (if s.rc.state = .pumping then starve s else s)

/-- R169: a rise in PLANT_HOLD, after the line has been low for a time. -/
def riseInHold (low : Nat) (s : State) : State := if 2000 ≤ low then leaveHold s else s

/-- R164, R169: a rise taken in each return state. -/
def takeRise (lowMs : Nat) (s : State) : State :=
  match s.rc.state with
  | .waitingPlant => if 0 < s.rc.qp then startPriming s else s
  | .plantHold => riseInHold (s.rc.lowFor + lowMs) s
  | .off | .priming | .pumping | .starved => s

/-- R164, R168, R169: a rise of the line, the time it has been low since the fall being what the ticks have counted and
`lowMs` more (log entry 4). On a line that is high already there is no rise. -/
def execPlantReadyRise (lowMs : Nat) (s : State) : Result :=
  .next (if s.rc.ready then s else takeRise lowMs { s with rc := { s.rc with ready := true } })

/-- R168: a fall taken in each return state. -/
def takeFall (s : State) : State :=
  match s.rc.state with
  | .priming | .pumping | .starved =>
    changeReturn .plantHold
      { s with rc := { s.rc with primingTimer := none, starvation := 0, armed := true, lowFor := 0 } }
  | .plantHold => { s with rc := { s.rc with lowFor := 0 } }
  | .off | .waitingPlant => s

/-- R168: a fall of the line. On a line that is low already there is no fall. -/
def execPlantReadyFall (s : State) : Result :=
  .next (if s.rc.ready then takeFall { s with rc := { s.rc with ready := false } } else s)

end Sys2Proof.Machine
end

