-- ==== Sys2Proof/Machine/Steering.lean ====
section
/-! DEFINITION. The commands of the chapter Steering Law: SET_STEER_MODE, SET_TRIM_MANUAL, SET_STEER_GAINS, SET_PLATE,
QUERY_STEERING. -/

namespace Sys2Proof.Machine

def execSetSteerMode (port : Port) (tag : Byte) (payload : List Byte) (s : State) : Result :=
  .next (post .setSteerMode port tag payload (fun _ => (.setSteerMode (nameAt payload 0), false)) s)

/-- R98: the trim clamped to the limit as it stands at arrival, and whether it was clamped. -/
def postTrimManual (payload : List Byte) (s : State) : Posted × Bool :=
  let raw := intAt payload 0
  let lim := trimLim s.slu.settings.trimLimit s.wg.sEff
  let v := clampInt raw (-lim) lim
  (.setTrimManual v, decide (v ≠ raw))

def execSetTrimManual (port : Port) (tag : Byte) (payload : List Byte) (s : State) : Result :=
  .next (post .setTrimManual port tag payload (postTrimManual payload) s)

/-- R100: the eight settings in the order of the table. -/
def gainsAt (payload : List Byte) : SteerSettings :=
  { kx := natAt payload 0, ky := natAt payload 4, kt := natAt payload 8, deadband := natAt payload 12,
    twistDeadband := natAt payload 16, lr10 := natAt payload 20, trimLimit := natAt payload 24,
    startDepth := natAt payload 28 }

def execSetSteerGains (port : Port) (tag : Byte) (payload : List Byte) (s : State) : Result :=
  .next (post .setSteerGains port tag payload (fun _ => (.setSteerGains (gainsAt payload), false)) s)

/-- R99: the extension clamped to 0 to 100, and whether it was clamped. -/
def postPlate (payload : List Byte) : Posted × Bool :=
  let raw := natAt payload 1
  let v := min raw 100
  (.setPlate (nameAt payload 0) v, decide (v ≠ raw))

def execSetPlate (port : Port) (tag : Byte) (payload : List Byte) (s : State) : Result :=
  .next (post .setPlate port tag payload (fun _ => postPlate payload) s)

/-- Four plate values, N1, N2, S1, S2. -/
def platesBytes (c : PerPlate Nat) : List Byte := num c.n1 ++ num c.n2 ++ num c.s1 ++ num c.s2

/-- The chosen mode as a steering mode (R87). -/
def chosenMode (u : Slu) : SteerMode := if u.chosenAuto then .auto else .manual

/-- R101: the five conditions of R88 as they stand. -/
def modeMarks (s : State) : List Byte :=
  mark (s.dr.state != .valid) ++ mark (decide (s.dr.depth < s.slu.settings.startDepth)) ++
  mark (s.mfe.sensor = .lost) ++ mark s.dr.disagree ++ mark s.sru.record.isSome

/-- R101: the eight settings. -/
def gainsBytes (k : SteerSettings) : List Byte :=
  num k.kx ++ num k.ky ++ num k.kt ++ num k.deadband ++ num k.twistDeadband ++ num k.lr10 ++ num k.trimLimit ++
  num k.startDepth

/-- R101: the results of the last computation. -/
def resultBytes (r : SteerResult) : List Byte :=
  num r.dx ++ num r.dy ++ num r.sx ++ num r.sy ++ num r.ex ++ num r.ey ++ num r.psi ++ num r.trim ++ num r.uy ++
  num r.ut ++ platesBytes r.plates

/-- R101: the reply's values. -/
def steeringBytes (s : State) : List Byte :=
  let u := s.slu
  name (steerModeCode (chosenMode u)) ++ name (steerModeCode u.actual) ++ modeMarks s ++ gainsBytes u.settings ++
  resultBytes u.last ++ num u.offeredTrim ++ platesBytes u.commands ++ num u.manualTrim ++ platesBytes u.manualPlates ++
  num s.wg.sEff

def execQuerySteering (port : Port) (tag : Byte) (payload : List Byte) (s : State) : Result :=
  .next (answer .querySteering port tag payload steeringBytes s)

end Sys2Proof.Machine
end

