-- ==== Sys2Proof/Machine/Wheels.lean ====
section
/-! DEFINITION. The commands of the chapter Cutter Wheel Governor: SET_WHEEL_DEMAND, SET_RAMP, SET_FALLBACK_SPEED,
CLEAR_JAM, HALT, RELEASE_HALT, QUERY_DEMAND, QUERY_WHEELS, GOVERNOR_UPDATE, STALL_TIMER_EXPIRY, TACH_FAULT. -/

namespace Sys2Proof.Machine

/-! ## Posted settings (R49 to R51, R62) -/

/-- R49: the demand clamped to 0 to 350, and whether it was clamped. -/
def postWheelDemand (payload : List Byte) : Posted × Bool :=
  let raw := int16At payload 0
  let v := clampNat raw 350
  (.setWheelDemand v, decide ((v : Int) ≠ raw))

def execSetWheelDemand (port : Port) (tag : Byte) (payload : List Byte) (s : State) : Result :=
  .next (post .setWheelDemand port tag payload (fun _ => postWheelDemand payload) s)

/-- R50: the ramp rate clamped to 5 to 100, and whether it was clamped. -/
def postRamp (payload : List Byte) : Posted × Bool :=
  let raw := natAt payload 0
  let v := max 5 (min raw 100)
  (.setRamp v, decide (v ≠ raw))

def execSetRamp (port : Port) (tag : Byte) (payload : List Byte) (s : State) : Result :=
  .next (post .setRamp port tag payload (fun _ => postRamp payload) s)

def execSetFallbackSpeed (port : Port) (tag : Byte) (payload : List Byte) (s : State) : Result :=
  .next (post .setFallbackSpeed port tag payload (fun _ => (.setFallbackSpeed (natAt payload 0), false)) s)

def execClearJam (port : Port) (tag : Byte) (payload : List Byte) (s : State) : Result :=
  .next (post .clearJam port tag payload (fun _ => (.clearJam, false)) s)

/-! ## HALT and RELEASE_HALT (R63, R65) -/

/-- R63: the halt, and then the release of a head that the recovery held (R84). -/
def haltTaken (s : State) : State :=
  if s.sru.record.isSome then releaseRecovery (haltWheels s) else haltWheels s

def execHalt (port : Port) (tag : Byte) (payload : List Byte) (s : State) : Result :=
  .next (receive .halt port tag payload (fun t => reply .halt port tag .done [] (haltTaken t)) s)

/-- R65: a HALTED wheel returned to the normal law; STOPPED until the next update. -/
def releaseWheel (w : WheelRec) : WheelRec := if w.state = .halted then { w with state := .stopped } else w

/-- R65: both wheels released. -/
def releaseWheels (s : State) : State :=
  let after : PerWheel WheelRec := { a := releaseWheel s.wg.wheels.a, b := releaseWheel s.wg.wheels.b }
  handWheels s.wg.wheels { s with wg := { s.wg with wheels := after } }

/-- R65: whether a wheel is HALTING. -/
def someHalting (s : State) : Bool := s.wg.wheels.a.state = .halting || s.wg.wheels.b.state = .halting

def execReleaseHalt (port : Port) (tag : Byte) (payload : List Byte) (s : State) : Result :=
  .next (receive .releaseHalt port tag payload
    (fun t =>
      if someHalting t then reply .releaseHalt port tag .wrongState [] t
      else reply .releaseHalt port tag .done [] (releaseWheels t))
    s)

/-! ## Queries (R68, R69) -/

/-- R68: the reply's values. -/
def demandBytes (s : State) : List Byte := num s.wg.demand ++ num s.wg.ramp ++ num s.wg.fallback

def execQueryDemand (port : Port) (tag : Byte) (payload : List Byte) (s : State) : Result :=
  .next (answer .queryDemand port tag payload demandBytes s)

/-- R69: the values of one wheel. -/
def wheelBytes (w : WheelRec) (t : TachResult) (p : Reading) : List Byte :=
  name (wheelStateCode w.state) ++ num w.target ++ num w.present ++ num w.acc ++ tachBytes t ++ readingBytes p ++
  mark w.torqueHold ++ num (timeOf w.stallTimer : Nat) ++ mark w.stallTimer.isSome ++ num w.zeroGates

/-- R69: the reply's values. -/
def wheelsBytes (s : State) : List Byte :=
  num s.wg.ceiling ++ num s.wg.sEff ++ num s.wg.trim ++ mark s.wg.fallbackFlag ++ num s.wg.zoneCeiling ++
  num s.wg.zoneHold ++ num s.wg.zoneStall ++ mark s.sru.record.isSome ++
  wheelBytes s.wg.wheels.a s.mfe.tach.a s.mfe.gearbox.a ++ wheelBytes s.wg.wheels.b s.mfe.tach.b s.mfe.gearbox.b

def execQueryWheels (port : Port) (tag : Byte) (payload : List Byte) (s : State) : Result :=
  .next (answer .queryWheels port tag payload wheelsBytes s)

/-! ## The governor's own events -/

def execGovernorUpdate (pressureA pressureB : Int) (s : State) : Result := .next (governorStep pressureA pressureB s)

/-- STALL_TIMER_EXPIRY (R59): the stall timer of a wheel in RUNNING has reached 1,000 ms. -/
def execStallTimerExpiry (wheel : Wheel) (s : State) : Result :=
  let w := s.wg.wheels.get wheel
  .next (if w.state = .running ∧ w.stallTimer.isSome ∧ s.sru.record.isNone then takeStall wheel s else s)

/-- TACH_FAULT (R61): the zero-gate count of a wheel in RUNNING has reached 4. -/
def execTachFault (wheel : Wheel) (s : State) : Result :=
  .next (if (s.wg.wheels.get wheel).state = .running then takeTachFault wheel s else s)

end Sys2Proof.Machine
end

