-- ==== Sys2Proof/Machine/Zone.lean ====
section
/-! DEFINITION. The commands of the chapter Ground Zone Table: LOAD_ZONE, DROP_ZONE, QUERY_ZONE. -/

namespace Sys2Proof.Machine

/-- R37: the slot number and the seven fields of R35. -/
def postLoadZone (payload : List Byte) : Posted :=
  .loadZone (natAt payload 0) (natAt payload 4) (nameAt payload 8) (natAt payload 9) (natAt payload 13)
    (natAt payload 17) (natAt payload 21) (nameAt payload 25)

def execLoadZone (port : Port) (tag : Byte) (payload : List Byte) (s : State) : Result :=
  .next (post .loadZone port tag payload (fun _ => (postLoadZone payload, false)) s)

def execDropZone (port : Port) (tag : Byte) (payload : List Byte) (s : State) : Result :=
  .next (post .dropZone port tag payload (fun _ => (.dropZone (natAt payload 0), false)) s)

/-- R44: the fields of a zone after its upper bound. -/
def zoneBytes (z : ZoneEntry) : List Byte :=
  name (classCode z.cls) ++ num z.speedCeiling ++ num z.holdPressure ++ num z.stallPressure ++ num z.feedCeiling ++
  name (selectorCode z.selector)

/-- R44: the fields of a slot that holds no entry. -/
def emptyZoneBytes : List Byte := num 0 ++ name 0 ++ num 0 ++ num 0 ++ num 0 ++ num 0 ++ name 0

/-- R44: the mark and the fields of slot k. The default zone has no upper bound, and what stands in its place in the
reply is not stated: a free value (log entry 12). -/
def slotBytes (k : Nat) (s : State) : List Byte :=
  if k = 8 then mark true ++ freeNum s 0 ++ zoneBytes defaultZone
  else match s.zt.entries[k]? with
    | some z => mark true ++ num z.upper ++ zoneBytes z
    | none => mark false ++ emptyZoneBytes

/-- R44: the reply's values. -/
def zoneReplyBytes (k : Nat) (s : State) : List Byte :=
  num s.zt.entries.length ++ num s.zt.current ++ num s.zt.selectionDepth ++ num k ++ slotBytes k s

def execQueryZone (port : Port) (tag : Byte) (payload : List Byte) (s : State) : Result :=
  .next (receive .queryZone port tag payload
    (fun t =>
      let k := natAt payload 0
      if 8 < k then reply .queryZone port tag .outOfRange [] t
      else reply .queryZone port tag .done (zoneReplyBytes k t) (if k = 8 then useFree 1 t else t))
    s)

end Sys2Proof.Machine
end

