-- ==== Sys2Proof/Machine/Dispatch.lean ====
section
/-! DEFINITION. What each command does to everything but the queue: one arm per constructor of `Instr`. -/

namespace Sys2Proof.Machine

def exec (i : Instr) (s : State) : Host.Outcome State Fault Refusal :=
  match i with
  | .powerOn plantReady => Sys2Proof.Machine.execPowerOn plantReady s
  | .badFrame port candidate => Sys2Proof.Machine.execBadFrame port candidate s
  | .unknownKind port kind tag => Sys2Proof.Machine.execUnknownKind port kind tag s
  | .setScaler port tag payload => Sys2Proof.Machine.execSetScaler port tag payload s
  | .queryMeasurements port tag payload => Sys2Proof.Machine.execQueryMeasurements port tag payload s
  | .reportRopeCount port tag payload => Sys2Proof.Machine.execReportRopeCount port tag payload s
  | .setDatum port tag payload => Sys2Proof.Machine.execSetDatum port tag payload s
  | .setDepthCheck port tag payload => Sys2Proof.Machine.execSetDepthCheck port tag payload s
  | .queryDepth port tag payload => Sys2Proof.Machine.execQueryDepth port tag payload s
  | .loadZone port tag payload => Sys2Proof.Machine.execLoadZone port tag payload s
  | .dropZone port tag payload => Sys2Proof.Machine.execDropZone port tag payload s
  | .queryZone port tag payload => Sys2Proof.Machine.execQueryZone port tag payload s
  | .setWheelDemand port tag payload => Sys2Proof.Machine.execSetWheelDemand port tag payload s
  | .setRamp port tag payload => Sys2Proof.Machine.execSetRamp port tag payload s
  | .setFallbackSpeed port tag payload => Sys2Proof.Machine.execSetFallbackSpeed port tag payload s
  | .clearJam port tag payload => Sys2Proof.Machine.execClearJam port tag payload s
  | .halt port tag payload => Sys2Proof.Machine.execHalt port tag payload s
  | .releaseHalt port tag payload => Sys2Proof.Machine.execReleaseHalt port tag payload s
  | .queryDemand port tag payload => Sys2Proof.Machine.execQueryDemand port tag payload s
  | .queryWheels port tag payload => Sys2Proof.Machine.execQueryWheels port tag payload s
  | .setRecovery port tag payload => Sys2Proof.Machine.execSetRecovery port tag payload s
  | .queryRecovery port tag payload => Sys2Proof.Machine.execQueryRecovery port tag payload s
  | .setSteerMode port tag payload => Sys2Proof.Machine.execSetSteerMode port tag payload s
  | .setTrimManual port tag payload => Sys2Proof.Machine.execSetTrimManual port tag payload s
  | .setSteerGains port tag payload => Sys2Proof.Machine.execSetSteerGains port tag payload s
  | .setPlate port tag payload => Sys2Proof.Machine.execSetPlate port tag payload s
  | .querySteering port tag payload => Sys2Proof.Machine.execQuerySteering port tag payload s
  | .clearPlate port tag payload => Sys2Proof.Machine.execClearPlate port tag payload s
  | .queryPlates port tag payload => Sys2Proof.Machine.execQueryPlates port tag payload s
  | .surveyClaim port tag payload => Sys2Proof.Machine.execSurveyClaim port tag payload s
  | .surveyRelease port tag payload => Sys2Proof.Machine.execSurveyRelease port tag payload s
  | .surveyConfig port tag payload => Sys2Proof.Machine.execSurveyConfig port tag payload s
  | .surveyClear port tag payload => Sys2Proof.Machine.execSurveyClear port tag payload s
  | .surveySetPointer port tag payload => Sys2Proof.Machine.execSurveySetPointer port tag payload s
  | .surveyStart port tag payload => Sys2Proof.Machine.execSurveyStart port tag payload s
  | .surveyStop port tag payload => Sys2Proof.Machine.execSurveyStop port tag payload s
  | .surveyWindow port tag payload => Sys2Proof.Machine.execSurveyWindow port tag payload s
  | .readNext port tag payload => Sys2Proof.Machine.execReadNext port tag payload s
  | .querySurvey port tag payload => Sys2Proof.Machine.execQuerySurvey port tag payload s
  | .surveyCheck port tag payload => Sys2Proof.Machine.execSurveyCheck port tag payload s
  | .queryCheck port tag payload => Sys2Proof.Machine.execQueryCheck port tag payload s
  | .setPumpDemand port tag payload => Sys2Proof.Machine.execSetPumpDemand port tag payload s
  | .setTransport port tag payload => Sys2Proof.Machine.execSetTransport port tag payload s
  | .setPlantCeiling port tag payload => Sys2Proof.Machine.execSetPlantCeiling port tag payload s
  | .reportDensity port tag payload => Sys2Proof.Machine.execReportDensity port tag payload s
  | .resetReturn port tag payload => Sys2Proof.Machine.execResetReturn port tag payload s
  | .queryReturn port tag payload => Sys2Proof.Machine.execQueryReturn port tag payload s
  | .setPortTimeout port tag payload => Sys2Proof.Machine.execSetPortTimeout port tag payload s
  | .headRestart port tag payload => Sys2Proof.Machine.execHeadRestart port tag payload s
  | .testInject port tag payload => Sys2Proof.Machine.execTestInject port tag payload s
  | .queryPort port tag payload => Sys2Proof.Machine.execQueryPort port tag payload s
  | .queryStatus port tag payload => Sys2Proof.Machine.execQueryStatus port tag payload s
  | .ackEvents port tag payload => Sys2Proof.Machine.execAckEvents port tag payload s
  | .setEventEnables port tag payload => Sys2Proof.Machine.execSetEventEnables port tag payload s
  | .setAlertLine port tag payload => Sys2Proof.Machine.execSetAlertLine port tag payload s
  | .setMarkWidth port tag payload => Sys2Proof.Machine.execSetMarkWidth port tag payload s
  | .queryEvents port tag payload => Sys2Proof.Machine.execQueryEvents port tag payload s
  | .postedHeadApply port => Sys2Proof.Machine.execPostedHeadApply port s
  | .sampleSlot delivery => Sys2Proof.Machine.execSampleSlot delivery s
  | .tachGateEnd wheel pulses cutting => Sys2Proof.Machine.execTachGateEnd wheel pulses cutting s
  | .flowGateEnd pulses => Sys2Proof.Machine.execFlowGateEnd pulses s
  | .governorUpdate pressureA pressureB => Sys2Proof.Machine.execGovernorUpdate pressureA pressureB s
  | .headPressureSample reading => Sys2Proof.Machine.execHeadPressureSample reading s
  | .plateSample n1 n2 s1 s2 => Sys2Proof.Machine.execPlateSample n1 n2 s1 s2 s
  | .snapshotIntervalExpiry => Sys2Proof.Machine.execSnapshotIntervalExpiry s
  | .stallTimerExpiry wheel => Sys2Proof.Machine.execStallTimerExpiry wheel s
  | .tachFault wheel => Sys2Proof.Machine.execTachFault wheel s
  | .sensorLost => Sys2Proof.Machine.execSensorLost s
  | .depthDisagree => Sys2Proof.Machine.execDepthDisagree s
  | .disagreeClear => Sys2Proof.Machine.execDisagreeClear s
  | .phaseTimerExpiry => Sys2Proof.Machine.execPhaseTimerExpiry s
  | .burstStallTimerExpiry => Sys2Proof.Machine.execBurstStallTimerExpiry s
  | .settleTimerExpiry plate => Sys2Proof.Machine.execSettleTimerExpiry plate s
  | .moveTimerExpiry plate => Sys2Proof.Machine.execMoveTimerExpiry plate s
  | .primingTimerExpiry => Sys2Proof.Machine.execPrimingTimerExpiry s
  | .starvationCountExpiry => Sys2Proof.Machine.execStarvationCountExpiry s
  | .plantReadyRise lowMs => Sys2Proof.Machine.execPlantReadyRise lowMs s
  | .plantReadyFall => Sys2Proof.Machine.execPlantReadyFall s
  | .holdTimerExpiry port => Sys2Proof.Machine.execHoldTimerExpiry port s
  | .silenceTimerExpiry port => Sys2Proof.Machine.execSilenceTimerExpiry port s
  | .startUpTimerExpiry => Sys2Proof.Machine.execStartUpTimerExpiry s
  | .widthTimerExpiry => Sys2Proof.Machine.execWidthTimerExpiry s

end Sys2Proof.Machine
end

