-- ==== Sys2Proof/Machine/Tick.lean ====
section
/-! DEFINITION. One millisecond of the hub's own timers (log entry 1): each running timer loses 1 ms, and the expiry of
each one that reaches 0 joins the queue as a command. -/

namespace Sys2Proof.Machine

/-- A running timer after 1 ms. -/
def runDown (t : Option Nat) : Option Nat := t.map (· - 1)

/-- The command of a timer that has reached 0. -/
def expiry (t : Option Nat) (c : Instr) : List Instr := if t = some 0 then [c] else []

/-- R186, R187: the silence timer and the hold timer of a port. -/
def tickPort (q : PortRec) : PortRec := { q with silence := runDown q.silence, hold := runDown q.hold }

/-- R106: the move timer of a plate. -/
def tickPlate (q : Plate) : Plate := { q with moveTimer := runDown q.moveTimer }

/-- R165, R169: the priming timer, and the time the line has been low while the detector is armed. -/
def tickRc (r : Rc) : Rc :=
  { r with primingTimer := runDown r.primingTimer, lowFor := if r.armed && !r.ready then r.lowFor + 1 else r.lowFor }

/-- Every timer of the hub after 1 ms. The timers that run in steps of 100 ms of a governor update or a plate sample
advance there, not here. -/
def tickTimers (s : State) : State :=
  { s with
    dr := { s.dr with snapshotLeft := s.dr.snapshotLeft - 1 }
    psv := { n1 := tickPlate s.psv.n1, n2 := tickPlate s.psv.n2, s1 := tickPlate s.psv.s1, s2 := tickPlate s.psv.s2 }
    rc := tickRc s.rc
    pi := { s.pi with
      ports := { cabin := tickPort s.pi.ports.cabin, plant := tickPort s.pi.ports.plant,
                 hoist := tickPort s.pi.ports.hoist }
      startUpLeft := s.pi.startUpLeft - 1 }
    eu := { s.eu with mark := runDown s.eu.mark } }

/-- The commands of the timers that stand at 0, in the order the model takes them (log entry 1). -/
def expired (s : State) : List Instr :=
  (if s.pi.hub = .starting ∧ s.pi.startUpLeft = 0 then [.startUpTimerExpiry] else []) ++
  expiry s.eu.mark .widthTimerExpiry ++ expiry s.rc.primingTimer .primingTimerExpiry ++
  (if s.dr.snapshotLeft = 0 then [.snapshotIntervalExpiry] else []) ++
  expiry s.pi.ports.cabin.hold (.holdTimerExpiry .cabin) ++ expiry s.pi.ports.plant.hold (.holdTimerExpiry .plant) ++
  expiry s.pi.ports.hoist.hold (.holdTimerExpiry .hoist) ++
  expiry s.psv.n1.moveTimer (.moveTimerExpiry .n1) ++ expiry s.psv.n2.moveTimer (.moveTimerExpiry .n2) ++
  expiry s.psv.s1.moveTimer (.moveTimerExpiry .s1) ++ expiry s.psv.s2.moveTimer (.moveTimerExpiry .s2) ++
  expiry s.pi.ports.cabin.silence (.silenceTimerExpiry .cabin) ++
  expiry s.pi.ports.plant.silence (.silenceTimerExpiry .plant) ++
  expiry s.pi.ports.hoist.silence (.silenceTimerExpiry .hoist)

/-- One millisecond, with no command waiting. -/
def tick (s : State) : State := { tickTimers s with pending := expired (tickTimers s) }

end Sys2Proof.Machine
end

