-- ==== Sys2Proof/Safety.lean ====
section
/-! DEFINITION. What the hub's own promises say of a state: the invariants that every step keeps, each with the rules it
collects, and the conditions the statements use. All of them can be decided on a given state. -/

namespace Sys2Proof.Machine

/-! ## Conditions the statements use -/

/-- A port whose posted requests are applied as they arrive: the hub READY, the port's queue empty, no head held. -/
abbrev QueueClear (port : Port) (s : State) : Prop :=
  s.pi.hub = .ready ∧ (s.port port).queue = [] ∧ (s.port port).hold = none

/-- The state right after a request of a port has been heard and answered, before it has any effect (R178, R187). -/
def answered (k : Kind) (port : Port) (tag : Byte) (status : Status) (payload : List Byte) (s : State) : State :=
  reply k port tag status payload (hear port s)

/-- R185: a refusal of a posted request as it shows: the port's rejection record and refused count, and REFUSED
(kind 16) latched in that port's set. -/
def refusedAt (k : Kind) (port : Port) (tag : Byte) (code : Status) (s : State) : State :=
  let t := s.setPort port { s.port port with rejection := some { kind := k, tag := tag, code := code }
                                             refused := min 255 ((s.port port).refused + 1) }
  t.setEu port { t.eu.ports.get port with latched := (t.eu.ports.get port).latched ||| 0x10000#32 }

/-- The posted kinds (section 11.5). -/
def isPosted (k : Kind) : Bool :=
  [Kind.setScaler, .setDepthCheck, .loadZone, .dropZone, .setWheelDemand, .setRamp, .setFallbackSpeed, .clearJam,
   .setRecovery, .setSteerMode, .setTrimManual, .setSteerGains, .setPlate, .clearPlate, .setPumpDemand, .setTransport,
   .setPortTimeout, .ackEvents, .setEventEnables, .setAlertLine, .setMarkWidth].contains k

/-- R171, R172: the feed limit that the inputs of a state give. -/
def feedNow (s : State) : Nat := if feedAllowed s then feedComputed s.rc else 0

/-- R90 to R92: the steering unit after it enters a mode. -/
def enteredSlu (m : SteerMode) (u : Slu) : Slu :=
  match m with
  | .off => { u with actual := .off, offeredTrim := 0, uy := 0, ut := 0, commands := noPlates }
  | .frozen => { u with actual := .frozen, offeredTrim := 0 }
  | .auto => { u with actual := .auto }
  | .manual => { u with actual := .manual, offeredTrim := u.manualTrim, commands := u.manualPlates }

/-- R89: the steering unit once the actual mode has been re-evaluated. -/
def steeredSlu (s : State) : Slu :=
  if modeNow s = s.slu.actual then s.slu else enteredSlu (modeNow s) s.slu

/-- R97, R109: the plates once each command that differs from the one last handed has been handed. -/
def handedPlates (old new : PerPlate Nat) (p : PerPlate Plate) : PerPlate Plate :=
  { n1 := if old.n1 = new.n1 then p.n1 else takeCommand new.n1 p.n1
    n2 := if old.n2 = new.n2 then p.n2 else takeCommand new.n2 p.n2
    s1 := if old.s1 = new.s1 then p.s1 else takeCommand new.s1 p.s1
    s2 := if old.s2 = new.s2 then p.s2 else takeCommand new.s2 p.s2 }

/-- R89 to R92: a state whose steering conditions have changed, with SLU and the plates brought up to date. -/
def steered (s : State) : State :=
  { s with slu := steeredSlu s, psv := handedPlates s.slu.commands (steeredSlu s).commands s.psv }

/-- R130, R146: the survey state once both conditions have been judged. -/
def judgedSurvey (s : State) : SurveyState :=
  match s.su.state with
  | .accumulating | .holding => if accumulateOk s then .accumulating else .holding
  | .checking | .checkHolding => if checkOk s then .checking else .checkHolding
  | .idle => .idle
  | .claimed => .claimed
  | .armed => .armed
  | .closed => .closed
  | .full => .full

/-- R130: the survey state once the accumulate condition alone has been judged. -/
def judgedRun (s : State) : SurveyState :=
  match s.su.state with
  | .accumulating | .holding => if accumulateOk s then .accumulating else .holding
  | .idle => .idle
  | .claimed => .claimed
  | .armed => .armed
  | .closed => .closed
  | .full => .full
  | .checking => .checking
  | .checkHolding => .checkHolding

/-- R136: the survey with its live deviation recomputed for a toe: that of the open segment in ACCUMULATING and HOLDING,
0 in every other state. -/
def liveSu (toe : Nat) (u : Su) : Su :=
  match u.state, u.segment with
  | .accumulating, some g | .holding, some g =>
    { u with liveX := roundDiv (u.rx + meanOf g.sumX g.count * segmentDepth g toe) 100000
             liveY := roundDiv (u.ry + meanOf g.sumY g.count * segmentDepth g toe) 100000 }
  | _, _ => { u with liveX := 0, liveY := 0 }

/-- R130, R136: the survey of a state once its conditions have been judged and the survey state is `st`: HELD is set on
the open segment when the run begins to hold, and nothing else changes but the live deviation. -/
def judgedSu (st : SurveyState) (s : State) : Su :=
  liveSu s.dr.toe
    { s.su with state := st
                segment := if s.su.state = .accumulating ∧ st = .holding then markHeld s.su.segment
                           else s.su.segment }

/-- R131, R136, R147: the survey once a valid set has been handed to it. -/
def sampledSu (v : SampleSet) (saturated : Bool) (toe : Nat) (u : Su) : Su :=
  match u.state with
  | .accumulating => liveSu toe { u with segment := u.segment.map (addToSegment v saturated) }
  | .holding => liveSu toe u
  | .checking =>
    if u.target.isSome = true ∧ u.checkCount < 65535 then
      { u with checkCount := u.checkCount + 1, checkSumX := u.checkSumX + v.x, checkSumY := u.checkSumY + v.y }
    else u
  | .idle | .claimed | .armed | .closed | .full | .checkHolding => u

/-! ## The slurry return as it follows from its inputs -/

/-- R159 to R161: the return's record once the transport floor has been recomputed for a measured feed rate. -/
def flooredRc (fMeas : Nat) (r : Rc) : Rc :=
  let floor := max (settlingFlow r.transport) (concentrationFlow r.transport fMeas)
  let demand := effectiveDemand r.qc floor r.qp
  { r with qSettle := settlingFlow r.transport, qConc := concentrationFlow r.transport fMeas, qFloor := floor
           qEff := demand, pump := if pumpOn r.state then demand else 0
           short := decide (0 < r.qc) && decide (r.qp < floor) }

/-- R161: the latched sets once TRANSPORT_SHORT has been re-judged: raised when the condition begins to hold. -/
def shortRaised (before after : Rc) (u : Eu) : Eu :=
  if after.short && !before.short then latchAll .transportShort u else u

/-! ## Posted queues -/

/-- R184, R185: a posted request answered and joined to a queue that has room: it stands at the tail, or in an empty queue
becomes the head and is judged. -/
def joinedAfter (port : Port) (tag : Byte) (r : Posted) (clamped : Bool) (s : State) : State :=
  let a := answered r.kind port tag (if clamped then .takenClamped else .taken) [] s
  if (s.port port).queue = [] then drainList port [{ request := r, tag := tag }] a
  else a.setPort port { a.port port with queue := (s.port port).queue ++ [{ request := r, tag := tag }] }

/-! ## Steering (R88 to R90, R104) -/

/-- R88, R89: the actual mode is the one its conditions give. -/
abbrev ModeFollows (s : State) : Prop := s.slu.actual = modeNow s

/-- R90, R104, R106, R107: one plate, the command SLU last handed it and its manual extension. -/
abbrev PlateLegal (handed manual : Nat) (q : Plate) : Prop :=
  handed ≤ 100 ∧ manual ≤ 100 ∧ q.demand = handed ∧ q.command ≤ 100 ∧ q.extension.value ≤ 100 ∧
  (q.move ≠ .stuck → q.command = q.demand) ∧ (q.moveTimer.isSome = true ↔ q.move = .moving) ∧
  (q.settleTimer.isSome = true → q.move = .moving)

/-- R99: a queued SET_PLATE carries an extension of 0 to 100. -/
def extensionQueued (r : Posted) : Bool :=
  match r with
  | .setPlate _ extension => decide (extension ≤ 100)
  | .setScaler .. | .setDepthCheck .. | .loadZone .. | .dropZone _ | .setWheelDemand _ | .setRamp _
  | .setFallbackSpeed _ | .clearJam | .setRecovery _ | .setSteerMode _ | .setTrimManual _ | .setSteerGains _
  | .clearPlate _ | .setPumpDemand _ | .setTransport _ | .setPortTimeout _ _ | .ackEvents _ | .setEventEnables _
  | .setAlertLine _ | .setMarkWidth _ => true

/-- R99, R184: every queued entry of a port carries a plate extension as clamped. -/
def queueClamped (q : PortRec) : Bool := q.queue.all fun e => extensionQueued e.request

/-- The plates: each within its range, and all commanded to 0 while the actual mode is OFF (R90). -/
abbrev PlatesLegal (s : State) : Prop :=
  (s.slu.actual = .off → s.slu.commands = noPlates) ∧
  PlateLegal s.slu.commands.n1 s.slu.manualPlates.n1 s.psv.n1 ∧
  PlateLegal s.slu.commands.n2 s.slu.manualPlates.n2 s.psv.n2 ∧
  PlateLegal s.slu.commands.s1 s.slu.manualPlates.s1 s.psv.s1 ∧
  PlateLegal s.slu.commands.s2 s.slu.manualPlates.s2 s.psv.s2 ∧
  queueClamped s.pi.ports.cabin = true ∧ queueClamped s.pi.ports.plant = true ∧ queueClamped s.pi.ports.hoist = true

/-! ## Wheels and recovery (R47, R48, R71, R73) -/

/-- R47: the pairs of wheel states. The transitions that leave the normal law always concern both wheels. -/
def legalPair (a b : WheelState) : Bool :=
  match a, b with
  | .stopped, .stopped | .stopped, .running | .running, .stopped | .running, .running
  | .halting, .halting | .halting, .halted | .halted, .halting | .halted, .halted
  | .recovering, .standby | .standby, .recovering | .jammed, .standby | .standby, .jammed
  | .tachFault, .standby | .standby, .tachFault => true
  | _, _ => false

/-- R47, R55 to R58, R60: a wheel outside the normal law has target 0 and no TORQUE_HOLD; the stall timer and the
zero-gate count belong to RUNNING; HALTED, JAMMED and TACH_FAULT hold the accumulator at 0. -/
abbrev WheelQuiet (w : WheelRec) : Prop :=
  (w.state ≠ .stopped ∧ w.state ≠ .running → w.target = 0 ∧ w.torqueHold = false) ∧
  (w.state ≠ .running → w.stallTimer = none ∧ w.zeroGates = 0) ∧
  (w.state = .halted ∨ w.state = .jammed ∨ w.state = .tachFault → w.acc = 0)

/-- R73: the recovery record exists exactly while a wheel is RECOVERING, and names that wheel. -/
abbrev RecordMatches (s : State) : Prop :=
  (s.sru.record = none → s.wg.wheels.a.state ≠ .recovering ∧ s.wg.wheels.b.state ≠ .recovering) ∧
  ∀ r ∈ s.sru.record, (s.wg.wheels.get r.wheel).state = .recovering

/-- The wheels: a legal pair of states, each wheel quiet, and the record for the wheel that is RECOVERING. -/
abbrev WheelsLegal (s : State) : Prop :=
  legalPair s.wg.wheels.a.state s.wg.wheels.b.state = true ∧ WheelQuiet s.wg.wheels.a ∧ WheelQuiet s.wg.wheels.b ∧
  RecordMatches s

/-- R48: the present reference lies within −100 to 350, and it is negative only while the wheel is RECOVERING. -/
abbrev ReferenceLegal (w : WheelRec) : Prop :=
  -1000 ≤ w.acc ∧ w.acc ≤ 3500 ∧ (w.present < 0 → w.state = .recovering)

/-- The references, with what bounds them: no ceiling above 350 (R35, R52), no reverse speed above 100 (R71). -/
abbrev ReferencesLegal (s : State) : Prop :=
  ReferenceLegal s.wg.wheels.a ∧ ReferenceLegal s.wg.wheels.b ∧ s.wg.ceiling ≤ 350 ∧ s.wg.zoneCeiling ≤ 350 ∧
  (∀ z ∈ s.zt.entries, z.speedCeiling ≤ 350) ∧ s.sru.settings.reverseSpeed ≤ 100

/-- R73, R80, R81: the fields of a recovery record. -/
abbrev RecordLegal (k : RecoverySettings) (r : Recovery) : Prop :=
  1 ≤ r.burst ∧ r.burst ≤ k.bursts ∧ timeOf r.phaseTimer ≤ 10000 ∧ timeOf r.burstTimer ≤ 1000 ∧
  (r.phase = .stopping → r.phaseTimer = none) ∧
  (r.phase = .stopping ∨ r.phase = .rest → r.burstTimer = none)

/-- R71, R73: the settings within their ranges, and the record, when there is one, within them. -/
abbrev RecoveryLegal (s : State) : Prop :=
  recoveryOk s.sru.settings = true ∧ ∀ r ∈ s.sru.record, RecordLegal s.sru.settings r

/-! ## Zones (R35, R40, R41, R43) -/

/-- R35: the upper bounds rise strictly. -/
abbrev BoundsRise (entries : List ZoneEntry) : Prop := entries.Pairwise fun a b => a.upper < b.upper

/-- R35: the fields of an entry. -/
abbrev EntryLegal (z : ZoneEntry) : Prop :=
  1 ≤ z.upper ∧ z.upper ≤ maxDepth ∧ z.speedCeiling ≤ 350 ∧ 1000 ≤ z.holdPressure ∧
  z.holdPressure ≤ z.stallPressure ∧ z.stallPressure ≤ 4500 ∧ z.feedCeiling ≤ 200

/-- The table in order, the current zone the one that contains the selection depth, and its values those that WG and RC
work with. -/
abbrev ZonesLegal (s : State) : Prop :=
  s.zt.entries.length ≤ 8 ∧ BoundsRise s.zt.entries ∧ (∀ z ∈ s.zt.entries, EntryLegal z) ∧
  s.zt.current = zoneIndexAt s.zt.entries s.zt.selectionDepth ∧
  s.wg.zoneCeiling = (zoneOf s.zt.entries s.zt.current).speedCeiling ∧
  s.wg.zoneHold = (zoneOf s.zt.entries s.zt.current).holdPressure ∧
  s.wg.zoneStall = (zoneOf s.zt.entries s.zt.current).stallPressure ∧
  s.rc.feedCeiling = (zoneOf s.zt.entries s.zt.current).feedCeiling

/-! ## The slurry return (R159 to R172) -/

/-- R159 to R168: the floor, the demand and the pump command follow from the settings, and each timer and count belongs
to its return state. R52: the FALLBACK flag follows the return state, the fallback speed and the zone. -/
abbrev ReturnLegal (s : State) : Prop :=
  s.rc.qSettle = settlingFlow s.rc.transport ∧ s.rc.qConc = concentrationFlow s.rc.transport s.dr.fMeas ∧
  s.rc.qFloor = max s.rc.qSettle s.rc.qConc ∧ s.rc.qEff = effectiveDemand s.rc.qc s.rc.qFloor s.rc.qp ∧
  s.rc.pump = (if pumpOn s.rc.state then s.rc.qEff else 0) ∧ s.rc.short = shortHolds s.rc ∧
  (s.rc.state = .off ↔ s.rc.qc = 0) ∧ (s.rc.primingTimer.isSome = true ↔ s.rc.state = .priming) ∧
  (s.rc.armed = true ↔ s.rc.state = .plantHold) ∧ (pumpOn s.rc.state = true → s.rc.ready = true) ∧
  (s.rc.state = .priming ∨ s.rc.state = .pumping → 0 < s.rc.qp) ∧
  s.rc.starvation < 5 ∧ (s.rc.state ≠ .pumping → s.rc.starvation = 0) ∧ s.wg.fallbackFlag = fallbackNow s

/-- R171, R172: the feed limit held is the one its inputs give. -/
abbrev FeedPublished (s : State) : Prop :=
  s.rc.qSettle = settlingFlow s.rc.transport ∧
  s.rc.feedLimit = if feedAllowed s then feedComputed s.rc else 0

/-! ## Depth (R19, R21, R26 to R31) -/

/-- R19, R34: what DR holds in UNSET. -/
abbrev DepthUnset (d : Dr) : Prop :=
  d.depth = 0 ∧ d.toe = 0 ∧ d.aboveDatum = false ∧ d.range = false ∧ d.disagree = false ∧ d.history = []

/-- The depth, its flags, the toe and its history, and the run counters of the cross-check. -/
abbrev DepthLegal (s : State) : Prop :=
  (s.dr.state = .unset → DepthUnset s.dr) ∧ s.dr.depth ≤ s.dr.toe ∧ s.dr.toe ≤ maxDepth ∧
  (s.dr.aboveDatum = true → s.dr.depth = 0 ∧ s.dr.range = false) ∧ (s.dr.range = true → s.dr.depth = maxDepth) ∧
  s.dr.history.length ≤ 12 ∧ s.dr.history.Pairwise (· ≤ ·) ∧ (∀ t ∈ s.dr.history, t ≤ s.dr.toe) ∧
  s.dr.fMeas = measuredFeed s.dr.history ∧ s.dr.outRun ≤ 255 ∧ s.dr.inRun ≤ 255 ∧
  (s.dr.outRun = 0 ∨ s.dr.inRun = 0) ∧
  (s.dr.crossCheck = .noDensity ∨ s.dr.state ≠ .valid → s.dr.outRun = 0 ∧ s.dr.inRun = 0) ∧
  (s.dr.crossCheck = .noDensity → s.dr.disagree = false) ∧
  (s.dr.crossCheck = .comparing ↔ s.rc.densityReported = true ∧ s.pi.ports.plant.link = .active)

/-! ## The sensor and the measurements (R7 to R9, R13 to R16) -/

/-- R8: a set in the window, as clamped. -/
abbrev SetLegal (v : SampleSet) : Prop :=
  -5000 ≤ v.x ∧ v.x ≤ 5000 ∧ -5000 ≤ v.y ∧ v.y ≤ 5000 ∧ -1000 ≤ v.psi ∧ v.psi ≤ 1000

/-- R13: a tach result. -/
abbrev TachLegal (t : TachResult) : Prop :=
  -500 ≤ t.speed ∧ t.speed ≤ 500 ∧ t.pulses ≤ 65535 ∧ (t.pulses = 0 → t.speed = 0)

/-- The window holds 8 sets exactly in OK (R9), and every measurement lies in its range. -/
abbrev MeasurementsLegal (s : State) : Prop :=
  s.mfe.window.length ≤ 8 ∧ (s.mfe.sensor = .ok ↔ s.mfe.window.length = 8) ∧ (∀ v ∈ s.mfe.window, SetLegal v) ∧
  s.mfe.invalidCount ≤ 255 ∧ (s.mfe.sensor = .ok → s.mfe.invalidCount < 5) ∧
  (s.mfe.window = [] → s.mfe.newestSaturated = false) ∧ TachLegal s.mfe.tach.a ∧ TachLegal s.mfe.tach.b ∧
  s.mfe.qm.value ≤ 10000 ∧ s.mfe.gearbox.a.value ≤ 4500 ∧ s.mfe.gearbox.b.value ≤ 4500 ∧
  s.mfe.headPressure.value ≤ 400000

/-! ## Ports (R137, R177, R185 to R192) -/

/-- R177, R185, R187, R192, R137: the counts of a port, its silence timer and its read window. -/
abbrev PortLegal (q : PortRec) : Prop :=
  q.queue.length ≤ 8 ∧ (q.silence.isSome = true ↔ q.link = .active) ∧ q.refused ≤ 255 ∧ q.badFrames ≤ 65535 ∧
  q.injection ≤ 16 ∧ q.windowFirst ≤ q.windowLast ∧ q.windowLast ≤ 1023 ∧ q.windowFirst ≤ q.cursor ∧
  q.cursor ≤ q.windowLast + 1

/-- Every port, and the start-up timer stopped in READY (R190). -/
abbrev PortsLegal (s : State) : Prop :=
  PortLegal s.pi.ports.cabin ∧ PortLegal s.pi.ports.plant ∧ PortLegal s.pi.ports.hoist ∧
  (s.pi.hub = .ready → s.pi.startUpLeft = 0)

/-- A port with nothing queued. -/
abbrev NothingQueued (q : PortRec) : Prop := q.queue = [] ∧ q.hold = none

/-- R185, R186: a queue that is empty with no hold timer, or whose head is held with the hold timer running. -/
def headWaits (q : PortRec) (s : State) : Bool :=
  match q.queue with
  | [] => q.hold.isNone
  | e :: _ => held e.request s && q.hold.isSome

/-- R185, R186: a head whose target is not held has been applied; only the cabin's queue can hold an entry. -/
abbrev HeadsHeld (s : State) : Prop :=
  NothingQueued s.pi.ports.plant ∧ NothingQueued s.pi.ports.hoist ∧ headWaits s.pi.ports.cabin s = true

/-! ## The survey (R116 to R118, R132, R134) -/

/-- R117: each record's top is less than its bottom, and the next record begins at it. -/
def chained : List SurveyRecord → Bool
  | [] => true
  | [r] => decide (r.top < r.bottom)
  | r :: q :: rest => decide (r.top < r.bottom) && decide (r.bottom = q.top) && chained (q :: rest)

/-- R117: where the next segment of the table opens: at the bottom of the last record, or anywhere in an empty table. -/
abbrev OpensAt (records : List SurveyRecord) (top : Nat) : Prop := ∀ r ∈ records.getLast?, r.bottom = top

/-- R116, R129: the open segment of a run. -/
abbrev SegmentLegal (u : Su) (g : Segment) : Prop :=
  OpensAt u.records g.top ∧ 2500 ≤ g.length ∧ g.length ≤ 50000 ∧ g.count ≤ 65535 ∧ u.records.length < 1024

/-- R118: the claimant each state allows. -/
abbrev ClaimLegal (u : Su) : Prop :=
  (u.state = .idle → u.claimant = none) ∧
  (u.state = .claimed ∨ u.state = .closed ∨ u.state = .full → u.claimant.isSome = true)

/-- R116 to R118: the table and the state of the survey. -/
abbrev SurveyLegal (s : State) : Prop :=
  chained s.su.records = true ∧ s.su.records.length ≤ 1024 ∧ ClaimLegal s.su ∧
  (2500 ≤ s.su.l0 ∧ s.su.l0 ≤ 50000) ∧ (2500 ≤ s.su.l1 ∧ s.su.l1 ≤ 50000) ∧
  (s.su.segment.isSome = true ↔ s.su.state = .accumulating ∨ s.su.state = .holding) ∧
  (∀ g ∈ s.su.segment, SegmentLegal s.su g) ∧
  (s.su.state = .armed → OpensAt s.su.records s.su.nextTop ∧ s.su.records.length < 1024) ∧
  (s.su.state = .full → s.su.records.length = 1024)

/-! ## Events (R195) -/

/-- R195 to R197: no set of a port names a bit from 19 to 31. -/
abbrev SetsLegal (e : EuPort) : Prop := namesNoKind e.latched = false ∧ namesNoKind e.enabled = false

/-- The event sets of the three ports, and the mark pulse within its width's range (R199). -/
abbrev EventsLegal (s : State) : Prop :=
  SetsLegal s.eu.ports.cabin ∧ SetsLegal s.eu.ports.plant ∧ SetsLegal s.eu.ports.hoist ∧
  10 ≤ s.eu.markWidth ∧ s.eu.markWidth ≤ 2000 ∧ timeOf s.eu.mark ≤ 2000

end Sys2Proof.Machine
end

