-- ==== Sys2Proof/WellFormed.lean ====
section
/-! DEFINITION. Which commands can reach the hub: the checks that a command's operands meet by how it comes about. -/

namespace Sys2Proof

/-- A request's payload fits its frame (length field 0 to 60, R177); a BAD_FRAME's candidate is bad (R177); an
UNKNOWN_KIND's kind byte names no kind (R181). The hub's own events take any reading. -/
def Instr.wellFormed (i : Instr) : Bool :=
  match i with
  | .badFrame _ candidate => (readFrame candidate).isNone
  | .unknownKind _ kind _ => (Kind.ofCode kind).isNone
  | _ => match i.request with
    | some (_, _, _, payload) => decide (payload.length ≤ 60)
    | none => true

end Sys2Proof
end

