-- ==== Sys2Proof/Certificates/Slice0/Obligations.lean ====
section
/-! DEFINITION. The statements about the CH-318 model. Each is a property of every state it names, in the rules of
spec/; `answered` is the state right after a request has been heard and answered, before its own effect. -/

open Sys2Proof Sys2Proof.Machine

/-! ## The machine -/

/-- O1. A step takes the command at the front of the queue and executes it with the queue's rest. -/
def Obligations.FrontCommandRuns : Prop :=
  ∀ (c : Instr) (rest : List Instr) (s : State),
    step { s with pending := c :: rest } = exec c { s with pending := rest }

/-- O2. With no command waiting one millisecond passes (log entry 1, the model's choice): each running timer loses 1 ms
and the expiry of each that then stands at 0 joins the queue once, in the order of log entry 1; nothing else joins it and
nothing else changes. -/
def Obligations.IdleMillisecond : Prop :=
  ∀ s : State, s.pending = [] → ∃ t, step s = .next t ∧
    t = { s with dr := { s.dr with snapshotLeft := s.dr.snapshotLeft - 1 }, psv := t.psv, pi := t.pi, pending := t.pending
                 rc := { s.rc with primingTimer := s.rc.primingTimer.map (· - 1)
                                   lowFor := if s.rc.armed = true ∧ s.rc.ready = false then s.rc.lowFor + 1
                                             else s.rc.lowFor }
                 eu := { s.eu with mark := s.eu.mark.map (· - 1) } } ∧
    (∀ q, t.psv.get q = { s.psv.get q with moveTimer := (s.psv.get q).moveTimer.map (· - 1) }) ∧
    (∀ p, t.port p = { s.port p with silence := (s.port p).silence.map (· - 1)
                                     hold := (s.port p).hold.map (· - 1) }) ∧
    t.pi.hub = s.pi.hub ∧ t.pi.startUpLeft = s.pi.startUpLeft - 1 ∧
    t.pending = expired t ∧ t.pending.Nodup ∧
    (∀ c ∈ t.pending, c ∈ [Instr.startUpTimerExpiry, .widthTimerExpiry, .primingTimerExpiry, .snapshotIntervalExpiry] ∨
      (∃ p, c = .holdTimerExpiry p ∨ c = .silenceTimerExpiry p) ∨ ∃ q, c = .moveTimerExpiry q) ∧
    (∀ p, .silenceTimerExpiry p ∈ t.pending ↔ (t.port p).silence = some 0) ∧
    (∀ p, .holdTimerExpiry p ∈ t.pending ↔ (t.port p).hold = some 0) ∧
    (∀ q, .moveTimerExpiry q ∈ t.pending ↔ (t.psv.get q).moveTimer = some 0) ∧
    (.primingTimerExpiry ∈ t.pending ↔ t.rc.primingTimer = some 0) ∧
    (.snapshotIntervalExpiry ∈ t.pending ↔ t.dr.snapshotLeft = 0) ∧
    (.widthTimerExpiry ∈ t.pending ↔ t.eu.mark = some 0) ∧
    (.startUpTimerExpiry ∈ t.pending ↔ t.pi.hub = .starting ∧ t.pi.startUpLeft = 0)

/-- O3. No command stops the hub: each one, in every state, answers a next state, and none touches the queue of waiting
commands. -/
def Obligations.EveryCommandCompletes : Prop :=
  ∀ (c : Instr) (s : State), ∃ t, exec c s = .next t ∧ t.pending = s.pending

/-! ## Frames and replies -/

/-- O4. Decode and encode agree (R177, R181): the frame of a well-formed request, read on its port, spells that
request. -/
def Obligations.FrameRoundTrip : Prop :=
  ∀ (i : Instr) (k : Kind) (p : Port) (tag : Byte) (d : List Byte),
    i.request = some (k, p, tag, d) → i.wellFormed = true →
      ∃ bytes, frameOf i = some bytes ∧ commandOfFrame p bytes = i

/-- O5. A candidate is read as a frame exactly when it is one (R177): no byte more, no byte fewer, at most 60 payload
bytes, and the check right. -/
def Obligations.FrameReadExactly : Prop :=
  ∀ (candidate : List Byte) (kind tag : Byte) (payload : List Byte),
    readFrame candidate = some (kind, tag, payload) ↔
      candidate = frameBytes kind tag payload ∧ payload.length ≤ 60

/-- O6. Every request of a known kind is answered once on its port (R178, R180, R187, R192): the reply repeats kind and
tag, its check is the proper one or, under test injection, its ones' complement, and the port is ACTIVE with its
silence timer at the timeout it had on arrival. That the reply to a TEST_INJECT is proper under any count is the model's
reading (log entry 19). -/
def Obligations.EveryRequestAnswered : Prop :=
  ∀ (i : Instr) (k : Kind) (p : Port) (tag : Byte) (d : List Byte) (s : State),
    i.request = some (k, p, tag, d) → ∃ t r, exec i s = .next t ∧ (t.port p).lastReply = some r ∧
      r.kind = kindByte k ∧ r.tag = tag ∧
      r.check = (if 0 < (s.port p).injection ∧ k ≠ .testInject
                 then ~~~(replyCheck r.kind r.tag r.status r.payload) else replyCheck r.kind r.tag r.status r.payload) ∧
      (t.port p).link = .active ∧ (t.port p).silence = some (s.port p).timeout

/-- O7. Candidates that are no request. BAD_FRAME (R177): a bad candidate adds one to its port's bad-frame count, which
saturates at 65,535, and changes nothing else: no link, no timer, no reply. UNKNOWN_KIND (R182): a valid frame of no
kind of the hub is heard as any frame is (`hear`, O9) and answered UNKNOWN_KIND, under test injection with the
complemented check and one less on the count (R192); nothing else changes. -/
def Obligations.FramesNotTaken : Prop :=
  (∀ (p : Port) (candidate : List Byte) (s : State), readFrame candidate = none →
    exec (.badFrame p candidate) s
      = .next (s.setPort p { s.port p with badFrames := min 65535 ((s.port p).badFrames + 1) })) ∧
  (∀ (p : Port) (kind tag : Byte) (s h : State) (c : BitVec 16), Kind.ofCode kind = none → h = hear p s →
    c = replyCheck kind tag .unknownKind [] →
    exec (.unknownKind p kind tag) s = .next (sendReply p kind tag .unknownKind [] h) ∧
    exec (.unknownKind p kind tag) s = .next
      (h.setPort p { s.port p with
        link := .active, silence := some (s.port p).timeout, injection := (s.port p).injection - 1
        lastReply := some { kind := kind, tag := tag, status := .unknownKind, payload := []
                            check := if 0 < (s.port p).injection then ~~~c else c } }) ∧
    ((s.port p).link = .active → h.rc = s.rc ∧ h.dr = s.dr))

/-- O8. The arrival checks, in their order (R182): a request of a kind not permitted on its port, of a wrong payload
length, or arriving in STARTING is answered with that refusal and changes nothing but what the frame itself does. -/
def Obligations.ArrivalRefusals : Prop :=
  ∀ (i : Instr) (k : Kind) (p : Port) (tag : Byte) (d : List Byte) (s : State),
    i.request = some (k, p, tag, d) →
      (permitted k p = false → exec i s = .next (answered k p tag .notPermitted [] s)) ∧
      (permitted k p = true → d.length ≠ payloadLength k → exec i s = .next (answered k p tag .badLength [] s)) ∧
      (permitted k p = true → d.length = payloadLength k → s.pi.hub = .starting → k ≠ .queryStatus →
        exec i s = .next (answered k p tag .starting [] s))

/-- O9. What a valid frame does before anything else (R187): its port is ACTIVE with the silence timer loaded; a port
that was not ACTIVE hands the change on: the cabin's to RC, which recomputes the feed limit (R171), the plant's to DR,
which resumes the cross-check when a density has been handed (R29), the hoist's to nobody. -/
def Obligations.LinkChangeHandedOn : Prop :=
  ∀ (p : Port) (s : State),
    (hear p s).port p = { s.port p with link := .active, silence := some (s.port p).timeout } ∧
    (∀ p', p' ≠ p → (hear p s).port p' = s.port p') ∧
    hear p s = { s with
      pi := { s.pi with ports := (hear p s).pi.ports }
      rc := { s.rc with feedLimit := if p = .cabin ∧ (s.port p).link ≠ .active then feedNow (hear p s)
                                     else s.rc.feedLimit }
      dr := { s.dr with crossCheck := if p = .plant ∧ (s.port p).link ≠ .active ∧ s.rc.densityReported = true
                                      then .comparing else s.dr.crossCheck } }

/-! ## Arithmetic and reset -/

/-- O10. "Round" is the nearest integer, halves away from zero (00_scope.md, Arithmetic). -/
def Obligations.RoundIsNearest : Prop :=
  ∀ (n : Int) (d : Nat), 0 < d →
    2 * (roundDiv n d * d - n).natAbs ≤ d ∧
    (2 * (roundDiv n d * d - n).natAbs = d → n.natAbs ≤ (roundDiv n d * d).natAbs)

/-- O11. POWER_ON: every field of every block at its default (R2, R8, R12, R17, R34, R45, R70, R71, R86, R100, R102,
R114, R140, R153, R158, R175, R190, R201), the hub STARTING with 5,000 ms on the start-up timer, and no event raised.
PLANT_READY is read as it stands. The commands that wait and the count of free values are the model's own and are kept,
and no reply has been sent (log entry 6). -/
def Obligations.PowerOnDefaults : Prop :=
  ∀ (ready : Bool) (s : State) (p : PortRec) (w : WheelRec) (t : TachResult) (r : Reading) (q : Plate) (e : EuPort),
    p = { link := .down, silence := none, timeout := 0, queue := [], hold := none, rejection := none, refused := 0
          badFrames := 0, windowFirst := 0, windowLast := 1023, cursor := 0, injection := 0, lastReply := none } →
    w = { state := .stopped, target := 0, acc := 0, torqueHold := false, stallTimer := none, zeroGates := 0 } →
    t = { speed := 0, pulses := 0, saturated := false } → r = { value := 0, saturated := false } →
    q = { command := 0, demand := 0, extension := r, move := .settled, moveTimer := none, settleTimer := none } →
    e = { latched := 0, enabled := 0, mode := .activeLowOpen } →
    exec (.powerOn ready) s = .next
      { mfe := { depthScaler := { n := 353, r := 30, od := 1 }, tachScaler := { n := 40, r := 2, od := 1 }
                 flowScaler := { n := 36, r := 2, od := 1 }, sensor := .lost, window := [], newestSaturated := false
                 invalidCount := 0, tach := { a := t, b := t }, qm := r, gearbox := { a := r, b := r }, headPressure := r }
        dr := { state := .unset, depth := 0, aboveDatum := false, range := false, disagree := false
                countReceived := false, lastCount := 0, c0 := 0, datum := 0, toe := 0, history := []
                snapshotLeft := 5000, fMeas := 0, crossCheck := .noDensity, rho := 1050, hp := 0, outRun := 0, inRun := 0
                offset := 0, band := 10000 }
        zt := { entries := [], current := 8, selectionDepth := 0 }
        wg := { wheels := { a := w, b := w }, demand := 0, ramp := 20, fallback := 30, ceiling := 30, sEff := 0, trim := 0
                fallbackFlag := true, zoneCeiling := 250, zoneHold := 3400, zoneStall := 3800 }
        sru := { settings := { bursts := 3, reverseSpeed := 50, reverseTime := 2000, restTime := 1000, probeSpeed := 50
                               probeTime := 3000 }
                 record := none, lastEnd := .none, lastWheel := .a, lastBurst := 0 }
        slu := { chosenAuto := true, actual := .off
                 settings := { kx := 40, ky := 100, kt := 200, deadband := 20, twistDeadband := 10, lr10 := 100
                               trimLimit := 30, startDepth := 20000 }
                 last := { dx := 0, dy := 0, sx := 0, sy := 0, ex := 0, ey := 0, psi := 0, trim := 0, uy := 0, ut := 0
                           plates := { n1 := 0, n2 := 0, s1 := 0, s2 := 0 } }
                 offeredTrim := 0, uy := 0, ut := 0, commands := { n1 := 0, n2 := 0, s1 := 0, s2 := 0 }, manualTrim := 0
                 manualPlates := { n1 := 0, n2 := 0, s1 := 0, s2 := 0 } }
        psv := { n1 := q, n2 := q, s1 := q, s2 := q }
        su := { state := .idle, claimant := none, l0 := 5000, l1 := 10000, startDepth := 0, tolerance := 30, records := []
                nextTop := 0, segment := none, rx := 0, ry := 0, liveX := 0, liveY := 0, checkFront := 0, target := none
                checkCount := 0, checkSumX := 0, checkSumY := 0
                verdicts := { agree := 0, xOnly := 0, yOnly := 0, both := 0, noData := 0 }, checkFromFull := false }
        rc := { state := .off, qc := 0, qp := 0, rhoS := 1050, rhoR := 1050, densityReported := false
                transport := { cutLength := 320, thickness := 120, hose := 150, velocity := 30, c100 := 20, rhoCut := 2650
                               primingTime := 30000 }
                qSettle := 1909, qConc := 0, qFloor := 1909, qEff := 0, pump := 0, short := false, primingTimer := none
                starvation := 0, ready := ready, armed := false, lowFor := 0, feedCeiling := 60, feedLimit := 0 }
        pi := { ports := { cabin := { p with timeout := 2000 }, plant := { p with timeout := 10000 }
                           hoist := { p with timeout := 1000 } }
                hub := .starting, startUpLeft := 5000 }
        eu := { ports := { cabin := e, plant := e, hoist := e }, markWidth := 200, mark := none }
        pending := s.pending, free := s.free }

/-- O12. The state right after reset meets every invariant that the statements below show each step to keep. That
reset reads PLANT_READY low is the model's choice (log entry 5). -/
def Obligations.ResetMeetsInvariants : Prop :=
  ModeFollows State.reset ∧ PlatesLegal State.reset ∧ WheelsLegal State.reset ∧ ReferencesLegal State.reset ∧
  RecoveryLegal State.reset ∧ ZonesLegal State.reset ∧ ReturnLegal State.reset ∧ FeedPublished State.reset ∧
  DepthLegal State.reset ∧ HeadsHeld State.reset ∧ SurveyLegal State.reset ∧ MeasurementsLegal State.reset ∧
  PortsLegal State.reset ∧ EventsLegal State.reset

/-! ## Invariants that every step keeps -/

/-- O13. The actual steering mode is at every moment the one that the conditions of R88 give (R89). -/
def Obligations.ModeFollowsKept : Prop := ∀ s t : State, ModeFollows s → step s = .next t → ModeFollows t

/-- O14. Every plate stays within its range, its timers belong to its move, and no plate is commanded out while steering
is OFF (R90, R104, R106, R107). -/
def Obligations.PlatesLegalKept : Prop := ∀ s t : State, PlatesLegal s → step s = .next t → PlatesLegal t

/-- O15. The two wheel states stay a legal pair, a wheel outside the normal law has target 0, and the recovery record
exists exactly while its wheel is RECOVERING (R47, R73). -/
def Obligations.WheelsLegalKept : Prop := ∀ s t : State, WheelsLegal s → step s = .next t → WheelsLegal t

/-- O16. A present reference stays within −100 to 350 and is negative only while its wheel is RECOVERING (R48). -/
def Obligations.ReferencesLegalKept : Prop := ∀ s t : State, ReferencesLegal s → step s = .next t → ReferencesLegal t

/-- O17. The recovery settings and the recovery record stay within their ranges (R71, R73, R80). -/
def Obligations.RecoveryLegalKept : Prop := ∀ s t : State, RecoveryLegal s → step s = .next t → RecoveryLegal t

/-- O18. The zone table stays in order, the current zone is the one that contains the selection depth, and WG and RC work
with its values (R35, R41, R43). -/
def Obligations.ZonesLegalKept : Prop := ∀ s t : State, ZonesLegal s → step s = .next t → ZonesLegal t

/-- O19. The transport floor, Qeff, the pump command and TRANSPORT_SHORT follow from their inputs; the pump is
commanded in PRIMING, PUMPING and STARVED only, with PLANT_READY high (R159 to R169); and the FALLBACK flag is set
exactly while the return is not PUMPING and the fallback speed lies below the zone speed ceiling (R52). -/
def Obligations.ReturnLegalKept : Prop := ∀ s t : State, ReturnLegal s → step s = .next t → ReturnLegal t

/-- O20. The feed limit published is at every moment the one its inputs give: 0 unless both wheels run, the return is
PUMPING, the cabin is ACTIVE and the depth is VALID (R171, R172). -/
def Obligations.FeedPublishedKept : Prop := ∀ s t : State, FeedPublished s → step s = .next t → FeedPublished t

/-- O21. The depth never passes the toe, the toe history does not decrease, F_meas follows from it, and the run counters
of the cross-check stand only where a comparison can be made (R19 to R31). -/
def Obligations.DepthLegalKept : Prop := ∀ s t : State, DepthLegal s → step s = .next t → DepthLegal t

/-- O22. A head whose target is not held has been applied: a queue is empty, or its head is held with the hold timer
running, and only the cabin's queue can stand (R185, R186). -/
def Obligations.HeadsHeldKept : Prop := ∀ s t : State, HeadsHeld s → step s = .next t → HeadsHeld t

/-- O23. The survey table stays a chain of segments without a gap, of at most 1,024 records, and the state, the claimant
and the open segment agree (R116 to R118, R129, R134). -/
def Obligations.SurveyLegalKept : Prop := ∀ s t : State, SurveyLegal s → step s = .next t → SurveyLegal t

/-- O24. The sensor is OK exactly while the window holds 8 sets (R9), every measurement and every count of a port stays
within its range (R7, R8, R13 to R16, R177, R184, R185, R192), a silence timer runs exactly in ACTIVE (R187), and no
event set names a bit from 19 to 31 (R195). -/
def Obligations.CountsLegalKept : Prop :=
  (∀ s t : State, MeasurementsLegal s → step s = .next t → MeasurementsLegal t) ∧
  (∀ s t : State, PortsLegal s → step s = .next t → PortsLegal t) ∧
  (∀ s t : State, EventsLegal s → step s = .next t → EventsLegal t)

/-! ## Computations the manual gives by formula -/

/-- O25. The window mean (R10): over 8 sets it is defined and is the rounded mean of the sets as they stand; over fewer
it is undefined. With the measurements in order it is defined exactly in OK. The manual's three examples. -/
def Obligations.WindowMean : Prop :=
  (∀ (m : Mfe) (f : SampleSet → Int),
    (m.window.length = 8 → meansDefined m = true ∧ windowMean m f = roundDiv (m.window.map f).sum m.window.length) ∧
    (m.window.length < 8 → meansDefined m = false)) ∧
  (∀ s : State, MeasurementsLegal s → (meansDefined s.mfe = true ↔ s.mfe.sensor = .ok)) ∧
  roundDiv (-3) 8 = 0 ∧ roundDiv (-4) 8 = -1 ∧ roundDiv 12 8 = 2

/-- O26. The measured feed rate (R28), and SNAPSHOT_INTERVAL_EXPIRY (R27), at which it is recomputed: in VALID the toe
joins the history, the oldest leaving a history of 12, and a changed F_meas is handed to RC, which recomputes the floor,
Qeff, the pump command and TRANSPORT_SHORT (R159 to R161) and nothing else; in UNSET and STALE only the interval
restarts. Emptying the history sets it to 0, with the same effect on RC. -/
def Obligations.FeedRate : Prop :=
  (∀ (h : List Nat) (oldest newest : Nat), 2 ≤ h.length → h.head? = some oldest → h.getLast? = some newest →
    measuredFeed h = (newest - oldest) * 12 / (10 * (h.length - 1))) ∧
  (∀ h : List Nat, h.length < 2 → measuredFeed h = 0) ∧
  (∀ (s : State) (oldest newest : Nat), DepthLegal s → s.dr.history.head? = some oldest →
    s.dr.history.getLast? = some newest → oldest ≤ newest) ∧
  (∀ s : State, s.dr.state ≠ .valid →
    exec .snapshotIntervalExpiry s = .next { s with dr := { s.dr with snapshotLeft := 5000 } }) ∧
  (∀ s : State, s.dr.state = .valid → ∃ t h, exec .snapshotIntervalExpiry s = .next t ∧
    h = (if s.dr.history.length < 12 then s.dr.history else s.dr.history.drop (s.dr.history.length - 11)) ++ [s.dr.toe] ∧
    t = { s with dr := { s.dr with snapshotLeft := 5000, history := h, fMeas := measuredFeed h }
                 rc := if measuredFeed h = s.dr.fMeas then s.rc else flooredRc (measuredFeed h) s.rc
                 eu := if measuredFeed h = s.dr.fMeas then s.eu else shortRaised s.rc t.rc s.eu }) ∧
  (∀ s : State, emptyHistory s =
    { s with dr := { s.dr with history := [], snapshotLeft := 5000, fMeas := 0 }
             rc := if s.dr.fMeas = 0 then s.rc else flooredRc 0 s.rc
             eu := if s.dr.fMeas = 0 then s.eu else shortRaised s.rc (flooredRc 0 s.rc) s.eu }) ∧
  (∀ (f : Nat) (r u : Rc), u = flooredRc f r →
    u = { r with qSettle := u.qSettle, qConc := u.qConc, qFloor := u.qFloor, qEff := u.qEff, pump := u.pump
                 short := u.short } ∧
    u.qSettle = (r.transport.velocity * hoseArea r.transport * 36 + 9999) / 10000 ∧
    u.qConc = (6 * f * r.transport.cutLength * r.transport.thickness + (1000 * r.transport.c100 - 1)) /
      (1000 * r.transport.c100) ∧
    u.qFloor = max u.qSettle u.qConc ∧ u.qEff = (if r.qc = 0 then 0 else min (max r.qc u.qFloor) r.qp) ∧
    u.pump = (if r.state = .priming ∨ r.state = .pumping ∨ r.state = .starved then u.qEff else 0) ∧
    (u.short = true ↔ 0 < r.qc ∧ r.qp < u.qFloor))

/-- O27. The zone that contains a depth (R40), for the current zone and for a lookup alike. -/
def Obligations.ZoneSelection : Prop :=
  (∀ x : Nat, zoneIndexAt [] x = 8 ∧ zoneOf [] 8 = defaultZone) ∧
  (∀ (es : List ZoneEntry) (x k : Nat) (z : ZoneEntry), es[k]? = some z → x < z.upper →
    (∀ (j : Nat) (y : ZoneEntry), j < k → es[j]? = some y → y.upper ≤ x) →
      zoneIndexAt es x = k ∧ zoneOf es (zoneIndexAt es x) = z) ∧
  (∀ (es : List ZoneEntry) (x : Nat), es ≠ [] → (∀ z ∈ es, z.upper ≤ x) → zoneIndexAt es x = es.length - 1) ∧
  (∀ (x : Nat) (s : State), (selectZone x s).zt.current = zoneIndexAt s.zt.entries x) ∧
  (∀ (x : Nat) (s : State), zoneAt s x = zoneOf s.zt.entries (zoneIndexAt s.zt.entries x))

/-- O28. The steering law: the target slopes (R94), the errors after the deadbands (R95), the trim, the two plate demands
and the four plate commands (R96), with lines of the manual's tables. -/
def Obligations.SteeringLaw : Prop :=
  (∀ (k : SteerSettings) (sEff : Nat) (dx dy mx my mpsi : Int),
    let r := steerCompute k sEff dx dy mx my mpsi
    let lim : Int := (min k.trimLimit (sEff / 4) : Nat)
    r.sx = roundDiv (-dx * 100) k.lr10 ∧ r.sy = roundDiv (-dy * 100) k.lr10 ∧
    r.ex = (if (r.sx - mx).natAbs ≤ k.deadband then 0 else r.sx - mx) ∧
    r.ey = (if (r.sy - my).natAbs ≤ k.deadband then 0 else r.sy - my) ∧
    r.psi = (if mpsi.natAbs ≤ k.twistDeadband then 0 else mpsi) ∧
    r.trim = max (-lim) (min (roundDiv (k.kx * r.ex) 1000) lim) ∧
    r.uy = max (-100) (min (roundDiv (k.ky * r.ey) 1000) 100) ∧
    r.ut = max (-100) (min (roundDiv (-(k.kt * r.psi)) 1000) 100) ∧
    (r.plates.n1 : Int) = min 100 (max 0 (-r.uy) + max 0 r.ut) ∧
    (r.plates.n2 : Int) = min 100 (max 0 (-r.uy) + max 0 (-r.ut)) ∧
    (r.plates.s1 : Int) = min 100 (max 0 r.uy + max 0 (-r.ut)) ∧
    (r.plates.s2 : Int) = min 100 (max 0 r.uy + max 0 r.ut)) ∧
  roundDiv (-420 * 100) 100 = -420 ∧ roundDiv (37 * 100) 60 = 62 ∧ roundDiv (-3 * 100) 200 = -2 ∧
  roundDiv (-420 * 100) 20 = -2100

/-! ## Posted requests: what the owning block does when the queue is clear -/

/-- O29. SET_SCALER (R4): taken by a STOPPED instance, whose N, R and OD are replaced together; refused OUT_OF_RANGE for
a name, value or ratio out of range and LOCKED for an instance that runs (R3). -/
def Obligations.ScalerSet : Prop :=
  ∀ (tag : Byte) (d : List Byte) (s a : State) (i n r od : Nat), QueueClear .cabin s → d.length = 13 →
    a = answered .setScaler .cabin tag .taken [] s →
    i = (byteAt d 0).toNat → n = natAt d 1 → r = natAt d 5 → od = natAt d 9 →
    (2 < i ∨ n < 2 ∨ 511 < n ∨ r < 2 ∨ 31 < r ∨ (od ≠ 1 ∧ od ≠ 2 ∧ od ≠ 4) →
      exec (.setScaler .cabin tag d) s = .next (refusedAt .setScaler .cabin tag .outOfRange a)) ∧
    (i ≤ 2 → 2 ≤ n → n ≤ 511 → 2 ≤ r → r ≤ 31 → od = 1 ∨ od = 2 ∨ od = 4 →
      (i = 0 → 5 * (r * od) ≤ 2 * n → n ≤ 40 * (r * od) →
        exec (.setScaler .cabin tag d) s = .next (if s.dr.state = .unset
          then { a with mfe := { s.mfe with depthScaler := { n := n, r := r, od := od } } }
          else refusedAt .setScaler .cabin tag .locked a)) ∧
      (i = 1 → r * od ≤ n → n ≤ 60 * (r * od) →
        exec (.setScaler .cabin tag d) s = .next
          (if (s.wg.wheels.a.state = .stopped ∨ s.wg.wheels.a.state = .halted) ∧
              (s.wg.wheels.b.state = .stopped ∨ s.wg.wheels.b.state = .halted)
           then { a with mfe := { s.mfe with tachScaler := { n := n, r := r, od := od } } }
           else refusedAt .setScaler .cabin tag .locked a)) ∧
      (i = 2 → r * od ≤ n → n ≤ 100 * (r * od) →
        exec (.setScaler .cabin tag d) s = .next (if s.rc.state = .off
          then { a with mfe := { s.mfe with flowScaler := { n := n, r := r, od := od } } }
          else refusedAt .setScaler .cabin tag .locked a)) ∧
      ((i = 0 ∧ (2 * n < 5 * (r * od) ∨ 40 * (r * od) < n)) ∨ (i = 1 ∧ (n < r * od ∨ 60 * (r * od) < n)) ∨
        (i = 2 ∧ (n < r * od ∨ 100 * (r * od) < n)) →
        exec (.setScaler .cabin tag d) s = .next (refusedAt .setScaler .cabin tag .outOfRange a)))

/-- O30. The configuration requests SET_DEPTH_CHECK (R32), SET_FALLBACK_SPEED (R51), SET_RECOVERY with no recovery in
progress (R72), SET_PORT_TIMEOUT (R188) and SET_MARK_WIDTH (R199): every value in its range is taken and replaces the
setting and nothing else, but that a new fallback speed sets or clears FALLBACK (R52); any value out of range refuses
the whole request OUT_OF_RANGE. -/
def Obligations.ConfigurationSet : Prop :=
  ∀ (tag : Byte) (d : List Byte) (s : State), QueueClear .cabin s →
    (d.length = 8 → ∀ a, a = answered .setDepthCheck .cabin tag .taken [] s →
      exec (.setDepthCheck .cabin tag d) s = .next
        (if natAt d 0 ≤ 50000 ∧ 1000 ≤ natAt d 4 ∧ natAt d 4 ≤ 50000
         then { a with dr := { a.dr with offset := natAt d 0, band := natAt d 4 } }
         else refusedAt .setDepthCheck .cabin tag .outOfRange a)) ∧
    (d.length = 4 → ∀ a, a = answered .setFallbackSpeed .cabin tag .taken [] s →
      exec (.setFallbackSpeed .cabin tag d) s = .next
        (if natAt d 0 ≤ 150 then { a with wg := { a.wg with
           fallback := natAt d 0
           fallbackFlag := decide (s.rc.state ≠ .pumping) && decide (natAt d 0 < s.wg.zoneCeiling) } }
         else refusedAt .setFallbackSpeed .cabin tag .outOfRange a)) ∧
    (d.length = 24 → s.sru.record = none → ∀ a, a = answered .setRecovery .cabin tag .taken [] s →
      exec (.setRecovery .cabin tag d) s = .next
        (if (1 ≤ natAt d 0 ∧ natAt d 0 ≤ 8) ∧ (20 ≤ natAt d 4 ∧ natAt d 4 ≤ 100) ∧
            (500 ≤ natAt d 8 ∧ natAt d 8 ≤ 5000) ∧ (500 ≤ natAt d 12 ∧ natAt d 12 ≤ 5000) ∧
            (20 ≤ natAt d 16 ∧ natAt d 16 ≤ 150) ∧ (1000 ≤ natAt d 20 ∧ natAt d 20 ≤ 10000)
         then { a with sru := { a.sru with settings :=
                  { bursts := natAt d 0, reverseSpeed := natAt d 4, reverseTime := natAt d 8, restTime := natAt d 12
                    probeSpeed := natAt d 16, probeTime := natAt d 20 } } }
         else refusedAt .setRecovery .cabin tag .outOfRange a)) ∧
    (d.length = 5 → ∀ a, a = answered .setPortTimeout .cabin tag .taken [] s →
      (∀ p, portNamed (byteAt d 0).toNat = some p →
        exec (.setPortTimeout .cabin tag d) s = .next
          (if (p = .cabin ∧ 500 ≤ natAt d 1 ∧ natAt d 1 ≤ 10000) ∨ (p = .plant ∧ 1000 ≤ natAt d 1 ∧ natAt d 1 ≤ 60000) ∨
              (p = .hoist ∧ 200 ≤ natAt d 1 ∧ natAt d 1 ≤ 5000)
           then a.setPort p { a.port p with timeout := natAt d 1 }
           else refusedAt .setPortTimeout .cabin tag .outOfRange a)) ∧
      (2 < (byteAt d 0).toNat →
        exec (.setPortTimeout .cabin tag d) s = .next (refusedAt .setPortTimeout .cabin tag .outOfRange a))) ∧
    (d.length = 4 → ∀ a, a = answered .setMarkWidth .cabin tag .taken [] s →
      exec (.setMarkWidth .cabin tag d) s = .next
        (if 10 ≤ natAt d 0 ∧ natAt d 0 ≤ 2000 then { a with eu := { a.eu with markWidth := natAt d 0 } }
         else refusedAt .setMarkWidth .cabin tag .outOfRange a))

/-- O31. SET_WHEEL_DEMAND (R49) and SET_RAMP (R50) with no recovery in progress: the setpoint as clamped is taken, the
reply says whether it was clamped, and the wheels are moved at the next update only. -/
def Obligations.WheelSettings : Prop :=
  ∀ (tag : Byte) (d : List Byte) (s : State), QueueClear .cabin s → s.sru.record = none →
    (d.length = 2 → ∃ t, exec (.setWheelDemand .cabin tag d) s = .next t ∧
      (∀ v : Int, v = int16At d 0 →
        (v < 0 → t.wg.demand = 0) ∧ (350 < v → t.wg.demand = 350) ∧ (0 ≤ v → v ≤ 350 → (t.wg.demand : Int) = v) ∧
        t = { (answered .setWheelDemand .cabin tag (if 0 ≤ v ∧ v ≤ 350 then .taken else .takenClamped) [] s) with
              wg := { s.wg with demand := t.wg.demand } })) ∧
    (d.length = 4 → ∃ t, exec (.setRamp .cabin tag d) s = .next t ∧
      (∀ v : Nat, v = natAt d 0 →
        (v < 5 → t.wg.ramp = 5) ∧ (100 < v → t.wg.ramp = 100) ∧ (5 ≤ v → v ≤ 100 → t.wg.ramp = v) ∧
        t = { (answered .setRamp .cabin tag (if 5 ≤ v ∧ v ≤ 100 then .taken else .takenClamped) [] s) with
              wg := { s.wg with ramp := t.wg.ramp } }))

/-- O32. The held heads (R186): while a recovery exists SET_WHEEL_DEMAND, SET_RAMP and SET_RECOVERY, and while the named
plate moves SET_PLATE, are answered, stand as head as clamped with the hold timer at
10,000 ms, and change nothing else. -/
def Obligations.HeldHeads : Prop :=
  ∀ (tag : Byte) (d : List Byte) (s : State), QueueClear .cabin s →
    (s.sru.record.isSome = true → d.length = 2 → ∀ (x : Int) (v : Nat) (a : State), x = int16At d 0 →
      (v : Int) = max 0 (min x 350) →
      a = answered .setWheelDemand .cabin tag (if 0 ≤ x ∧ x ≤ 350 then .taken else .takenClamped) [] s →
      exec (.setWheelDemand .cabin tag d) s = .next
        (a.setPort .cabin { a.port .cabin with
          queue := [{ request := .setWheelDemand v, tag := tag }], hold := some 10000 })) ∧
    (s.sru.record.isSome = true → d.length = 4 → ∀ (x v : Nat) (a : State), x = natAt d 0 → v = max 5 (min x 100) →
      a = answered .setRamp .cabin tag (if 5 ≤ x ∧ x ≤ 100 then .taken else .takenClamped) [] s →
      exec (.setRamp .cabin tag d) s = .next
        (a.setPort .cabin { a.port .cabin with
          queue := [{ request := .setRamp v, tag := tag }], hold := some 10000 })) ∧
    (s.sru.record.isSome = true → d.length = 24 → ∀ k a, a = answered .setRecovery .cabin tag .taken [] s →
      k = { bursts := natAt d 0, reverseSpeed := natAt d 4, reverseTime := natAt d 8, restTime := natAt d 12
            probeSpeed := natAt d 16, probeTime := natAt d 20 } →
      exec (.setRecovery .cabin tag d) s = .next
        (a.setPort .cabin { a.port .cabin with
          queue := [{ request := .setRecovery k, tag := tag }], hold := some 10000 })) ∧
    (∀ (q : PlateId) (x : Nat) (a : State), plateNamed (byteAt d 0).toNat = some q → (s.psv.get q).move = .moving →
      d.length = 5 → x = natAt d 1 →
      a = answered .setPlate .cabin tag (if x ≤ 100 then .taken else .takenClamped) [] s →
      exec (.setPlate .cabin tag d) s = .next
        (a.setPort .cabin { a.port .cabin with
          queue := [{ request := .setPlate (byteAt d 0).toNat (min x 100), tag := tag }], hold := some 10000 }))

/-- O33. SET_STEER_MODE (R87), SET_TRIM_MANUAL (R98) and SET_STEER_GAINS (R100): the chosen mode replaced and the
actual mode re-evaluated (R89); the manual trim clamped to the limit as it stands and offered at once in MANUAL; the
eight gains replaced together or all refused, the mode re-evaluated when the start depth changes. That u_y and u_t
stand unchanged on entering MANUAL is the model's choice (log entry 18). -/
def Obligations.SteeringSettings : Prop :=
  ∀ (tag : Byte) (d : List Byte) (s : State), QueueClear .cabin s →
    (d.length = 1 → ∀ a, a = answered .setSteerMode .cabin tag .taken [] s →
      ((byteAt d 0).toNat = 1 →
        exec (.setSteerMode .cabin tag d) s = .next (steered { a with slu := { a.slu with chosenAuto := true } })) ∧
      ((byteAt d 0).toNat = 2 →
        exec (.setSteerMode .cabin tag d) s = .next (steered { a with slu := { a.slu with chosenAuto := false } })) ∧
      ((byteAt d 0).toNat ≠ 1 → (byteAt d 0).toNat ≠ 2 →
        exec (.setSteerMode .cabin tag d) s = .next (refusedAt .setSteerMode .cabin tag .outOfRange a))) ∧
    (d.length = 4 → ∀ v lim : Int, lim = (min s.slu.settings.trimLimit (s.wg.sEff / 4) : Nat) →
      v = max (-lim) (min (intAt d 0) lim) → ∀ a,
      a = answered .setTrimManual .cabin tag (if v = intAt d 0 then .taken else .takenClamped) [] s →
      exec (.setTrimManual .cabin tag d) s = .next
        { a with slu := { s.slu with manualTrim := v
                                     offeredTrim := if s.slu.actual = .manual then v else s.slu.offeredTrim } }) ∧
    (d.length = 32 → ∀ a, a = answered .setSteerGains .cabin tag .taken [] s →
      ((natAt d 0 ≤ 200 ∧ natAt d 4 ≤ 500 ∧ natAt d 8 ≤ 500 ∧ natAt d 12 ≤ 100 ∧ natAt d 16 ≤ 100 ∧
        20 ≤ natAt d 20 ∧ natAt d 20 ≤ 200 ∧ natAt d 24 ≤ 60 ∧ natAt d 28 ≤ 200000) → ∀ u : State,
        u = { a with slu := { a.slu with settings :=
                { kx := natAt d 0, ky := natAt d 4, kt := natAt d 8, deadband := natAt d 12
                  twistDeadband := natAt d 16, lr10 := natAt d 20, trimLimit := natAt d 24
                  startDepth := natAt d 28 } } } →
        exec (.setSteerGains .cabin tag d) s = .next
          (if natAt d 28 = s.slu.settings.startDepth then u else steered u)) ∧
      (¬ (natAt d 0 ≤ 200 ∧ natAt d 4 ≤ 500 ∧ natAt d 8 ≤ 500 ∧ natAt d 12 ≤ 100 ∧ natAt d 16 ≤ 100 ∧
        20 ≤ natAt d 20 ∧ natAt d 20 ≤ 200 ∧ natAt d 24 ≤ 60 ∧ natAt d 28 ≤ 200000) →
        exec (.setSteerGains .cabin tag d) s = .next (refusedAt .setSteerGains .cabin tag .outOfRange a)))

/-- O34. SET_PLATE of a plate that does not move (R99, R109) and CLEAR_PLATE (R111): the manual extension replaced while
MANUAL is chosen, and handed in actual MANUAL when it is a new command; a STUCK plate made SETTLED where it stands and
given the command SLU applies at that moment, which begins a move when it lies outside the band of 2. -/
def Obligations.PlateCommands : Prop :=
  ∀ (tag : Byte) (d : List Byte) (s : State), QueueClear .cabin s →
    (d.length = 5 → ∀ v a, v = min (natAt d 1) 100 →
      a = answered .setPlate .cabin tag (if natAt d 1 ≤ 100 then .taken else .takenClamped) [] s →
      (plateNamed (byteAt d 0).toNat = none →
        exec (.setPlate .cabin tag d) s = .next (refusedAt .setPlate .cabin tag .outOfRange a)) ∧
      (∀ q, plateNamed (byteAt d 0).toNat = some q → (s.psv.get q).move ≠ .moving →
        (s.slu.chosenAuto = true →
          exec (.setPlate .cabin tag d) s = .next (refusedAt .setPlate .cabin tag .wrongState a)) ∧
        (s.slu.chosenAuto = false →
          (s.slu.actual ≠ .manual ∨ s.slu.commands.get q = v →
            exec (.setPlate .cabin tag d) s = .next
              { a with slu := { s.slu with manualPlates := s.slu.manualPlates.set q v } }) ∧
          (s.slu.actual = .manual → s.slu.commands.get q ≠ v →
            exec (.setPlate .cabin tag d) s = .next
              { a with slu := { s.slu with manualPlates := s.slu.manualPlates.set q v
                                           commands := s.slu.commands.set q v }
                       psv := s.psv.set q (takeCommand v (s.psv.get q)) })))) ∧
    (d.length = 1 → ∀ a, a = answered .clearPlate .cabin tag .taken [] s →
      (3 < (byteAt d 0).toNat →
        exec (.clearPlate .cabin tag d) s = .next (refusedAt .clearPlate .cabin tag .outOfRange a)) ∧
      (∀ q, plateNamed (byteAt d 0).toNat = some q →
        ((s.psv.get q).move ≠ .stuck →
          exec (.clearPlate .cabin tag d) s = .next (refusedAt .clearPlate .cabin tag .wrongState a)) ∧
        ((s.psv.get q).move = .stuck → ∀ c e v, c = s.slu.commands.get q → e = (s.psv.get q).extension.value →
          v = { s.psv.get q with command := c, demand := c, settleTimer := none
                                 move := if e + 2 < c ∨ c + 2 < e then .moving else .settled
                                 moveTimer := if e + 2 < c ∨ c + 2 < e then some 8000 else none } →
          exec (.clearPlate .cabin tag d) s = .next { a with psv := s.psv.set q v })))

/-- O35. SET_PUMP_DEMAND (R155, R160 to R163): the demand as clamped replaces Qc, and Qeff, the pump command and
TRANSPORT_SHORT are judged anew; a demand above 0 in OFF tests the plant, a demand of 0 turns the return OFF from every
state, and a change of state is handed on (R52, R171); the demand already held changes nothing. -/
def Obligations.PumpDemandTaken : Prop :=
  ∀ (tag : Byte) (d : List Byte) (s a : State) (qc : Nat), QueueClear .cabin s → d.length = 4 →
    qc = min (natAt d 0) 7000 →
    a = answered .setPumpDemand .cabin tag (if natAt d 0 ≤ 7000 then .taken else .takenClamped) [] s →
    (qc = s.rc.qc → exec (.setPumpDemand .cabin tag d) s = .next a) ∧
    (qc ≠ s.rc.qc → ∃ t, exec (.setPumpDemand .cabin tag d) s = .next t ∧
      t = { a with
        rc := { s.rc with
          qc := qc, qEff := if qc = 0 then 0 else min (max qc s.rc.qFloor) s.rc.qp
          short := decide (0 < qc) && decide (s.rc.qp < s.rc.qFloor)
          state := if qc = 0 then .off else if s.rc.state ≠ .off then s.rc.state
                   else if s.rc.ready = true ∧ 0 < s.rc.qp then .priming else .waitingPlant
          pump := if t.rc.state = .priming ∨ t.rc.state = .pumping ∨ t.rc.state = .starved then t.rc.qEff else 0
          primingTimer := if s.rc.state = .off ∧ t.rc.state = .priming then some s.rc.transport.primingTime
                          else if s.rc.state ≠ .off ∧ qc = 0 then none else s.rc.primingTimer
          starvation := if (s.rc.state = .off ∧ t.rc.state = .priming) ∨ (s.rc.state ≠ .off ∧ qc = 0) then 0
                        else s.rc.starvation
          armed := if s.rc.state ≠ .off ∧ qc = 0 then false else s.rc.armed
          feedLimit := if t.rc.state = s.rc.state then a.rc.feedLimit else feedNow t }
        wg := { s.wg with fallbackFlag := if t.rc.state = s.rc.state then s.wg.fallbackFlag else fallbackNow t }
        eu := if t.rc.short && !s.rc.short then latchAll .transportShort s.eu else s.eu })

/-- O36. SET_TRANSPORT (R158, R159): the seven settings replaced together or all refused; the floor, Qeff, the pump
command, TRANSPORT_SHORT and the feed limit follow at once. The floor of the defaults is the manual's 190.9 m³/h. -/
def Obligations.TransportTaken : Prop :=
  (∀ (tag : Byte) (d : List Byte) (s a : State) (k : Transport), QueueClear .cabin s → d.length = 28 →
    a = answered .setTransport .cabin tag .taken [] s →
    k = { cutLength := natAt d 0, thickness := natAt d 4, hose := natAt d 8, velocity := natAt d 12
          c100 := natAt d 16, rhoCut := natAt d 20, primingTime := natAt d 24 } →
    ((220 ≤ k.cutLength ∧ k.cutLength ≤ 400 ∧ 60 ≤ k.thickness ∧ k.thickness ≤ 200 ∧ 100 ≤ k.hose ∧ k.hose ≤ 250 ∧
      15 ≤ k.velocity ∧ k.velocity ≤ 50 ∧ 10 ≤ k.c100 ∧ k.c100 ≤ 35 ∧ 2000 ≤ k.rhoCut ∧ k.rhoCut ≤ 2800 ∧
      5000 ≤ k.primingTime ∧ k.primingTime ≤ 120000) →
      ∃ t, exec (.setTransport .cabin tag d) s = .next t ∧
        t = { a with
          rc := { s.rc with transport := k, qSettle := t.rc.qSettle, qConc := t.rc.qConc, qFloor := t.rc.qFloor
                            qEff := t.rc.qEff, pump := t.rc.pump, short := t.rc.short, feedLimit := feedNow t }
          eu := if t.rc.short && !s.rc.short then latchAll .transportShort s.eu else s.eu } ∧
        t.rc.qSettle = (k.velocity * hoseArea k * 36 + 9999) / 10000 ∧
        t.rc.qConc = (6 * s.dr.fMeas * k.cutLength * k.thickness + (1000 * k.c100 - 1)) / (1000 * k.c100) ∧
        t.rc.qFloor = max t.rc.qSettle t.rc.qConc ∧
        t.rc.qEff = (if s.rc.qc = 0 then 0 else min (max s.rc.qc t.rc.qFloor) s.rc.qp) ∧
        t.rc.pump = (if s.rc.state = .priming ∨ s.rc.state = .pumping ∨ s.rc.state = .starved then t.rc.qEff else 0) ∧
        t.rc.short = (decide (0 < s.rc.qc) && decide (s.rc.qp < t.rc.qFloor))) ∧
    (¬ (220 ≤ k.cutLength ∧ k.cutLength ≤ 400 ∧ 60 ≤ k.thickness ∧ k.thickness ≤ 200 ∧ 100 ≤ k.hose ∧ k.hose ≤ 250 ∧
      15 ≤ k.velocity ∧ k.velocity ≤ 50 ∧ 10 ≤ k.c100 ∧ k.c100 ≤ 35 ∧ 2000 ≤ k.rhoCut ∧ k.rhoCut ≤ 2800 ∧
      5000 ≤ k.primingTime ∧ k.primingTime ≤ 120000) →
      exec (.setTransport .cabin tag d) s = .next (refusedAt .setTransport .cabin tag .outOfRange a))) ∧
  settlingFlow (Rc.reset false).transport = 1909

/-- O37. ACK_EVENTS (R196), SET_EVENT_ENABLES (R197) and SET_ALERT_LINE (R198) act on the requesting port's own sets and
line, and on no other port's. A port's alert line is asserted exactly when some kind is both latched and enabled there,
and its level in each mode is the one of R198. -/
def Obligations.EventSets : Prop :=
  (∀ (p : Port) (tag : Byte) (d : List Byte) (s : State), QueueClear p s →
    (d.length = 4 → ∀ a, a = answered .ackEvents p tag .taken [] s →
      exec (.ackEvents p tag d) s = .next
        (if natAt d 0 < 2 ^ 19
         then a.setEu p { s.eu.ports.get p with latched := (s.eu.ports.get p).latched &&& ~~~(word32At d 0) }
         else refusedAt .ackEvents p tag .outOfRange a)) ∧
    (d.length = 4 → ∀ a, a = answered .setEventEnables p tag .taken [] s →
      exec (.setEventEnables p tag d) s = .next
        (if natAt d 0 < 2 ^ 19 then a.setEu p { s.eu.ports.get p with enabled := word32At d 0 }
         else refusedAt .setEventEnables p tag .outOfRange a)) ∧
    (d.length = 1 → ∀ a, a = answered .setAlertLine p tag .taken [] s →
      (∀ m, alertModeNamed (byteAt d 0).toNat = some m →
        exec (.setAlertLine p tag d) s = .next
          (if (s.eu.ports.get p).enabled = 0 then a.setEu p { s.eu.ports.get p with mode := m }
           else refusedAt .setAlertLine p tag .wrongState a)) ∧
      (2 < (byteAt d 0).toNat →
        exec (.setAlertLine p tag d) s = .next (refusedAt .setAlertLine p tag .outOfRange a)))) ∧
  (∀ e : EuPort,
    (alertAsserted e = true ↔ ∃ kind, e.latched.getLsbD kind = true ∧ e.enabled.getLsbD kind = true) ∧
    (SetsLegal e → (alertAsserted e = true ↔
      ∃ k : Event, e.latched &&& eventBit k ≠ 0 ∧ e.enabled &&& eventBit k ≠ 0)) ∧
    (e.mode = .activeLowOpen → alertLevel e = if alertAsserted e then .pulledLow else .released) ∧
    (e.mode = .activeHighOpen → alertLevel e = if alertAsserted e then .released else .pulledLow) ∧
    (e.mode = .pushPullHigh → alertLevel e = if alertAsserted e then .drivenHigh else .drivenLow))

/-- O38. LOAD_ZONE (R37) and DROP_ZONE (R38): the entry written or appended, or the table cut at k; the current zone is
selected afresh at the selection depth, ZONE_CHANGE raised when it becomes another slot, and WG and RC work with its
values (R39, R43), the FALLBACK flag and the feed limit following them (R52, R171). Refused OUT_OF_RANGE and ORDER, in
that order, with nothing changed. -/
def Obligations.ZoneTable : Prop :=
  ∀ (tag : Byte) (d : List Byte) (s : State), QueueClear .cabin s → ZonesLegal s → FeedPublished s →
    s.wg.fallbackFlag = fallbackNow s →
    (∀ (a t : State) (es : List ZoneEntry), t = { a with
        zt := { s.zt with entries := es, current := zoneIndexAt es s.zt.selectionDepth }
        wg := { s.wg with zoneCeiling := (zoneOf es t.zt.current).speedCeiling
                          zoneHold := (zoneOf es t.zt.current).holdPressure
                          zoneStall := (zoneOf es t.zt.current).stallPressure
                          fallbackFlag := fallbackNow t }
        rc := { s.rc with feedCeiling := (zoneOf es t.zt.current).feedCeiling, feedLimit := feedNow t }
        eu := if t.zt.current = s.zt.current then s.eu else latchAll .zoneChange s.eu } →
      (∀ k z, d.length = 26 → a = answered .loadZone .cabin tag .taken [] s → k = natAt d 0 →
        zoneFields (natAt d 4) (byteAt d 8).toNat (natAt d 9) (natAt d 13) (natAt d 17) (natAt d 21)
          (byteAt d 25).toNat = some z →
        (∀ j y, s.zt.entries[j]? = some y → (j < k → y.upper < z.upper) ∧ (k < j → z.upper < y.upper)) →
        ((k < s.zt.entries.length ∧ es = s.zt.entries.set k z) ∨
          (k = s.zt.entries.length ∧ k ≤ 7 ∧ es = s.zt.entries ++ [z])) →
        exec (.loadZone .cabin tag d) s = .next t) ∧
      (d.length = 4 → a = answered .dropZone .cabin tag .taken [] s → natAt d 0 ≤ 7 →
        es = s.zt.entries.take (natAt d 0) → exec (.dropZone .cabin tag d) s = .next t)) ∧
    (∀ a, d.length = 4 → a = answered .dropZone .cabin tag .taken [] s → 7 < natAt d 0 →
      exec (.dropZone .cabin tag d) s = .next (refusedAt .dropZone .cabin tag .outOfRange a)) ∧
    (∀ a, d.length = 26 → a = answered .loadZone .cabin tag .taken [] s →
      (zoneFields (natAt d 4) (byteAt d 8).toNat (natAt d 9) (natAt d 13) (natAt d 17) (natAt d 21)
          (byteAt d 25).toNat = none ∨ 7 < natAt d 0 →
        exec (.loadZone .cabin tag d) s = .next (refusedAt .loadZone .cabin tag .outOfRange a)) ∧
      (∀ z, natAt d 0 ≤ 7 →
        zoneFields (natAt d 4) (byteAt d 8).toNat (natAt d 9) (natAt d 13) (natAt d 17) (natAt d 21)
          (byteAt d 25).toNat = some z →
        (s.zt.entries.length < natAt d 0 ∨
          ∃ j y, s.zt.entries[j]? = some y ∧ ((j < natAt d 0 ∧ z.upper ≤ y.upper) ∨ (natAt d 0 < j ∧ y.upper ≤ z.upper))) →
        exec (.loadZone .cabin tag d) s = .next (refusedAt .loadZone .cabin tag .order a)))

/-- O39. CLEAR_JAM (R62, R83): with a wheel JAMMED or in TACH_FAULT, that wheel and its partner in STANDBY return to
the normal law under the normal target last computed, RUNNING when the target or the reference is not 0, and the feed
limit follows; otherwise it is refused WRONG_STATE. (R57 over R65 here: log entry 11.) -/
def Obligations.JamCleared : Prop :=
  ∀ (tag : Byte) (s a : State), QueueClear .cabin s → a = answered .clearJam .cabin tag .taken [] s →
    ((∃ w, (s.wg.wheels.get w).state = .jammed ∨ (s.wg.wheels.get w).state = .tachFault) →
      ∃ t, exec (.clearJam .cabin tag []) s = .next t ∧
        t = { a with wg := { s.wg with wheels := t.wg.wheels }, rc := { a.rc with feedLimit := t.rc.feedLimit } } ∧
        (FeedPublished s → t.rc.feedLimit = feedNow t) ∧
        (∀ w v, v = s.wg.wheels.get w →
          (v.state = .jammed ∨ v.state = .tachFault ∨ v.state = .standby →
            ∀ target, target = normalTarget w s.wg.ceiling s.wg.sEff s.wg.trim →
            t.wg.wheels.get w =
              { state := if target = 0 ∧ v.acc.natAbs < 10 then .stopped else .running, target := target, acc := v.acc
                torqueHold := false, stallTimer := none, zeroGates := 0 }) ∧
          (¬ (v.state = .jammed ∨ v.state = .tachFault ∨ v.state = .standby) → t.wg.wheels.get w = v))) ∧
    ((∀ w, (s.wg.wheels.get w).state ≠ .jammed ∧ (s.wg.wheels.get w).state ≠ .tachFault) →
      exec (.clearJam .cabin tag []) s = .next (refusedAt .clearJam .cabin tag .wrongState a))

/-- O40. The order of a posted queue (R184 to R186). A full queue answers QUEUE_FULL and takes nothing. With room, each of
the 21 posted kinds is answered TAKEN, or TAKEN_CLAMPED when a setpoint lay outside its range, and its values as clamped
join the tail, nothing being applied, or in an empty queue become the head and are judged (`joinedAfter`). Heads are
judged in the order of the queue (`drainList`): one that is not held is applied by its owning block, or refused there and
recorded, and the next becomes the head; the first that is held stands with its hold timer at 10,000 ms.
POSTED_HEAD_APPLY judges the heads so, a held one with its timer running staying as it is; HOLD_TIMER_EXPIRY discards the
held head HELD_TOO_LONG and judges the rest. That POSTED_HEAD_APPLY gives a held head without a timer a fresh one is the
model's choice (log entry 20). -/
def Obligations.QueueOrder : Prop :=
  (∀ (i : Instr) (k : Kind) (p : Port) (tag : Byte) (d : List Byte) (s : State), i.request = some (k, p, tag, d) →
    isPosted k = true → permitted k p = true → d.length = payloadLength k → s.pi.hub = .ready →
    8 ≤ (s.port p).queue.length → exec i s = .next (answered k p tag .queueFull [] s)) ∧
  (∀ (tag : Byte) (d : List Byte) (s : State) (joined : Posted → Bool → Host.Outcome State Fault Refusal),
    s.pi.hub = .ready → (s.port .cabin).queue.length < 8 →
    (∀ r c, joined r c = .next (joinedAfter .cabin tag r c s)) →
    (d.length = 13 → exec (.setScaler .cabin tag d) s =
      joined (.setScaler (byteAt d 0).toNat (natAt d 1) (natAt d 5) (natAt d 9)) false) ∧
    (d.length = 8 → exec (.setDepthCheck .cabin tag d) s = joined (.setDepthCheck (natAt d 0) (natAt d 4)) false) ∧
    (d.length = 26 → exec (.loadZone .cabin tag d) s =
      joined (.loadZone (natAt d 0) (natAt d 4) (byteAt d 8).toNat (natAt d 9) (natAt d 13) (natAt d 17) (natAt d 21)
        (byteAt d 25).toNat) false) ∧
    (d.length = 4 → exec (.dropZone .cabin tag d) s = joined (.dropZone (natAt d 0)) false) ∧
    (∀ x : Int, x = int16At d 0 → d.length = 2 → exec (.setWheelDemand .cabin tag d) s =
      joined (.setWheelDemand (max 0 (min x 350)).toNat) (decide (x < 0 ∨ 350 < x))) ∧
    (∀ x : Nat, x = natAt d 0 → d.length = 4 → exec (.setRamp .cabin tag d) s =
      joined (.setRamp (max 5 (min x 100))) (decide (x < 5 ∨ 100 < x))) ∧
    (d.length = 4 → exec (.setFallbackSpeed .cabin tag d) s = joined (.setFallbackSpeed (natAt d 0)) false) ∧
    (d.length = 0 → exec (.clearJam .cabin tag d) s = joined .clearJam false) ∧
    (d.length = 24 → exec (.setRecovery .cabin tag d) s = joined (.setRecovery
      { bursts := natAt d 0, reverseSpeed := natAt d 4, reverseTime := natAt d 8, restTime := natAt d 12
        probeSpeed := natAt d 16, probeTime := natAt d 20 }) false) ∧
    (d.length = 1 → exec (.setSteerMode .cabin tag d) s = joined (.setSteerMode (byteAt d 0).toNat) false) ∧
    (∀ x lim : Int, x = intAt d 0 → lim = (min s.slu.settings.trimLimit (s.wg.sEff / 4) : Nat) → d.length = 4 →
      exec (.setTrimManual .cabin tag d) s =
        joined (.setTrimManual (max (-lim) (min x lim))) (decide (x < -lim ∨ lim < x))) ∧
    (d.length = 32 → exec (.setSteerGains .cabin tag d) s = joined (.setSteerGains
      { kx := natAt d 0, ky := natAt d 4, kt := natAt d 8, deadband := natAt d 12, twistDeadband := natAt d 16
        lr10 := natAt d 20, trimLimit := natAt d 24, startDepth := natAt d 28 }) false) ∧
    (∀ x : Nat, x = natAt d 1 → d.length = 5 → exec (.setPlate .cabin tag d) s =
      joined (.setPlate (byteAt d 0).toNat (min x 100)) (decide (100 < x))) ∧
    (d.length = 1 → exec (.clearPlate .cabin tag d) s = joined (.clearPlate (byteAt d 0).toNat) false) ∧
    (∀ x : Nat, x = natAt d 0 → d.length = 4 → exec (.setPumpDemand .cabin tag d) s =
      joined (.setPumpDemand (min x 7000)) (decide (7000 < x))) ∧
    (d.length = 28 → exec (.setTransport .cabin tag d) s = joined (.setTransport
      { cutLength := natAt d 0, thickness := natAt d 4, hose := natAt d 8, velocity := natAt d 12
        c100 := natAt d 16, rhoCut := natAt d 20, primingTime := natAt d 24 }) false) ∧
    (d.length = 5 → exec (.setPortTimeout .cabin tag d) s =
      joined (.setPortTimeout (byteAt d 0).toNat (natAt d 1)) false) ∧
    (d.length = 4 → exec (.setMarkWidth .cabin tag d) s = joined (.setMarkWidth (natAt d 0)) false)) ∧
  (∀ (p : Port) (tag : Byte) (d : List Byte) (s : State), s.pi.hub = .ready → (s.port p).queue.length < 8 →
    (d.length = 4 → exec (.ackEvents p tag d) s = .next (joinedAfter p tag (.ackEvents (word32At d 0)) false s)) ∧
    (d.length = 4 → exec (.setEventEnables p tag d) s =
      .next (joinedAfter p tag (.setEventEnables (word32At d 0)) false s)) ∧
    (d.length = 1 → exec (.setAlertLine p tag d) s =
      .next (joinedAfter p tag (.setAlertLine (byteAt d 0).toNat) false s))) ∧
  (∀ (p : Port) (s : State),
    drainList p [] s = s.setPort p { s.port p with queue := [], hold := none } ∧
    (∀ e es, held e.request s = true →
      drainList p (e :: es) s = s.setPort p { s.port p with queue := e :: es, hold := some 10000 }) ∧
    (∀ e es u, held e.request s = false → applyPosted p e.request s = .ok u →
      drainList p (e :: es) s = drainList p es u) ∧
    (∀ e es c, held e.request s = false → applyPosted p e.request s = .error c →
      drainList p (e :: es) s = drainList p es (refusedAt e.request.kind p e.tag c s))) ∧
  (∀ (p : Port) (s : State),
    ((s.port p).queue = [] → exec (.postedHeadApply p) s = .next s) ∧
    (∀ e es, (s.port p).queue = e :: es → held e.request s = true →
      exec (.postedHeadApply p) s = .next
        (s.setPort p { s.port p with hold := some ((s.port p).hold.getD 10000) })) ∧
    (∀ e es, (s.port p).queue = e :: es → held e.request s = false →
      exec (.postedHeadApply p) s = .next (drainList p (e :: es) s)) ∧
    ((s.port p).hold = none → exec (.holdTimerExpiry p) s = .next s) ∧
    (∀ e es, (s.port p).hold.isSome = true → (s.port p).queue = e :: es →
      exec (.holdTimerExpiry p) s =
        .next (drainList p es (refusedAt e.request.kind p e.tag .heldTooLong s))))

/-! ## Direct requests: `h` is the state once the request has been heard, `t` the state once it has had its effect -/

/-- O41. REPORT_ROPE_COUNT (R20 to R22, R26, R41, R132). In UNSET the count is stored and nothing else. In VALID and STALE
the depth is the datum and the scaled draw, clamped to 0 to 3,200,000 with ABOVE_DATUM and RANGE, DEPTH_RANGE raised when
RANGE becomes set, and the toe follows it; STALE ends with an empty history, F_meas 0 and the floor that follows (R28,
R159); and the update is handed on: ZT selects the zone, ZONE_CHANGE raised when it becomes another slot (R42), SU takes
the update (`surveyDepth`, O46 and O47), SLU re-evaluates its mode, RC publishes the feed limit. Outside a run the survey
is untouched; in ACCUMULATING with the condition holding, a bottom the depth has just passed closes the open segment into
one record at the pointer, and the next segment opens at that bottom. -/
def Obligations.RopeCountTaken : Prop :=
  ∀ (tag : Byte) (d : List Byte) (s h : State) (count raw : Int) (e1 e2 : Eu), s.pi.hub = .ready → d.length = 4 →
    h = hear .hoist s → count = intAt d 0 →
    raw = s.dr.datum + (count - s.dr.c0) * s.mfe.depthScaler.n / ((s.mfe.depthScaler.r * s.mfe.depthScaler.od : Nat) : Int) →
    e1 = (if s.dr.state = .stale ∧ s.dr.fMeas ≠ 0 then shortRaised s.rc (flooredRc 0 s.rc) s.eu else s.eu) →
    e2 = (if 3200000 < raw ∧ s.dr.range = false then latchAll .depthRange e1 else e1) →
    ∃ t, exec (.reportRopeCount .hoist tag d) s = .next (reply .reportRopeCount .hoist tag .done (countBytes t) t) ∧
      (s.dr.state = .unset → t = { h with dr := { s.dr with lastCount := count, countReceived := true } }) ∧
      (s.dr.state ≠ .unset →
        t = { h with
          dr := { s.dr with
            state := .valid, lastCount := count, countReceived := true, depth := t.dr.depth
            aboveDatum := decide (raw < 0), range := decide (3200000 < raw), toe := max s.dr.toe t.dr.depth
            history := if s.dr.state = .stale then [] else s.dr.history
            snapshotLeft := if s.dr.state = .stale then 5000 else s.dr.snapshotLeft
            fMeas := if s.dr.state = .stale then 0 else s.dr.fMeas }
          zt := { s.zt with current := zoneIndexAt s.zt.entries t.dr.depth, selectionDepth := t.dr.depth }
          wg := if t.zt.current = s.zt.current then s.wg else
            { s.wg with zoneCeiling := (zoneOf s.zt.entries t.zt.current).speedCeiling
                        zoneHold := (zoneOf s.zt.entries t.zt.current).holdPressure
                        zoneStall := (zoneOf s.zt.entries t.zt.current).stallPressure
                        fallbackFlag := fallbackNow t }
          rc := { (if s.dr.state = .stale ∧ s.dr.fMeas ≠ 0 then flooredRc 0 s.rc else s.rc) with
            feedLimit := feedNow t
            feedCeiling := if t.zt.current = s.zt.current then s.rc.feedCeiling else
              (zoneOf s.zt.entries t.zt.current).feedCeiling }
          su := t.su, slu := t.slu, psv := t.psv, eu := t.eu } ∧
        (t.dr.depth : Int) = max 0 (min raw 3200000) ∧
        t.slu = steeredSlu { t with slu := s.slu } ∧ t.psv = handedPlates s.slu.commands t.slu.commands s.psv ∧
        (∀ e3 y, e3 = (if t.zt.current = s.zt.current then e2 else latchAll .zoneChange e2) →
          y = { t with su := s.su, eu := e3 } →
          t.su = (surveyDepth y).su ∧ t.eu = (surveyDepth y).eu ∧
          (s.su.state.running = false → t.su = s.su ∧ t.eu = e3)) ∧
        (∀ g, s.su.state = .accumulating → s.su.segment = some g → accumulateOk t = true → 1 ≤ g.count →
          g.top + g.length ≤ t.dr.depth → s.su.records.length < 1023 → ∀ (z : ZoneEntry) (mx my : Int) (len : Nat),
          z = zoneAt s (g.top + g.length) → mx = roundDiv g.sumX g.count → my = roundDiv g.sumY g.count →
          len = (if z.selector = .l0 then s.su.l0 else s.su.l1) → t.dr.depth < g.top + g.length + len →
          t.su.records = s.su.records ++
            [{ top := g.top, bottom := g.top + g.length, selector := g.selector, cls := g.cls, count := g.count
               meanX := mx, meanY := my, meanPsi := roundDiv g.sumPsi g.count
               dx := roundDiv (s.su.rx + mx * g.length) 100000, dy := roundDiv (s.su.ry + my * g.length) 100000
               flags := { g.flags with short := false }, check := none }] ∧
          t.su.rx = s.su.rx + mx * g.length ∧ t.su.ry = s.su.ry + my * g.length ∧
          t.su.segment = some { top := g.top + g.length, length := len, selector := z.selector, cls := z.cls, count := 0
                                sumX := 0, sumY := 0, sumPsi := 0, flags := noFlags } ∧
          (∀ p, ((t.eu.ports.get p).latched &&& 0x200#32) ≠ 0) ∧ t.eu.mark = some s.eu.markWidth))

/-- O42. SET_DATUM (R23, R24): its four checks in order, each refusal changing nothing; taken, the depth and the toe stand
at the datum, the last count becomes the datum count, the state is VALID, the history is empty, F_meas is 0 with the floor
that follows (R28, R159 to R161), the run counters are 0, and the update is handed on: ZT selects the zone (R41 to R43),
SLU re-evaluates its mode, RC publishes the feed limit. -/
def Obligations.DatumTaken : Prop :=
  ∀ (p : Port) (tag : Byte) (d : List Byte) (s h : State) (v : Nat), p = .hoist ∨ p = .cabin → s.pi.hub = .ready →
    d.length = 4 → h = hear p s → v = natAt d 0 →
    (200000 < v → exec (.setDatum p tag d) s = .next (answered .setDatum p tag .outOfRange [] s)) ∧
    (v ≤ 200000 → s.dr.countReceived = false ∨ s.dr.state = .stale ∨ s.su.state.running = true →
      exec (.setDatum p tag d) s = .next (answered .setDatum p tag .wrongState [] s)) ∧
    (v ≤ 200000 → s.dr.countReceived = true → s.dr.state ≠ .stale → s.su.state.running = false →
      ∀ e1 : Eu, e1 = (if s.dr.fMeas = 0 then s.eu else shortRaised s.rc (flooredRc 0 s.rc) s.eu) →
      ∃ t, exec (.setDatum p tag d) s = .next (reply .setDatum p tag .done (num v ++ name 1) t) ∧
        t = { h with
          dr := { h.dr with state := .valid, depth := v, aboveDatum := false, range := false, c0 := s.dr.lastCount
                            datum := v, toe := v, history := [], snapshotLeft := 5000, fMeas := 0, outRun := 0
                            inRun := 0 }
          zt := { s.zt with current := zoneIndexAt s.zt.entries v, selectionDepth := v }
          wg := if t.zt.current = s.zt.current then s.wg else
            { s.wg with zoneCeiling := (zoneOf s.zt.entries t.zt.current).speedCeiling
                        zoneHold := (zoneOf s.zt.entries t.zt.current).holdPressure
                        zoneStall := (zoneOf s.zt.entries t.zt.current).stallPressure
                        fallbackFlag := fallbackNow t }
          rc := { (if s.dr.fMeas = 0 then s.rc else flooredRc 0 s.rc) with
            feedLimit := feedNow t
            feedCeiling := if t.zt.current = s.zt.current then s.rc.feedCeiling else
              (zoneOf s.zt.entries t.zt.current).feedCeiling }
          slu := t.slu, psv := t.psv
          eu := if t.zt.current = s.zt.current then e1 else latchAll .zoneChange e1 } ∧
        t.slu = steeredSlu { t with slu := s.slu } ∧ t.psv = handedPlates s.slu.commands t.slu.commands s.psv)

/-- O43. HALT (R63, R64, R84) and RELEASE_HALT (R65). HALT stops both wheels from every state: one whose reference is
below 1.0 in 0.1 rpm units is HALTED at once with its reference at 0, any other is HALTING; a recovery is aborted, the
clearing judged by SU (R130) and SLU (R89), and only then a head that it held is released. RELEASE_HALT is refused
WRONG_STATE while a wheel is HALTING and otherwise makes each HALTED wheel STOPPED. The order of the steps and the target 0
after RELEASE_HALT are read from the rules (log entries 10 and 11). -/
def Obligations.HaltTaken : Prop :=
  ∀ (tag : Byte) (s h : State), s.pi.hub = .ready → h = hear .cabin s →
    (∃ u, exec (.halt .cabin tag []) s = .next (reply .halt .cabin tag .done []
        (if s.sru.record.isSome then releaseRecovery u else u)) ∧
      u = { h with wg := { s.wg with wheels := u.wg.wheels }, sru := u.sru, su := u.su, slu := u.slu, psv := u.psv
                   rc := { s.rc with feedLimit := u.rc.feedLimit }, eu := u.eu } ∧
      (∀ w v, v = s.wg.wheels.get w → u.wg.wheels.get w =
        if v.state = .halting ∨ v.state = .halted then v
        else if v.acc < 10 then { state := .halted, target := 0, acc := 0, torqueHold := false, stallTimer := none
                                  zeroGates := 0 }
        else { state := .halting, target := 0, acc := v.acc, torqueHold := false, stallTimer := none, zeroGates := 0 }) ∧
      (s.sru.record = none → u.sru = s.sru ∧ u.su = s.su ∧ u.slu = s.slu ∧ u.psv = s.psv) ∧
      (∀ r, s.sru.record = some r →
        u.sru = { s.sru with record := none, lastEnd := .aborted, lastWheel := r.wheel, lastBurst := r.burst } ∧
        (∀ y, y = { u with su := s.su } → u.su = judgedSu (judgedRun y) y) ∧
        u.slu = steeredSlu { u with slu := s.slu } ∧ u.psv = handedPlates s.slu.commands u.slu.commands s.psv) ∧
      (FeedPublished s → u.rc.feedLimit = feedNow u) ∧
      ((∃ w, (u.wg.wheels.get w).state = .halted ∧ (s.wg.wheels.get w).state ≠ .halted) →
        u.eu = latchAll .halted s.eu) ∧
      ((∀ w, (u.wg.wheels.get w).state = .halted → (s.wg.wheels.get w).state = .halted) → u.eu = s.eu)) ∧
    ((∃ w, (s.wg.wheels.get w).state = .halting) →
      exec (.releaseHalt .cabin tag []) s = .next (answered .releaseHalt .cabin tag .wrongState [] s)) ∧
    ((∀ w, (s.wg.wheels.get w).state ≠ .halting) → FeedPublished s → ∃ t,
      exec (.releaseHalt .cabin tag []) s = .next (reply .releaseHalt .cabin tag .done [] t) ∧
      t = { h with wg := { s.wg with wheels := t.wg.wheels }, rc := { s.rc with feedLimit := feedNow t } } ∧
      ∀ w v, v = s.wg.wheels.get w →
        t.wg.wheels.get w = if v.state = .halted then { v with state := .stopped } else v)

/-- O44. SURVEY_CLAIM (R119) and SURVEY_RELEASE (R120): the claim is taken when nobody holds the survey, or the same port
does, and refused CLAIMED_BY_OTHER with the holder's name; it is released by its claimant outside the running states. -/
def Obligations.ClaimAndRelease : Prop :=
  ∀ (p : Port) (tag : Byte) (s h : State), s.pi.hub = .ready → h = hear p s →
    (ClaimLegal s.su → s.su.claimant = none ∨ s.su.claimant = some p → ∀ st,
      st = (if s.su.state = .idle then SurveyState.claimed else s.su.state) →
      exec (.surveyClaim p tag []) s = .next
        { (answered .surveyClaim p tag .done
            (name (surveyStateCode st) ++ name (portCode p) ++ num s.su.records.length) s) with
          su := { s.su with claimant := some p, state := st } }) ∧
    (∀ p', s.su.claimant = some p' → p' ≠ p →
      exec (.surveyClaim p tag []) s = .next (answered .surveyClaim p tag .claimedByOther (name (portCode p')) s)) ∧
    (s.su.claimant ≠ some p → exec (.surveyRelease p tag []) s = .next
      (answered .surveyRelease p tag .notClaimant (name (surveyStateCode s.su.state)) s)) ∧
    (s.su.claimant = some p → s.su.state.running = true → exec (.surveyRelease p tag []) s = .next
      (answered .surveyRelease p tag .runActive (name (surveyStateCode s.su.state)) s)) ∧
    (s.su.claimant = some p → s.su.state.running = false → exec (.surveyRelease p tag []) s = .next
      { (answered .surveyRelease p tag .done (name 0) s) with su := { s.su with claimant := none, state := .idle } })

/-- O45. The six run requests are refused NOT_CLAIMANT on any port but the claimant's (R122). SURVEY_CONFIG replaces the
four settings (R123), SURVEY_CLEAR empties the table (R124), SURVEY_SET_POINTER cuts it to its first p records and
rebuilds RX and RY from the last record kept (R125), each with its refusals in order. -/
def Obligations.SurveySettings : Prop :=
  (∀ (i : Instr) (k : Kind) (p : Port) (tag : Byte) (d : List Byte) (s : State), i.request = some (k, p, tag, d) →
    k ∈ [Kind.surveyConfig, .surveyClear, .surveySetPointer, .surveyStart, .surveyStop, .surveyCheck] →
    d.length = payloadLength k → s.pi.hub = .ready → s.su.claimant ≠ some p →
    exec i s = .next (answered k p tag .notClaimant (contextBytes s) s)) ∧
  (∀ (p : Port) (tag : Byte) (d : List Byte) (s : State), s.pi.hub = .ready → s.su.claimant = some p →
    (d.length = 16 → ∀ l0 l1 start tol, l0 = natAt d 0 → l1 = natAt d 4 → start = natAt d 8 → tol = natAt d 12 →
      exec (.surveyConfig p tag d) s = .next
        (if s.su.state.running = true then answered .surveyConfig p tag .runActive (contextBytes s) s
         else if s.su.state = .full then answered .surveyConfig p tag .full (contextBytes s) s
         else if 2500 ≤ l0 ∧ l0 ≤ 50000 ∧ 2500 ≤ l1 ∧ l1 ≤ 50000 ∧ start ≤ 3200000 ∧ 5 ≤ tol ∧ tol ≤ 200
         then { (answered .surveyConfig p tag .done (contextBytes s) s) with
                su := { s.su with l0 := l0, l1 := l1, startDepth := start, tolerance := tol } }
         else answered .surveyConfig p tag .outOfRange (contextBytes s) s)) ∧
    (exec (.surveyClear p tag []) s = .next
      (if s.su.state.running = true then answered .surveyClear p tag .runActive (contextBytes s) s
       else { (answered .surveyClear p tag .done (name 1 ++ name (portCode p) ++ num 0) s) with
              su := { s.su with records := [], rx := 0, ry := 0, state := .claimed
                                verdicts := { agree := 0, xOnly := 0, yOnly := 0, both := 0, noData := 0 } } })) ∧
    (d.length = 4 → ∀ n, n = natAt d 0 →
      (s.su.state.running = true → exec (.surveySetPointer p tag d) s = .next
        (answered .surveySetPointer p tag .runActive (contextBytes s) s)) ∧
      (s.su.state.running = false → s.su.records.length < n → exec (.surveySetPointer p tag d) s = .next
        (answered .surveySetPointer p tag .outOfRange (contextBytes s) s)) ∧
      (s.su.state.running = false → n ≤ s.su.records.length → ∃ t,
        exec (.surveySetPointer p tag d) s = .next (reply .surveySetPointer p tag .done (contextBytes t) t) ∧
        t = { hear p s with su := { s.su with records := s.su.records.take n, rx := t.su.rx, ry := t.su.ry
                                              state := if n = 0 then .claimed else if n = 1024 then .full else .closed } } ∧
        (n = 0 → t.su.rx = 0 ∧ t.su.ry = 0) ∧
        (∀ r, 0 < n → s.su.records[n - 1]? = some r → t.su.rx = r.dx * 100000 ∧ t.su.ry = r.dy * 100000))))

/-- O46. SURVEY_START (R126) and SURVEY_CHECK (R143 to R146) from their claimant, and a run on a depth update (R128 to
R135). A run is armed at the bottom of the last record, or at the start depth of an empty table, and its arming is judged
at once and at each VALID update: at or below the next top it opens its first segment, in ACCUMULATING or HOLDING. In
ACCUMULATING and HOLDING an update is judged by the accumulate condition and then closes every boundary it has passed
(`closePassed`). Each close writes one record at the pointer, with the segment's own means, or when it counted nothing
the means copied from the record before it (INTERPOLATED), from the window of an OK sensor, or 0 with NO_SENSOR; RX and RY
take their exact values and SEGMENT_CLOSED is raised; the next segment opens at its bottom, or at 1,024 records the table
is FULL and SURVEY_FULL is raised. So the records kept stay as they were, every one after the first new one is an
INTERPOLATED copy of the one above it, and the closes end with the depth inside the open segment or the table full. A pass
starts at the record that contains the depth, and with the frame above the table it ends at once. -/
def Obligations.RunStarts : Prop :=
  (∀ (p : Port) (tag : Byte) (s h : State), s.pi.hub = .ready → s.su.claimant = some p → h = hear p s →
    (s.su.state.running = true → exec (.surveyStart p tag []) s = .next
      (answered .surveyStart p tag .runActive (contextBytes s) s)) ∧
    (s.su.state.running = false → s.su.state = .full ∨ 1024 ≤ s.su.records.length →
      exec (.surveyStart p tag []) s = .next (answered .surveyStart p tag .full (contextBytes s) s)) ∧
    (s.su.state.running = false → s.su.state ≠ .full → s.su.records.length < 1024 → s.dr.state ≠ .valid →
      exec (.surveyStart p tag []) s = .next (answered .surveyStart p tag .wrongState (contextBytes s) s)) ∧
    (s.su.state.running = false → s.su.state ≠ .full → s.su.records.length < 1024 → s.dr.state = .valid →
      ∀ (top len : Nat) (z : ZoneEntry) (st : SurveyState),
      (s.su.records = [] → top = s.su.startDepth) → (∀ r, s.su.records.getLast? = some r → top = r.bottom) →
      z = zoneAt s top → len = (if z.selector = .l0 then s.su.l0 else s.su.l1) →
      st = (if accumulateOk s = true then .accumulating else .holding) →
      ∃ t, exec (.surveyStart p tag []) s = .next (reply .surveyStart p tag .done (contextBytes t) t) ∧
        t = surveyDepth { h with su := { s.su with state := .armed, nextTop := top } } ∧
        (s.dr.depth < top → t = { h with su := { s.su with state := .armed, nextTop := top } }) ∧
        (top ≤ s.dr.depth → s.dr.depth < top + len →
          t = { h with su := { s.su with
            state := st, nextTop := 0, liveX := roundDiv s.su.rx 100000, liveY := roundDiv s.su.ry 100000
            segment := some { top := top, length := len, selector := z.selector, cls := z.cls, count := 0, sumX := 0
                              sumY := 0, sumPsi := 0, flags := { noFlags with held := decide (st = .holding) } } } }) ∧
        (top + len ≤ s.dr.depth → t = { h with su := t.su, eu := t.eu } ∧
          s.su.records <+: t.su.records ∧
          (∃ r, t.su.records[s.su.records.length]? = some r ∧ r.top = top ∧ r.bottom = top + len ∧ r.count = 0) ∧
          ∀ q, ((t.eu.ports.get q).latched &&& 0x200#32) ≠ 0)) ∧
    ((s.su.state ≠ .closed ∧ s.su.state ≠ .full) ∨ s.su.records = [] ∨ s.dr.state ≠ .valid →
      exec (.surveyCheck p tag []) s = .next (answered .surveyCheck p tag .wrongState (contextBytes s) s)) ∧
    (s.su.state = .closed ∨ s.su.state = .full → s.dr.state = .valid → ∀ r, s.su.records.head? = some r →
      ∃ t, exec (.surveyCheck p tag []) s = .next (reply .surveyCheck p tag .done (contextBytes t) t) ∧
        (s.dr.depth < r.top → t = { h with
          su := { s.su with state := if s.su.records.length = 1024 then .full else .closed, checkFromFull := false
                            checkFront := 0, target := none, checkCount := 0, checkSumX := 0, checkSumY := 0
                            verdicts := VerdictCounts.zero }
          eu := latchAll .checkDone s.eu }) ∧
        (r.top ≤ s.dr.depth → t = { h with
          su := { s.su with
            state := if s.dr.disagree = false ∧ s.mfe.sensor = .ok then .checking else .checkHolding
            checkFromFull := decide (s.su.state = .full), checkFront := s.dr.depth, target := t.su.target
            checkCount := 0, checkSumX := 0, checkSumY := 0, verdicts := VerdictCounts.zero } } ∧
          (∀ i, t.su.target = some i → ∃ g, s.su.records[i]? = some g ∧ g.top ≤ s.dr.depth ∧ s.dr.depth < g.bottom) ∧
          (t.su.target = none → ∀ g ∈ s.su.records, ¬ (g.top ≤ s.dr.depth ∧ s.dr.depth < g.bottom))))) ∧
  (∀ (s c x : State) (z : ZoneEntry) (st : SurveyState), st = (if accumulateOk s = true then .accumulating else .holding) →
    (s.su.state = .armed →
      (s.dr.state ≠ .valid ∨ s.dr.depth < s.su.nextTop → surveyDepth s = s) ∧
      (s.dr.state = .valid → s.su.nextTop ≤ s.dr.depth → z = zoneAt s s.su.nextTop →
        x = { s with su := { s.su with
          state := st, nextTop := 0
          segment := some { top := s.su.nextTop, length := if z.selector = .l0 then s.su.l0 else s.su.l1
                            selector := z.selector, cls := z.cls, count := 0, sumX := 0, sumY := 0, sumPsi := 0
                            flags := { noFlags with held := decide (st = .holding) } } } } →
        c = closePassed 1024 x → surveyDepth s = { c with su := liveSu s.dr.toe c.su })) ∧
    (s.su.state = .accumulating ∨ s.su.state = .holding → x = { s with su := { s.su with
        state := st, segment := if s.su.state = .accumulating ∧ st = .holding then markHeld s.su.segment
                                else s.su.segment } } →
      (s.dr.state ≠ .valid → surveyDepth s = { x with su := liveSu s.dr.toe x.su }) ∧
      (s.dr.state = .valid → c = closePassed 1024 x → surveyDepth s = { c with su := liveSu s.dr.toe c.su }))) ∧
  (∀ (n : Nat) (s x : State) (g g' : Segment) (r : SurveyRecord) (z : ZoneEntry) (bottom : Nat),
    s.su.segment = some g → bottom = g.top + g.length →
    (s.dr.depth < bottom → closePassed n s = s) ∧
    (bottom ≤ s.dr.depth →
      r = { top := g.top, bottom := bottom, selector := g.selector, cls := g.cls, count := g.count, meanX := r.meanX
            meanY := r.meanY, meanPsi := r.meanPsi, dx := roundDiv (s.su.rx + r.meanX * g.length) 100000
            dy := roundDiv (s.su.ry + r.meanY * g.length) 100000, check := none
            flags := { g.flags with
              short := false, interpolated := g.flags.interpolated || decide (g.count = 0)
              noSensor := g.flags.noSensor ||
                decide (g.count = 0 ∧ s.su.records = [] ∧ s.mfe.sensor = .lost) } } →
      (1 ≤ g.count → r.meanX = roundDiv g.sumX g.count ∧ r.meanY = roundDiv g.sumY g.count ∧
        r.meanPsi = roundDiv g.sumPsi g.count) →
      (∀ q, g.count = 0 → s.su.records.getLast? = some q →
        r.meanX = q.meanX ∧ r.meanY = q.meanY ∧ r.meanPsi = q.meanPsi) →
      (g.count = 0 → s.su.records = [] → s.mfe.sensor = .ok → r.meanX = windowMean s.mfe (·.x) ∧
        r.meanY = windowMean s.mfe (·.y) ∧ r.meanPsi = windowMean s.mfe (·.psi)) →
      (g.count = 0 → s.su.records = [] → s.mfe.sensor = .lost → r.meanX = 0 ∧ r.meanY = 0 ∧ r.meanPsi = 0) →
      x = { s with su := { s.su with records := s.su.records ++ [r], segment := none
                                     rx := s.su.rx + r.meanX * g.length, ry := s.su.ry + r.meanY * g.length }
                   eu := startMark (latchAll .segmentClosed s.eu) } →
      z = zoneAt s bottom →
      g' = { top := bottom, length := if z.selector = .l0 then s.su.l0 else s.su.l1, selector := z.selector, cls := z.cls
             count := 0, sumX := 0, sumY := 0, sumPsi := 0
             flags := { noFlags with held := decide (s.su.state = .holding) } } →
      closePassed (n + 1) s =
        if 1023 ≤ s.su.records.length
        then { x with su := { x.su with state := if s.su.claimant = none then .idle else .full }
                      eu := latchAll .surveyFull x.eu }
        else closePassed n { x with su := { x.su with segment := some g' } })) ∧
  (∀ s c : State, s.su.segment.isSome = true → s.su.records.length < 1024 → c = closePassed 1024 s →
    c = { s with su := { s.su with state := c.su.state, records := c.su.records, segment := c.su.segment, rx := c.su.rx
                                   ry := c.su.ry }
                 eu := c.eu } ∧
    s.su.records <+: c.su.records ∧
    (∀ (k : Nat) (r r' : SurveyRecord), s.su.records.length ≤ k → c.su.records[k]? = some r →
      c.su.records[k + 1]? = some r' → r'.top = r.bottom ∧ r'.count = 0 ∧ r'.flags.interpolated = true ∧
      r'.meanX = r.meanX ∧ r'.meanY = r.meanY ∧ r'.meanPsi = r.meanPsi) ∧
    ((c.su.records.length = 1024 ∧ c.su.segment = none ∧
        c.su.state = (if s.su.claimant = none then .idle else .full)) ∨
      (c.su.records.length < 1024 ∧ c.su.state = s.su.state ∧
        ∃ g, c.su.segment = some g ∧ s.dr.depth < g.top + g.length)))

/-- O47. SURVEY_STOP from the claimant (R127, R151), and a check pass on a depth update (R145 to R150). ARMED becomes
CLOSED. An open segment with a count and at least 0.05 m of toe below its top becomes a SHORT record at the pointer, with
RX and RY exact, and otherwise leaves no trace. A check pass writes the target's check field when it gathered anything, and
raises CHECK_DONE. On a VALID depth update of a pass the check front follows the depth up; a target whose top the depth has
left upward is written with its means and verdict, the records passed over above it are written NO_DATA, and the record
that contains the depth is the target; a depth above the first record ends the pass with CHECK_DONE; and last the check
condition is judged. A STALE update is judged by the condition alone. -/
def Obligations.RunStops : Prop :=
  (∀ (p : Port) (tag : Byte) (s h : State), s.pi.hub = .ready → s.su.claimant = some p → h = hear p s →
    (s.su.state.running = false →
      exec (.surveyStop p tag []) s = .next (answered .surveyStop p tag .wrongState (contextBytes s) s)) ∧
    (s.su.state.running = true → ∃ t,
      exec (.surveyStop p tag []) s = .next (reply .surveyStop p tag .done (contextBytes t) t) ∧
      t = stopSurvey h ∧ t = { h with su := t.su, eu := t.eu } ∧
      (s.su.state = .armed → s.su.segment = none → t.eu = s.eu ∧
        t.su = { s.su with state := .closed, nextTop := 0, liveX := 0, liveY := 0 }) ∧
      (∀ g, s.su.state = .accumulating ∨ s.su.state = .holding → s.su.segment = some g →
        g.count = 0 ∨ s.dr.toe < g.top + 500 → t.eu = s.eu ∧
        t.su = { s.su with state := .closed, segment := none, liveX := 0, liveY := 0 }) ∧
      (∀ (g : Segment) (bottom : Nat) (mx my len : Int), s.su.state = .accumulating ∨ s.su.state = .holding →
        s.su.segment = some g → 1 ≤ g.count → g.top + 500 ≤ s.dr.toe → bottom = min s.dr.toe (g.top + g.length) →
        mx = roundDiv g.sumX g.count → my = roundDiv g.sumY g.count → len = (bottom : Int) - g.top →
        t.su = { s.su with
          state := if 1023 ≤ s.su.records.length then .full else .closed, segment := none, liveX := 0, liveY := 0
          rx := s.su.rx + mx * len, ry := s.su.ry + my * len
          records := s.su.records ++
            [{ top := g.top, bottom := bottom, selector := g.selector, cls := g.cls, count := g.count, meanX := mx
               meanY := my, meanPsi := roundDiv g.sumPsi g.count, dx := roundDiv (s.su.rx + mx * len) 100000
               dy := roundDiv (s.su.ry + my * len) 100000, flags := { g.flags with short := true }, check := none }] } ∧
        t.eu = (if 1023 ≤ s.su.records.length then latchAll .surveyFull (startMark (latchAll .segmentClosed s.eu))
                else startMark (latchAll .segmentClosed s.eu))) ∧
      (s.su.state = .checking ∨ s.su.state = .checkHolding →
        t.eu = latchAll .checkDone s.eu ∧
        t.su = { s.su with state := if s.su.records.length = 1024 then .full else .closed, target := none
                           checkCount := 0, checkSumX := 0, checkSumY := 0, checkFront := 0, checkFromFull := false
                           records := t.su.records, verdicts := t.su.verdicts } ∧
        (s.su.target = none ∨ s.su.checkCount = 0 → t.su.records = s.su.records ∧ t.su.verdicts = s.su.verdicts) ∧
        (∀ i r f, s.su.target = some i → 1 ≤ s.su.checkCount → s.su.records[i]? = some r →
          f = checkFieldOf r s.su.checkCount s.su.checkSumX s.su.checkSumY s.su.tolerance →
          t.su.records = s.su.records.set i { r with check := some f } ∧
          t.su.verdicts = s.su.verdicts.add f.verdict 1 ∧
          f.meanX = roundDiv s.su.checkSumX s.su.checkCount ∧ f.meanY = roundDiv s.su.checkSumY s.su.checkCount ∧
          (f.verdict = .agree ↔ (f.meanX - r.meanX).natAbs ≤ s.su.tolerance ∧
            (f.meanY - r.meanY).natAbs ≤ s.su.tolerance))))) ∧
  (∀ s : State, s.su.state = .checking ∨ s.su.state = .checkHolding →
    (s.dr.state ≠ .valid → surveyDepth s = { s with su := { s.su with state := .checkHolding } }) ∧
    (s.dr.state = .valid → ∀ (front : Nat) (st : SurveyState) (top : SurveyRecord), front = min s.su.checkFront s.dr.depth →
      st = (if s.dr.disagree = false ∧ s.mfe.sensor = .ok ∧ s.dr.depth ≤ front + 500 then .checking
            else .checkHolding) →
      s.su.records.head? = some top →
      ((∃ i r, s.su.target = some i ∧ s.su.records[i]? = some r ∧ r.top ≤ s.dr.depth) ∨
          (∃ r, s.su.target = none ∧ s.su.records.getLast? = some r ∧ r.bottom ≤ s.dr.depth) →
        surveyDepth s = { s with su := { s.su with checkFront := front, state := st } }) ∧
      (∀ (bound : Nat) (written : Nat → Option CheckField) (counts : VerdictCounts),
        ((∃ r f, s.su.target = some bound ∧ s.su.records[bound]? = some r ∧ s.dr.depth < r.top ∧
            f = checkFieldOf r s.su.checkCount s.su.checkSumX s.su.checkSumY s.su.tolerance ∧
            (∀ j, written j = if j = bound then some f else none) ∧ counts = s.su.verdicts.add f.verdict 1) ∨
          (∃ r, s.su.target = none ∧ s.su.records.getLast? = some r ∧ s.dr.depth < r.bottom ∧
            bound = s.su.records.length ∧ (∀ j, written j = none) ∧ counts = s.su.verdicts)) →
        ∃ t, t = surveyDepth s ∧
          t = { s with
            su := { s.su with
              state := if top.top ≤ s.dr.depth then st else if s.su.claimant = none then .idle
                       else if s.su.records.length = 1024 then .full else .closed
              checkFront := if top.top ≤ s.dr.depth then front else 0, target := t.su.target, checkCount := 0
              checkSumX := 0, checkSumY := 0, records := t.su.records
              checkFromFull := if top.top ≤ s.dr.depth then s.su.checkFromFull else false
              verdicts := counts.add .noData ((s.su.records.take bound).countP fun q => decide (s.dr.depth < q.top)) }
            eu := if top.top ≤ s.dr.depth then s.eu else latchAll .checkDone s.eu } ∧
          t.su.records.length = s.su.records.length ∧
          (∀ j q f, s.su.records[j]? = some q →
            f = (if (written j).isSome then written j
                 else if j < bound ∧ s.dr.depth < q.top
                 then some { count := 0, meanX := 0, meanY := 0, verdict := .noData } else q.check) →
            t.su.records[j]? = some { q with check := f }) ∧
          (s.dr.depth < top.top → t.su.target = none) ∧
          (∀ i, t.su.target = some i → ∃ q, s.su.records[i]? = some q ∧ q.top ≤ s.dr.depth ∧ s.dr.depth < q.bottom) ∧
          (t.su.target = none → top.top ≤ s.dr.depth →
            ∀ q ∈ s.su.records, ¬ (q.top ≤ s.dr.depth ∧ s.dr.depth < q.bottom)))))

/-- O48. SURVEY_WINDOW (R137) and READ_NEXT (R138, R179): a valid window is set with the cursor at its first; a read
answers the record at the cursor, 40 bytes, and moves the cursor on, or answers END beyond the window or the table. -/
def Obligations.TableRead : Prop :=
  (∀ (p : Port) (tag : Byte) (d : List Byte) (s : State), s.pi.hub = .ready → d.length = 8 →
    ∀ (first last : Nat) (a : State), first = natAt d 0 → last = natAt d 4 →
      (first ≤ last → last ≤ 1023 → a = answered .surveyWindow p tag .done [] s →
        exec (.surveyWindow p tag d) s = .next
          (a.setPort p { a.port p with windowFirst := first, windowLast := last, cursor := first })) ∧
      (last < first ∨ 1023 < last →
        exec (.surveyWindow p tag d) s = .next (answered .surveyWindow p tag .outOfRange [] s))) ∧
  (∀ (p : Port) (tag : Byte) (s : State), s.pi.hub = .ready →
    (∀ r a, (s.port p).cursor ≤ (s.port p).windowLast → s.su.records[(s.port p).cursor]? = some r →
      a = answered .readNext p tag .done (recordBytes (s.port p).cursor r) s →
      exec (.readNext p tag []) s = .next (a.setPort p { a.port p with cursor := (s.port p).cursor + 1 })) ∧
    ((s.port p).windowLast < (s.port p).cursor ∨ s.su.records.length ≤ (s.port p).cursor →
      exec (.readNext p tag []) s = .next (answered .readNext p tag .end_ [] s))) ∧
  (∀ (i : Nat) (r : SurveyRecord), (recordBytes i r).length = 40)

/-- O49. SET_PLANT_CEILING (R156, R164, R167) and REPORT_DENSITY (R157) from the plant. The ceiling as clamped replaces Qp;
Qeff, the pump command, TRANSPORT_SHORT and the feed limit follow; a ceiling of 0 stops priming or pumping to wait for the
plant, and a ceiling above 0 with the plant ready starts a return that waits. Both densities in range replace those held,
reach the cross-check and the feed limit; otherwise neither is taken. -/
def Obligations.PlantInputs : Prop :=
  (∀ (tag : Byte) (d : List Byte) (s h : State) (qp : Nat), s.pi.hub = .ready → d.length = 4 → h = hear .plant s →
    qp = min (natAt d 0) 7000 → ∃ t,
    exec (.setPlantCeiling .plant tag d) s = .next
      (reply .setPlantCeiling .plant tag (if natAt d 0 ≤ 7000 then .done else .doneClamped)
        (num qp ++ name (returnStateCode t.rc.state)) t) ∧
    t = { h with
      rc := { s.rc with
        qp := qp, qEff := if s.rc.qc = 0 then 0 else min (max s.rc.qc s.rc.qFloor) qp
        short := decide (0 < s.rc.qc) && decide (qp < s.rc.qFloor), feedLimit := feedNow t
        state :=
          if qp = 0 ∧ (s.rc.state = .priming ∨ s.rc.state = .pumping) then .waitingPlant
          else if s.rc.state = .waitingPlant ∧ s.rc.ready = true ∧ 0 < qp then .priming else s.rc.state
        pump := if t.rc.state = .priming ∨ t.rc.state = .pumping ∨ t.rc.state = .starved then t.rc.qEff else 0
        primingTimer := if t.rc.state = s.rc.state then s.rc.primingTimer
                        else if t.rc.state = .priming then some s.rc.transport.primingTime else none
        starvation := if t.rc.state = s.rc.state then s.rc.starvation else 0 }
      wg := { s.wg with fallbackFlag := if t.rc.state = s.rc.state then s.wg.fallbackFlag else fallbackNow t }
      eu := if t.rc.short && !s.rc.short then latchAll .transportShort s.eu else s.eu }) ∧
  (∀ (tag : Byte) (d : List Byte) (s a : State) (rhoS rhoR : Nat), s.pi.hub = .ready → d.length = 8 →
    rhoS = natAt d 0 → rhoR = natAt d 4 →
    (1000 ≤ rhoS → rhoS ≤ 1600 → 1000 ≤ rhoR → rhoR ≤ 1600 → a = answered .reportDensity .plant tag .done [] s →
      ∃ t, exec (.reportDensity .plant tag d) s = .next t ∧
        t = { a with rc := { s.rc with rhoS := rhoS, rhoR := rhoR, densityReported := true, feedLimit := feedNow t }
                     dr := { s.dr with rho := rhoS, crossCheck := .comparing } }) ∧
    (rhoS < 1000 ∨ 1600 < rhoS ∨ rhoR < 1000 ∨ 1600 < rhoR →
      exec (.reportDensity .plant tag d) s = .next (answered .reportDensity .plant tag .outOfRange [] s)))

/-- O50. RESET_RETURN (R162, R169, R170): it takes a return out of STARVED, and out of PLANT_HOLD once the line is high, to
PRIMING when the plant is ready with a ceiling above 0 and to WAITING_PLANT otherwise; on hold with the line low it is
refused WRONG_STATE, and in the other states it changes nothing. -/
def Obligations.ReturnReset : Prop :=
  ∀ (p : Port) (tag : Byte) (s h : State), p = .cabin ∨ p = .plant → s.pi.hub = .ready → h = hear p s →
    (s.rc.state = .plantHold → s.rc.ready = false →
      exec (.resetReturn p tag []) s = .next (answered .resetReturn p tag .wrongState (name 5) s)) ∧
    (s.rc.state ≠ .starved → s.rc.state ≠ .plantHold → exec (.resetReturn p tag []) s = .next
      (answered .resetReturn p tag .done (name (returnStateCode s.rc.state)) s)) ∧
    (s.rc.state = .starved ∨ (s.rc.state = .plantHold ∧ s.rc.ready = true) → ∃ t,
      exec (.resetReturn p tag []) s = .next
        (reply .resetReturn p tag .done (name (if s.rc.ready = true ∧ 0 < s.rc.qp then 2 else 1)) t) ∧
      (s.rc.ready = true ∧ 0 < s.rc.qp → t = { h with
        rc := { s.rc with
          state := .priming, primingTimer := some s.rc.transport.primingTime, starvation := 0, pump := s.rc.qEff
          armed := if s.rc.state = .plantHold then false else s.rc.armed, feedLimit := feedNow t }
        wg := { s.wg with fallbackFlag := fallbackNow t } }) ∧
      (¬ (s.rc.ready = true ∧ 0 < s.rc.qp) → t = { h with
        rc := { s.rc with
          state := .waitingPlant, pump := 0, armed := if s.rc.state = .plantHold then false else s.rc.armed
          feedLimit := feedNow t }
        wg := { s.wg with fallbackFlag := fallbackNow t } }))

/-- O51. TEST_INJECT (R192) and HEAD_RESTART (R191 and the restart rule of each block: R34, R70, R86, R103, R115,
R141, R176, R201): measurements, depth, zones, settings, records, links and latched events are kept; the queues are
emptied, the wheels STOPPED at once, FALLBACK set as the kept values give it with the return OFF, a recovery aborted, the
return OFF, the plates commanded in, a mark pulse ended; a run or a check pass is ended as SURVEY_STOP ends it
(`stopSurvey`, O47), its record or check field joining the table, and the claim is released; RESTARTED is raised. The
order of the blocks in a restart is the model's reading (log entry 16), and so is that the reply to a TEST_INJECT is
proper under any count (log entry 19). -/
def Obligations.HubRequests : Prop :=
  (∀ (tag : Byte) (d : List Byte) (s a : State) (n : Nat), s.pi.hub = .ready → d.length = 5 → n = natAt d 1 →
    (∀ q, portNamed (byteAt d 0).toNat = some q → 1 ≤ n → n ≤ 16 → a = answered .testInject .cabin tag .done [] s →
      exec (.testInject .cabin tag d) s = .next (a.setPort q { a.port q with injection := n })) ∧
    (2 < (byteAt d 0).toNat ∨ n = 0 ∨ 16 < n →
      exec (.testInject .cabin tag d) s = .next (answered .testInject .cabin tag .outOfRange [] s))) ∧
  (∀ (tag : Byte) (s a : State), s.pi.hub = .ready → a = answered .headRestart .cabin tag .done [] s →
    ∃ t, exec (.headRestart .cabin tag []) s = .next t ∧
      t.mfe = s.mfe ∧ t.zt = s.zt ∧ t.pending = s.pending ∧ t.free = s.free ∧
      t.pi.hub = s.pi.hub ∧ t.pi.startUpLeft = s.pi.startUpLeft ∧
      (∀ p, t.port p = { a.port p with queue := [], hold := none, injection := 0 }) ∧
      (∀ p, t.eu.ports.get p = { s.eu.ports.get p with latched := (t.eu.ports.get p).latched } ∧
        ((t.eu.ports.get p).latched &&& 0x40000#32) ≠ 0) ∧
      t.eu.markWidth = s.eu.markWidth ∧
      t.dr = { s.dr with outRun := 0, inRun := 0 } ∧
      (∀ w, t.wg.wheels.get w = { state := .stopped, target := 0, acc := 0, torqueHold := false, stallTimer := none
                                  zeroGates := 0 }) ∧
      t.wg = { s.wg with wheels := t.wg.wheels, fallbackFlag := decide (s.wg.fallback < s.wg.zoneCeiling) } ∧
      t.sru = { s.sru with
        record := none, lastEnd := if s.sru.record.isSome then .aborted else s.sru.lastEnd
        lastWheel := (s.sru.record.map (·.wheel)).getD s.sru.lastWheel
        lastBurst := (s.sru.record.map (·.burst)).getD s.sru.lastBurst } ∧
      t.rc = { s.rc with state := .off, qc := 0, primingTimer := none, starvation := 0, armed := false, qEff := 0
                         pump := 0, feedLimit := 0, short := false } ∧
      t.su.state = .idle ∧ t.su.claimant = none ∧
      (s.su.state.running = false → t.su = { s.su with state := .idle, claimant := none, nextTop := 0 } ∧
        t.eu.mark = none ∧ ∀ p, (t.eu.ports.get p).latched = (s.eu.ports.get p).latched ||| 0x40000#32) ∧
      (∀ e y : State, e = { t with su := s.su, eu := { s.eu with mark := none } } → y = stopSurvey e →
        t.su = { y.su with state := .idle, claimant := none, nextTop := 0 } ∧ t.eu = latchAll .restarted y.eu) ∧
      (s.su.state = .armed → s.su.segment = none → t.eu = latchAll .restarted { s.eu with mark := none } ∧
        t.su = { s.su with state := .idle, claimant := none, nextTop := 0, liveX := 0, liveY := 0 }) ∧
      (∀ g, s.su.state = .accumulating ∨ s.su.state = .holding → s.su.segment = some g →
        (g.count = 0 ∨ s.dr.toe < g.top + 500 → t.eu = latchAll .restarted { s.eu with mark := none } ∧
          t.su = { s.su with state := .idle, claimant := none, nextTop := 0, segment := none, liveX := 0, liveY := 0 }) ∧
        (∀ (bottom : Nat) (mx my len : Int) (e : Eu), 1 ≤ g.count → g.top + 500 ≤ s.dr.toe →
          bottom = min s.dr.toe (g.top + g.length) → mx = roundDiv g.sumX g.count → my = roundDiv g.sumY g.count →
          len = (bottom : Int) - g.top → e = startMark (latchAll .segmentClosed s.eu) →
          t.su = { s.su with
            state := .idle, claimant := none, nextTop := 0, segment := none, liveX := 0, liveY := 0
            rx := s.su.rx + mx * len, ry := s.su.ry + my * len
            records := s.su.records ++
              [{ top := g.top, bottom := bottom, selector := g.selector, cls := g.cls, count := g.count, meanX := mx
                 meanY := my, meanPsi := roundDiv g.sumPsi g.count, dx := roundDiv (s.su.rx + mx * len) 100000
                 dy := roundDiv (s.su.ry + my * len) 100000, flags := { g.flags with short := true }
                 check := none }] } ∧
          t.eu = latchAll .restarted (if 1023 ≤ s.su.records.length then latchAll .surveyFull e else e))) ∧
      (s.su.state = .checking ∨ s.su.state = .checkHolding →
        t.eu = latchAll .restarted (latchAll .checkDone { s.eu with mark := none }) ∧
        t.su = { s.su with state := .idle, claimant := none, nextTop := 0, target := none, checkCount := 0, checkSumX := 0
                           checkSumY := 0, checkFront := 0, checkFromFull := false, records := t.su.records
                           verdicts := t.su.verdicts } ∧
        (s.su.target = none ∨ s.su.checkCount = 0 → t.su.records = s.su.records ∧ t.su.verdicts = s.su.verdicts) ∧
        (∀ i r f, s.su.target = some i → 1 ≤ s.su.checkCount → s.su.records[i]? = some r →
          f = checkFieldOf r s.su.checkCount s.su.checkSumX s.su.checkSumY s.su.tolerance →
          t.su.records = s.su.records.set i { r with check := some f } ∧
          t.su.verdicts = s.su.verdicts.add f.verdict 1)) ∧
      t.slu = { s.slu with actual := modeNow t, offeredTrim := 0, uy := 0, ut := 0, commands := noPlates
                           manualTrim := 0, manualPlates := noPlates } ∧
      (∀ q, t.psv.get q = { s.psv.get q with
        command := 0, demand := 0, settleTimer := none
        move := if 2 < (s.psv.get q).extension.value then .moving else .settled
        moveTimer := if 2 < (s.psv.get q).extension.value then some 8000 else none }))

/-- O52. The fourteen queries (R183; R18, R33, R44, R68, R69, R85, R101, R113, R139, R154, R174, R193, R194, R200) answer the
values as they stand and change none of them; a value the manual lists without stating it is the next free value (log
entry 12, the model's choice). A slot above 8 or a port name above 2 is refused OUT_OF_RANGE. -/
def Obligations.QueriesAnswered : Prop :=
  (∀ (p : Port) (tag : Byte) (s h : State), h = hear p s → s.pi.hub = .ready →
    exec (.queryMeasurements p tag []) s = .next (answered .queryMeasurements p tag .done (measurementsBytes h) s) ∧
    exec (.queryDepth p tag []) s = .next (answered .queryDepth p tag .done (depthBytes h) s) ∧
    exec (.queryDemand p tag []) s = .next (answered .queryDemand p tag .done (demandBytes h) s) ∧
    exec (.queryWheels p tag []) s = .next (answered .queryWheels p tag .done (wheelsBytes h) s) ∧
    exec (.queryRecovery p tag []) s = .next (answered .queryRecovery p tag .done (recoveryBytes h) s) ∧
    exec (.querySteering p tag []) s = .next (answered .querySteering p tag .done (steeringBytes h) s) ∧
    exec (.queryPlates p tag []) s = .next (answered .queryPlates p tag .done (plateReplyBytes h) s) ∧
    exec (.querySurvey p tag []) s = .next (answered .querySurvey p tag .done (surveyBytes p h) s) ∧
    exec (.queryEvents p tag []) s = .next (answered .queryEvents p tag .done (eventsBytes p h) s) ∧
    exec (.queryCheck p tag []) s = .next
      { (answered .queryCheck p tag .done (checkBytes h) s) with
        free := s.free + if (s.su.state = .checking ∨ s.su.state = .checkHolding) ∧ s.su.target = none then 1 else 0 } ∧
    exec (.queryReturn p tag []) s = .next
      { (answered .queryReturn p tag .done (returnReplyBytes h) s) with
        free := s.free + if s.rc.armed = true ∧ s.rc.ready = false then 0 else 1 }) ∧
  (∀ (p : Port) (tag : Byte) (s h : State), h = hear p s →
    exec (.queryStatus p tag []) s = .next (answered .queryStatus p tag .done (statusBytes p h) s)) ∧
  (∀ (p : Port) (tag : Byte) (d : List Byte) (s h : State), h = hear p s → s.pi.hub = .ready →
    (d.length = 4 → natAt d 0 ≤ 8 → exec (.queryZone p tag d) s = .next
      { (answered .queryZone p tag .done (zoneReplyBytes (natAt d 0) h) s) with
        free := s.free + if natAt d 0 = 8 then 1 else 0 }) ∧
    (d.length = 4 → 8 < natAt d 0 →
      exec (.queryZone p tag d) s = .next (answered .queryZone p tag .outOfRange [] s)) ∧
    (∀ q, d.length = 1 → portNamed (byteAt d 0).toNat = some q → exec (.queryPort p tag d) s = .next
      { (answered .queryPort p tag .done (portBytes q h) s) with
        free := s.free + if (s.port q).rejection = none then 3 else 0 }) ∧
    (d.length = 1 → 2 < (byteAt d 0).toNat →
      exec (.queryPort p tag d) s = .next (answered .queryPort p tag .outOfRange [] s)))

/-! ## The hub's own events -/

/-- O53. SAMPLE_SLOT and SENSOR_LOST (R6 to R11, R93, R97, R131). A missing, broken or invalid set adds one to the
invalid count; the fifth in a row in OK makes the sensor LOST, empties the window, raises SENSOR_LOST, and SU and SLU
judge the change. A valid set enters the window as clamped and zeroes the count; the set that brings the window to 8
makes the sensor OK and ends STARTING. SU judges the change and counts the set (`sampledSu`) before SLU computes: in AUTO
the results are applied and each changed plate command handed to PSV (R109), in MANUAL they are kept and what stands
applied stays, in OFF and FROZEN nothing is computed. That SENSOR_LOST may be asserted on its own and changes
nothing in LOST is the model's choice (log entry 3); the order of SU and SLU is log entry 17, and that u_y and u_t stand on
entering AUTO or MANUAL log entry 18. -/
def Obligations.SensorEvents : Prop :=
  (∀ (v : Delivery) (s : State), v = .missing ∨ v = .broken ∨ (∃ x y psi, v = .whole false x y psi) →
    (s.mfe.sensor = .lost ∨ s.mfe.invalidCount < 4 → exec (.sampleSlot v) s = .next
      { s with mfe := { s.mfe with invalidCount := min 255 (s.mfe.invalidCount + 1) } }) ∧
    (∀ u : State, s.mfe.sensor = .ok → 4 ≤ s.mfe.invalidCount → u = { s with
        mfe := { s.mfe with sensor := .lost, window := [], newestSaturated := false
                            invalidCount := min 255 (s.mfe.invalidCount + 1) }
        eu := latchAll .sensorLost s.eu } →
      exec (.sampleSlot v) s = .next (steered { u with su := judgedSu (judgedSurvey u) u }))) ∧
  (∀ s : State, (s.mfe.sensor = .lost → exec .sensorLost s = .next s) ∧
    (∀ u : State, s.mfe.sensor = .ok → u = { s with
        mfe := { s.mfe with sensor := .lost, window := [], newestSaturated := false
                            invalidCount := max 5 s.mfe.invalidCount }
        eu := latchAll .sensorLost s.eu } →
      exec .sensorLost s = .next (steered { u with su := judgedSu (judgedSurvey u) u }))) ∧
  (∀ (x y psi : Int) (s u : State) (v : SampleSet) (w : List SampleSet) (sat : Bool) (m : Slu),
    v = { x := max (-5000) (min x 5000), y := max (-5000) (min y 5000), psi := max (-1000) (min psi 1000) } →
    w = (if s.mfe.window.length < 8 then s.mfe.window else s.mfe.window.drop (s.mfe.window.length - 7)) ++ [v] →
    sat = decide (v.x ≠ x ∨ v.y ≠ y ∨ v.psi ≠ psi) → MeasurementsLegal s → ModeFollows s →
    u = { s with
      mfe := { s.mfe with window := w, invalidCount := 0, sensor := if w.length = 8 then .ok else .lost
                          newestSaturated := sat }
      pi := if s.mfe.sensor = .lost ∧ w.length = 8 then { s.pi with hub := .ready, startUpLeft := 0 } else s.pi } →
    m = steeredSlu u →
    ∃ t, exec (.sampleSlot (.whole true x y psi)) s = .next t ∧
      t = { u with su := t.su, slu := t.slu, psv := handedPlates s.slu.commands t.slu.commands s.psv } ∧
      t.su = sampledSu v sat s.dr.toe
        (if u.mfe.sensor = s.mfe.sensor then s.su else judgedSu (judgedSurvey u) u) ∧
      t.slu.actual = modeNow t ∧ m.actual = modeNow t ∧
      (∀ r, m.actual = .auto → r = steerResult t →
        t.slu = { m with last := r, commands := r.plates, offeredTrim := r.trim, uy := r.uy, ut := r.ut }) ∧
      (m.actual = .manual → t.slu = { m with last := steerResult t }) ∧
      (m.actual = .off ∨ m.actual = .frozen → t.slu = m) ∧
      t.su.state = (if u.mfe.sensor = s.mfe.sensor then s.su.state else judgedSurvey u) ∧
      t.su.records = s.su.records ∧
      (∀ g, t.su.state = .accumulating → s.su.segment = some g → g.count < 65535 →
        t.su.segment = some { g with
          count := g.count + 1, sumX := g.sumX + v.x, sumY := g.sumY + v.y, sumPsi := g.sumPsi + v.psi
          flags := { g.flags with saturated := g.flags.saturated || sat
                                  capped := g.flags.capped || decide (g.count = 65534) } }) ∧
      (t.su.state = .checking → s.su.target.isSome = true → s.su.checkCount < 65535 →
        t.su.checkCount = s.su.checkCount + 1 ∧ t.su.checkSumX = s.su.checkSumX + v.x ∧
        t.su.checkSumY = s.su.checkSumY + v.y) ∧
      (t.su.state ≠ .accumulating → t.su.state ≠ .checking → t.su.checkCount = s.su.checkCount ∧
        (s.su.segment.map (·.count) = t.su.segment.map (·.count))))

/-- O54. TACH_GATE_END (R13, R60) and FLOW_GATE_END (R14, R165, R166). The pulses, at most 65,535, are scaled, signed and
clamped. A zero gate of a RUNNING wheel below the stall pressure counts one, the fourth in a row is the tach fault, any
other gate returns the count to 0. The flow ends priming at half of Qeff; below three tenths it counts one in PUMPING, and
the fifth in a row starves the return. -/
def Obligations.GateResults : Prop :=
  (∀ (w : Wheel) (pulses : Nat) (cutting : Bool) (s u : State) (n : Nat) (v : Int) (r : WheelRec)
      (x : TachResult), n = min 65535 pulses → r = s.wg.wheels.get w →
    v = (if cutting = true then (n : Int) * s.mfe.tachScaler.n / ((s.mfe.tachScaler.r * s.mfe.tachScaler.od : Nat) : Int)
         else -((n : Int) * s.mfe.tachScaler.n / ((s.mfe.tachScaler.r * s.mfe.tachScaler.od : Nat) : Int))) →
    x = { speed := max (-500) (min v 500), pulses := n, saturated := decide (v < -500 ∨ 500 < v) } →
    u = { s with mfe := { s.mfe with tach := s.mfe.tach.set w x } } →
    (r.state ≠ .running → exec (.tachGateEnd w pulses cutting) s = .next u) ∧
    (r.state = .running → pulses ≠ 0 ∨ r.acc < 200 ∨ s.wg.zoneStall ≤ (s.mfe.gearbox.get w).value →
      exec (.tachGateEnd w pulses cutting) s = .next (u.setWheel w { r with zeroGates := 0 })) ∧
    (r.state = .running → pulses = 0 → 200 ≤ r.acc → (s.mfe.gearbox.get w).value < s.wg.zoneStall →
      exec (.tachGateEnd w pulses cutting) s =
        if r.zeroGates < 3 then .next (u.setWheel w { r with zeroGates := r.zeroGates + 1 }) else exec (.tachFault w) u)) ∧
  (∀ (pulses : Nat) (s u : State) (v : Nat),
    v = min 65535 pulses * s.mfe.flowScaler.n / (s.mfe.flowScaler.r * s.mfe.flowScaler.od) →
    u = { s with mfe := { s.mfe with qm := { value := min v 10000, saturated := decide (10000 < v) } } } →
    (s.rc.state ≠ .priming → s.rc.state ≠ .pumping → exec (.flowGateEnd pulses) s = .next u) ∧
    (s.rc.state = .priming → u.mfe.qm.value < s.rc.qEff / 2 → exec (.flowGateEnd pulses) s = .next u) ∧
    (s.rc.state = .priming → s.rc.qEff / 2 ≤ u.mfe.qm.value → ∃ t, exec (.flowGateEnd pulses) s = .next t ∧
      t = { u with rc := { s.rc with state := .pumping, primingTimer := none, starvation := 0, pump := s.rc.qEff
                                     feedLimit := feedNow t }
                   wg := { s.wg with fallbackFlag := false } }) ∧
    (s.rc.state = .pumping → 3 * s.rc.qEff / 10 ≤ u.mfe.qm.value →
      exec (.flowGateEnd pulses) s = .next { u with rc := { s.rc with starvation := 0 } }) ∧
    (s.rc.state = .pumping → u.mfe.qm.value < 3 * s.rc.qEff / 10 → s.rc.starvation < 4 →
      exec (.flowGateEnd pulses) s = .next { u with rc := { s.rc with starvation := s.rc.starvation + 1 } }) ∧
    (s.rc.state = .pumping → u.mfe.qm.value < 3 * s.rc.qEff / 10 → 4 ≤ s.rc.starvation →
      ∃ t, exec (.flowGateEnd pulses) s = .next t ∧
        t = { u with rc := { s.rc with state := .starved, primingTimer := none, starvation := 0, pump := s.rc.qEff
                                       feedLimit := feedNow t }
                     wg := { s.wg with fallbackFlag := fallbackNow t }
                     eu := latchAll .starved s.eu }))

/-- O55. GOVERNOR_UPDATE (R15, R52 to R59, R64, R74, R75, R80 to R82). In every state it samples the two pressures and
computes the ceiling, the FALLBACK flag, S_eff and the trim, and each wheel moves by the ramp of its state: under
TORQUE_HOLD it may only slow down, it is RUNNING exactly while target or reference is not 0, its stall timer runs while
the stall condition holds, and a HALTING wheel that comes to rest is HALTED; that is `x`. With the wheels in order: no
recovery and no stall timer at 1,000 ms, the update ends there, a wheel come to rest raising HALTED; a stall timer at
1,000 ms, the stall is taken from `x` as at STALL_TIMER_EXPIRY (O57), of two the one with the higher pressure, A on a tie.
With a recovery, the phase timer is advanced; its time served, PROBE ends as at PHASE_TIMER_EXPIRY (O57), another phase
gives the next; the wheel in recovery moves toward the target of the phase, its arrival ends STOPPING or starts the phase
timer; the burst stall timer runs while the burst stall condition holds, and at 1,000 ms the burst ends as at
BURST_STALL_TIMER_EXPIRY (O57). -/
def Obligations.GovernorUpdate : Prop :=
  ∀ (pa pb : Int) (s : State), ∃ t x : State, exec (.governorUpdate pa pb) s = .next t ∧
    x = { s with mfe := { s.mfe with gearbox := t.mfe.gearbox }
                 wg := { s.wg with wheels := x.wg.wheels, ceiling := t.wg.ceiling, sEff := t.wg.sEff
                                   fallbackFlag := x.wg.fallbackFlag, trim := t.wg.trim } } ∧
    t.mfe.gearbox = { a := { value := (max 0 (min pa 4500)).toNat, saturated := decide (4500 < pa) }
                      b := { value := (max 0 (min pb 4500)).toNat, saturated := decide (4500 < pb) } } ∧
    t.wg.ceiling = (if s.rc.state = .pumping then s.wg.zoneCeiling else min s.wg.zoneCeiling s.wg.fallback) ∧
    x.wg.fallbackFlag = (decide (s.rc.state ≠ .pumping) && decide (s.wg.fallback < s.wg.zoneCeiling)) ∧
    t.wg.sEff = min s.wg.demand t.wg.ceiling ∧
    (s.slu.actual = .off ∨ s.slu.actual = .frozen → t.wg.trim = 0) ∧
    (∀ lim : Int, s.slu.actual = .auto ∨ s.slu.actual = .manual →
      lim = (min s.slu.settings.trimLimit (t.wg.sEff / 4) : Nat) →
      t.wg.trim = max (-lim) (min s.slu.offeredTrim lim)) ∧
    (∀ (id : Wheel) (w : WheelRec) (p : Nat), w = s.wg.wheels.get id → p = (t.mfe.gearbox.get id).value →
      (∀ target acc : Int, w.state = .stopped ∨ w.state = .running →
        target = (if id = .a then max 0 (min (t.wg.sEff + t.wg.trim) t.wg.ceiling)
                  else max 0 (min (t.wg.sEff - t.wg.trim) t.wg.ceiling)) →
        acc = (if s.wg.zoneHold ≤ p ∧ w.acc < 10 * target then w.acc
               else if (10 * target - w.acc).natAbs ≤ s.wg.ramp then 10 * target
               else if w.acc < 10 * target then w.acc + s.wg.ramp else w.acc - s.wg.ramp) →
        x.wg.wheels.get id =
          (if target = 0 ∧ acc.natAbs < 10
           then { state := .stopped, target := target, acc := acc, torqueHold := decide (s.wg.zoneHold ≤ p)
                  stallTimer := none, zeroGates := 0 }
           else { state := .running, target := target, acc := acc, torqueHold := decide (s.wg.zoneHold ≤ p)
                  zeroGates := if w.state = .running then w.zeroGates else 0
                  stallTimer :=
                    if 200 ≤ acc ∧ s.wg.zoneStall ≤ p ∧ (s.mfe.tach.get id).speed < 10
                    then some (if w.state = .running then (w.stallTimer.map (· + 100)).getD 0 else 0)
                    else none })) ∧
      (∀ acc : Int, w.state = .halting ∨ w.state = .standby →
        acc = (if w.acc.natAbs ≤ 100 then 0 else if w.acc < 0 then w.acc + 100 else w.acc - 100) →
        x.wg.wheels.get id =
          (if w.state = .halting ∧ acc.natAbs < 10
           then { w with state := .halted, target := 0, torqueHold := false, acc := 0 }
           else { w with target := 0, torqueHold := false, acc := acc })) ∧
      (w.state = .halted ∨ w.state = .jammed ∨ w.state = .tachFault ∨ w.state = .recovering →
        x.wg.wheels.get id = { w with target := 0, torqueHold := false })) ∧
    (WheelsLegal s → s.sru.record = none →
      ((∀ w, timeOf (x.wg.wheels.get w).stallTimer < 1000) →
        t = { x with rc := { s.rc with feedLimit := t.rc.feedLimit }, eu := t.eu } ∧
        ((∀ w, (t.wg.wheels.get w).state = (s.wg.wheels.get w).state) → t.rc.feedLimit = s.rc.feedLimit) ∧
        ((∃ w, (t.wg.wheels.get w).state ≠ (s.wg.wheels.get w).state) → t.rc.feedLimit = feedNow t) ∧
        ((∃ w, (t.wg.wheels.get w).state = .halted ∧ (s.wg.wheels.get w).state ≠ .halted) →
          t.eu = latchAll .halted s.eu) ∧
        ((∀ w, (t.wg.wheels.get w).state = .halted → (s.wg.wheels.get w).state = .halted) → t.eu = s.eu)) ∧
      (∀ w, 1000 ≤ timeOf (x.wg.wheels.get w).stallTimer →
        timeOf (x.wg.wheels.get (other w)).stallTimer < 1000 ∨
          (w = .a ∧ x.mfe.gearbox.b.value ≤ x.mfe.gearbox.a.value) ∨
          (w = .b ∧ x.mfe.gearbox.a.value < x.mfe.gearbox.b.value) →
        exec (.governorUpdate pa pb) s = exec (.stallTimerExpiry w) x)) ∧
    (∀ (r r1 : Recovery) (served : Bool), WheelsLegal s → s.sru.record = some r →
      r1 = { r with phaseTimer := r.phaseTimer.map (· + 100) } →
      served = (match r.phase with
        | .stopping => false
        | .reversing => r.phaseTimer.isSome && decide (s.sru.settings.reverseTime ≤ timeOf r1.phaseTimer)
        | .rest => r.phaseTimer.isSome && decide (s.sru.settings.restTime ≤ timeOf r1.phaseTimer)
        | .probe => r.phaseTimer.isSome && decide (s.sru.settings.probeTime ≤ timeOf r1.phaseTimer)) →
      (FeedPublished s → served = true → r.phase = .probe →
        exec (.governorUpdate pa pb) s = exec .phaseTimerExpiry x) ∧
      (∀ (r2 r3 r4 : Recovery) (w w' : WheelRec) (target : Int) (stride p : Nat) (v : Int) (holds : Bool) (z : State),
        ¬ (served = true ∧ r.phase = .probe) →
        r2 = (if served then { r with phase := if r.phase = .reversing then .rest else .probe, phaseTimer := none
                                      burstTimer := none } else r1) →
        w = x.wg.wheels.get r.wheel → p = (x.mfe.gearbox.get r.wheel).value → v = (s.mfe.tach.get r.wheel).speed →
        target = (match r2.phase with
          | .stopping | .rest => 0
          | .reversing => -(s.sru.settings.reverseSpeed : Int)
          | .probe => (min s.sru.settings.probeSpeed t.wg.ceiling : Nat)) →
        stride = (if r2.phase = .probe then s.wg.ramp else 100) →
        w' = { w with acc := if (10 * target - w.acc).natAbs ≤ stride then 10 * target
                             else if w.acc < 10 * target then w.acc + stride else w.acc - stride } →
        r3 = (if w'.acc ≠ 10 * target then r2
              else if r2.phase = .stopping then { r2 with phase := .reversing, phaseTimer := none, burstTimer := none }
              else { r2 with phaseTimer := some (r2.phaseTimer.getD 0) }) →
        holds = decide (200 ≤ w'.acc.natAbs ∧ s.wg.zoneStall ≤ p ∧
          ((r3.phase = .reversing ∧ v.natAbs < 10) ∨ (r3.phase = .probe ∧ v < 10))) →
        r4 = { r3 with burstTimer := if holds then some ((r3.burstTimer.map (· + 100)).getD 0) else none } →
        z = { x with wg := { x.wg with wheels := x.wg.wheels.set r.wheel w' }
                     sru := { s.sru with record := some r4 } } →
        (timeOf r4.burstTimer < 1000 → t = z) ∧
        (FeedPublished s → 1000 ≤ timeOf r4.burstTimer →
          exec (.governorUpdate pa pb) s = exec .burstStallTimerExpiry z)))

/-- O56. HEAD_PRESSURE_SAMPLE (R16, R30, R31), DEPTH_DISAGREE and DISAGREE_CLEAR (R31). Every sample gives the
pressure depth; only in COMPARING and VALID is an unsaturated one compared, equality being in band; the third out of
band in a row sets DISAGREE and raises DEPTH_DISAGREE, the third in band clears it, and each change is judged by SU, which
holds or resumes a run or a pass and keeps all else (R130, R146), and by SLU. That the two rows may be asserted on their
own, and change nothing where no comparison is made, is the model's choice (log entry 3). -/
def Obligations.CrossCheckJudged : Prop :=
  (∀ (reading : Int) (s u : State) (p : Nat), p = (max 0 (min reading 400000)).toNat →
    u = { s with mfe := { s.mfe with headPressure := { value := p, saturated := decide (400000 < reading) } }
                 dr := { s.dr with hp := p * 10000000 / (s.dr.rho * 981) + s.dr.offset } } →
    (s.dr.crossCheck = .noDensity ∨ s.dr.state ≠ .valid ∨ 400000 < reading →
      exec (.headPressureSample reading) s = .next u) ∧
    (s.dr.crossCheck = .comparing → s.dr.state = .valid → reading ≤ 400000 → ∀ gap : Nat,
      gap = ((s.dr.depth : Int) - u.dr.hp).natAbs →
      (∀ v : State, s.dr.band < gap → v = { u with dr := { u.dr with outRun := min 255 (s.dr.outRun + 1), inRun := 0 } } →
        (s.dr.disagree = true ∨ s.dr.outRun < 2 → exec (.headPressureSample reading) s = .next v) ∧
        (∀ x : State, s.dr.disagree = false → 2 ≤ s.dr.outRun →
          x = { v with dr := { v.dr with disagree := true }, eu := latchAll .depthDisagree s.eu } →
          exec (.headPressureSample reading) s = .next (steered { x with su := judgedSu (judgedSurvey x) x }))) ∧
      (∀ v : State, gap ≤ s.dr.band → v = { u with dr := { u.dr with inRun := min 255 (s.dr.inRun + 1), outRun := 0 } } →
        (s.dr.disagree = false ∨ s.dr.inRun < 2 → exec (.headPressureSample reading) s = .next v) ∧
        (∀ x : State, s.dr.disagree = true → 2 ≤ s.dr.inRun → x = { v with dr := { v.dr with disagree := false } } →
          exec (.headPressureSample reading) s = .next (steered { x with su := judgedSu (judgedSurvey x) x }))))) ∧
  (∀ s x : State, s.dr.crossCheck = .comparing → s.dr.state = .valid → s.dr.disagree = false →
    x = { s with dr := { s.dr with outRun := max 3 s.dr.outRun, inRun := 0, disagree := true }
                 eu := latchAll .depthDisagree s.eu } →
    exec .depthDisagree s = .next (steered { x with su := judgedSu (judgedSurvey x) x })) ∧
  (∀ s x : State, s.dr.crossCheck = .comparing → s.dr.state = .valid → s.dr.disagree = true →
    x = { s with dr := { s.dr with inRun := max 3 s.dr.inRun, outRun := 0, disagree := false } } →
    exec .disagreeClear s = .next (steered { x with su := judgedSu (judgedSurvey x) x })) ∧
  (∀ s : State, s.dr.crossCheck = .noDensity ∨ s.dr.state ≠ .valid →
    exec .depthDisagree s = .next s ∧ exec .disagreeClear s = .next s) ∧
  (∀ (x : State) (st : SurveyState) (u : Su), u = judgedSu st x →
    u = { x.su with state := st, segment := u.segment, liveX := u.liveX, liveY := u.liveY } ∧
    (∀ g, x.su.segment = some g → u.segment = some (if x.su.state = .accumulating ∧ st = .holding
      then { g with flags := { g.flags with held := true } } else g)) ∧
    (x.su.segment = none → u.segment = none))

/-- O57. The wheels leave and rejoin the normal law. STALL_TIMER_EXPIRY (R59, R74): the wheel is RECOVERING, its
partner STANDBY, STALL is raised and the record starts at STOPPING, burst 1. TACH_FAULT (R61): the wheel is in
TACH_FAULT with its reference at 0, a partner in the normal law stands aside. PHASE_TIMER_EXPIRY (R75, R82): the next
phase, or after PROBE both wheels RUNNING under their normal targets with RECOVERED raised. BURST_STALL_TIMER_EXPIRY
(R81): the next burst from STOPPING, or after the last one the wheel JAMMED with JAMMED raised. The creation and the
clearing of the record are judged by SU (R130) and SLU, and a head that the recovery held leaves the queue
(`releaseRecovery`). That an expiry out of place changes nothing is log entry 3, the order of the release log entry 10,
that a partner's negative reference is set to 0 log entry 14: the model's choices. -/
def Obligations.RecoveryEvents : Prop :=
  (∀ (w : Wheel) (s : State) (v o : WheelRec), v = s.wg.wheels.get w → o = s.wg.wheels.get (other w) →
    (v.state ≠ .running ∨ v.stallTimer = none ∨ s.sru.record.isSome = true →
      exec (.stallTimerExpiry w) s = .next s) ∧
    (v.state = .running → v.stallTimer.isSome = true → s.sru.record = none → ∃ t,
      exec (.stallTimerExpiry w) s = .next t ∧
      t = { s with wg := { s.wg with wheels := t.wg.wheels }, su := t.su, slu := t.slu, psv := t.psv
                   sru := { s.sru with record := some { wheel := w, phase := .stopping, burst := 1, phaseTimer := none
                                                        burstTimer := none } }
                   rc := { s.rc with feedLimit := feedNow t }, eu := latchAll .stall s.eu } ∧
      t.wg.wheels.get w = { state := .recovering, target := 0, acc := v.acc, torqueHold := false, stallTimer := none
                            zeroGates := 0 } ∧
      t.wg.wheels.get (other w) = { state := .standby, target := 0, acc := if o.acc ≤ -10 then 0 else o.acc
                                    torqueHold := false, stallTimer := none, zeroGates := 0 } ∧
      t.slu = steeredSlu { t with slu := s.slu } ∧ t.psv = handedPlates s.slu.commands t.slu.commands s.psv ∧
      (∀ y, y = { t with su := s.su } → t.su = judgedSu (judgedRun y) y) ∧
      (s.su.state = .accumulating → t.su.state = .holding) ∧ (s.su.state ≠ .accumulating → t.su.state = s.su.state)) ∧
    (v.state ≠ .running → exec (.tachFault w) s = .next s) ∧
    (v.state = .running → ∃ t, exec (.tachFault w) s = .next t ∧
      t = { s with wg := { s.wg with wheels := t.wg.wheels }, rc := { s.rc with feedLimit := feedNow t }
                   eu := latchAll .tachFault s.eu } ∧
      t.wg.wheels.get w = { state := .tachFault, target := 0, acc := 0, torqueHold := false, stallTimer := none
                            zeroGates := 0 } ∧
      t.wg.wheels.get (other w) =
        if o.state = .stopped ∨ o.state = .running
        then { state := .standby, target := 0, acc := o.acc, torqueHold := false, stallTimer := none, zeroGates := 0 }
        else { o with torqueHold := false })) ∧
  (∀ s : State, (s.sru.record = none → exec .phaseTimerExpiry s = .next s ∧ exec .burstStallTimerExpiry s = .next s) ∧
    (∀ r, s.sru.record = some r →
      (r.phaseTimer = none → exec .phaseTimerExpiry s = .next s) ∧
      (∀ r', r.phaseTimer.isSome = true → r.phase ≠ .probe →
        r' = { r with phase := (if r.phase = .stopping then .reversing else if r.phase = .reversing then .rest
                                else .probe), phaseTimer := none, burstTimer := none } →
        exec .phaseTimerExpiry s = .next { s with sru := { s.sru with record := some r' } }) ∧
      (r.phaseTimer.isSome = true → r.phase = .probe → ∃ u v,
        exec .phaseTimerExpiry s = .next
          { v with sru := { v.sru with lastEnd := .recovered, lastWheel := r.wheel, lastBurst := r.burst }
                   eu := latchAll .recovered v.eu } ∧
        v = releaseRecovery u ∧
        u = { s with wg := { s.wg with wheels := u.wg.wheels }, su := u.su, slu := u.slu, psv := u.psv
                     sru := { s.sru with record := none }, rc := { s.rc with feedLimit := feedNow u } } ∧
        (∀ w, u.wg.wheels.get w = { state := .running, target := normalTarget w s.wg.ceiling s.wg.sEff s.wg.trim
                                    acc := if (s.wg.wheels.get w).acc ≤ -10 then 0 else (s.wg.wheels.get w).acc
                                    torqueHold := false, stallTimer := none, zeroGates := 0 }) ∧
        (∀ y, y = { u with su := s.su } → u.su = judgedSu (judgedRun y) y) ∧
        u.slu = steeredSlu { u with slu := s.slu } ∧ u.psv = handedPlates s.slu.commands u.slu.commands s.psv) ∧
      (r.burstTimer = none → exec .burstStallTimerExpiry s = .next s) ∧
      (∀ r', r.burstTimer.isSome = true → r.burst < s.sru.settings.bursts →
        r' = { r with burst := r.burst + 1, phase := .stopping, phaseTimer := none, burstTimer := none } →
        exec .burstStallTimerExpiry s = .next { s with sru := { s.sru with record := some r' } }) ∧
      (r.burstTimer.isSome = true → s.sru.settings.bursts ≤ r.burst → ∃ u v,
        exec .burstStallTimerExpiry s = .next
          { v with sru := { v.sru with lastEnd := .jammed, lastWheel := r.wheel, lastBurst := r.burst }
                   eu := latchAll .jammed v.eu } ∧
        v = releaseRecovery u ∧
        u = { s with wg := { s.wg with wheels := u.wg.wheels }, su := u.su, slu := u.slu, psv := u.psv
                     sru := { s.sru with record := none }, rc := { s.rc with feedLimit := feedNow u } } ∧
        u.wg.wheels.get r.wheel = { state := .jammed, target := 0, acc := 0, torqueHold := false, stallTimer := none
                                    zeroGates := 0 } ∧
        u.wg.wheels.get (other r.wheel) = s.wg.wheels.get (other r.wheel) ∧
        (∀ y, y = { u with su := s.su } → u.su = judgedSu (judgedRun y) y) ∧
        u.slu = steeredSlu { u with slu := s.slu } ∧ u.psv = handedPlates s.slu.commands u.slu.commands s.psv))) ∧
  (∀ u : State,
    (u.pi.ports.cabin.hold = none ∨ u.pi.ports.cabin.queue = [] → releaseRecovery u = u) ∧
    (∀ e es, u.pi.ports.cabin.hold.isSome = true → u.pi.ports.cabin.queue = e :: es →
      releaseRecovery u = if e.request.kind = .setWheelDemand ∨ e.request.kind = .setRamp ∨ e.request.kind = .setRecovery
                          then drainList .cabin (e :: es) u else u)) ∧
  (∀ (s : State) (r : Recovery) (x : Entry), s.sru.record = some r → s.pi.ports.cabin.hold.isSome = true →
    s.pi.ports.cabin.queue = [x] → heldForRecovery x.request = true →
    (r.phaseTimer.isSome = true → r.phase = .probe → ∃ t, exec .phaseTimerExpiry s = .next t ∧
      t.sru.record = none ∧ t.pi.ports.cabin.queue = [] ∧ t.pi.ports.cabin.hold = none) ∧
    (r.burstTimer.isSome = true → s.sru.settings.bursts ≤ r.burst → ∃ t, exec .burstStallTimerExpiry s = .next t ∧
      t.sru.record = none ∧ t.pi.ports.cabin.queue = [] ∧ t.pi.ports.cabin.hold = none))

/-- O58. PLATE_SAMPLE (R105 to R107), SETTLE_TIMER_EXPIRY (R107) and MOVE_TIMER_EXPIRY (R108, R110). Each plate takes
its reading as clamped; SETTLED it begins a move when the command lies outside the band of 2, MOVING it runs the
settle timer inside the band and ends SETTLED at 300 ms, STUCK it only reads. The settle expiry ends the move SETTLED;
the move expiry ends it STUCK where it stands and raises PLATE_STUCK. The end of a move releases the head it held.
That an expiry out of place changes nothing, and the order of ends at one sample, are the model's choice (log entries
3 and 15). -/
def Obligations.PlateEvents : Prop :=
  (∀ (n1 n2 s1 s2 : Int) (s : State), s.pi.ports.cabin.hold = none → ∃ t,
    exec (.plateSample n1 n2 s1 s2) s = .next t ∧ t = { s with psv := t.psv } ∧
    ∀ (q : PlateId) (v : Int) (p : Plate) (e : Nat),
      v = (match q with | .n1 => n1 | .n2 => n2 | .s1 => s1 | .s2 => s2) → p = s.psv.get q →
      e = (max 0 (min v 100)).toNat → ∀ (x : Reading) (out : Bool), x = { value := e, saturated := decide (v < 0 ∨ 100 < v) } →
      out = decide (2 < ((p.command : Int) - e).natAbs) →
      (p.move = .settled → t.psv.get q =
        if out then { p with extension := x, move := .moving, moveTimer := some 8000, settleTimer := none }
        else { p with extension := x }) ∧
      (p.move = .moving → t.psv.get q =
        if out then { p with extension := x, settleTimer := none }
        else if p.settleTimer = none then { p with extension := x, settleTimer := some 0 }
        else if 200 ≤ timeOf p.settleTimer
        then { p with extension := x, move := .settled, moveTimer := none, settleTimer := none }
        else { p with extension := x, settleTimer := p.settleTimer.map (· + 100) }) ∧
      (p.move = .stuck → t.psv.get q = { p with extension := x })) ∧
  (∀ (q : PlateId) (s : State) (p : Plate), p = s.psv.get q →
    (p.move ≠ .moving ∨ p.settleTimer = none → exec (.settleTimerExpiry q) s = .next s) ∧
    (p.move = .moving → p.settleTimer.isSome = true → s.pi.ports.cabin.hold = none →
      exec (.settleTimerExpiry q) s = .next
        { s with psv := s.psv.set q { p with move := .settled, moveTimer := none, settleTimer := none } }) ∧
    (p.move ≠ .moving → exec (.moveTimerExpiry q) s = .next s) ∧
    (p.move = .moving → s.pi.ports.cabin.hold = none → ∀ v,
      v = { p with move := .stuck, command := p.extension.value, moveTimer := none, settleTimer := none } →
      exec (.moveTimerExpiry q) s = .next { s with psv := s.psv.set q v, eu := latchAll .plateStuck s.eu })) ∧
  (∀ (q : PlateId) (s : State) (plate v : Nat) (tag : Byte), plateNamed plate = some q →
    s.pi.ports.cabin.queue = [{ request := .setPlate plate v, tag := tag }] → s.pi.ports.cabin.hold.isSome = true →
    (s.psv.get q).move = .moving →
    (∃ t, exec (.moveTimerExpiry q) s = .next t ∧ t.pi.ports.cabin.queue = [] ∧ t.pi.ports.cabin.hold = none) ∧
    ((s.psv.get q).settleTimer.isSome = true → ∃ t, exec (.settleTimerExpiry q) s = .next t ∧
      t.pi.ports.cabin.queue = [] ∧ t.pi.ports.cabin.hold = none))

/-- O59. The return's own events: PRIMING_TIMER_EXPIRY (R165) and STARVATION_COUNT_EXPIRY (R166) starve the return;
PLANT_READY_FALL (R168) holds it and arms the detector; PLANT_READY_RISE (R164, R169) starts a return that waits, and
takes a return out of its hold when the line has been low for at least 2,000 ms since the fall. A rise of a high line
and a fall of a low one are none. That an event out of place changes nothing, and how the low time is carried, are the
model's choice (log entries 3, 4 and 21). -/
def Obligations.ReturnEvents : Prop :=
  (∀ s : State, (s.rc.state ≠ .priming → exec .primingTimerExpiry s = .next s) ∧
    (s.rc.state ≠ .pumping → exec .starvationCountExpiry s = .next s) ∧
    (s.rc.state = .priming ∨ s.rc.state = .pumping → ∃ t,
      exec (if s.rc.state = .priming then .primingTimerExpiry else .starvationCountExpiry) s = .next t ∧
      t = { s with rc := { s.rc with state := .starved, primingTimer := none, starvation := 0, pump := s.rc.qEff
                                     feedLimit := feedNow t }
                   wg := { s.wg with fallbackFlag := fallbackNow t }
                   eu := latchAll .starved s.eu })) ∧
  (∀ s : State, (s.rc.ready = false → exec .plantReadyFall s = .next s) ∧
    (s.rc.ready = true → ∃ t, exec .plantReadyFall s = .next t ∧
      (s.rc.state = .priming ∨ s.rc.state = .pumping ∨ s.rc.state = .starved →
        t = { s with rc := { s.rc with ready := false, state := .plantHold, primingTimer := none, starvation := 0
                                       armed := true, lowFor := 0, pump := 0, feedLimit := feedNow t }
                     wg := { s.wg with fallbackFlag := fallbackNow t }
                     eu := latchAll .plantHold s.eu }) ∧
      (s.rc.state = .plantHold → t = { s with rc := { s.rc with ready := false, lowFor := 0 } }) ∧
      (s.rc.state = .off ∨ s.rc.state = .waitingPlant → t = { s with rc := { s.rc with ready := false } }))) ∧
  (∀ (low : Nat) (s : State), (s.rc.ready = true → exec (.plantReadyRise low) s = .next s) ∧
    (s.rc.ready = false → ∃ t, exec (.plantReadyRise low) s = .next t ∧
      ((s.rc.state = .waitingPlant ∨ (s.rc.state = .plantHold ∧ 2000 ≤ s.rc.lowFor + low)) → 0 < s.rc.qp →
        t = { s with rc := { s.rc with
          ready := true, state := .priming, primingTimer := some s.rc.transport.primingTime, starvation := 0
          pump := s.rc.qEff, armed := if s.rc.state = .plantHold then false else s.rc.armed, feedLimit := feedNow t }
                     wg := { s.wg with fallbackFlag := fallbackNow t } }) ∧
      (s.rc.state = .plantHold → 2000 ≤ s.rc.lowFor + low → s.rc.qp = 0 →
        t = { s with rc := { s.rc with ready := true, state := .waitingPlant, pump := 0, armed := false
                                       feedLimit := feedNow t }
                     wg := { s.wg with fallbackFlag := fallbackNow t } }) ∧
      (((s.rc.state ≠ .waitingPlant ∧ s.rc.state ≠ .plantHold) ∨ (s.rc.state = .waitingPlant ∧ s.rc.qp = 0) ∨
          (s.rc.state = .plantHold ∧ s.rc.lowFor + low < 2000)) →
        t = { s with rc := { s.rc with ready := true } })))

/-- O60. The timers of the links, the start-up and the mark. SILENCE_TIMER_EXPIRY (R189, R25, R29, R66, R121): an
ACTIVE port is LOST, its queue discarded LINK_LOST, PORT_LOST latched at the two other ports; the loss of the cabin
halts the wheels, of the plant ends the cross-check, of the hoist makes a VALID depth STALE, of the claimant leaves
the survey unowned. START_UP_TIMER_EXPIRY (R190) ends STARTING; WIDTH_TIMER_EXPIRY (R199) ends the mark. That an
expiry out of place changes nothing, and the order of the blocks at a loss, are the model's choice (log entries 3 and
16). -/
def Obligations.LinkTimers : Prop :=
  (∀ (p : Port) (s : State), (s.port p).link ≠ .active → exec (.silenceTimerExpiry p) s = .next s) ∧
  (∀ (p : Port) (s : State), (s.port p).link = .active → ∃ t, exec (.silenceTimerExpiry p) s = .next t ∧
    t.mfe = s.mfe ∧ t.zt.entries = s.zt.entries ∧ t.pi.hub = s.pi.hub ∧ (∀ p', p' ≠ p → t.port p' = s.port p') ∧
    t.port p = { s.port p with
      link := .lost, silence := none, queue := [], hold := none
      refused := min 255 ((s.port p).refused + (s.port p).queue.length)
      rejection := match (s.port p).queue.getLast? with
        | some x => some { kind := x.request.kind, tag := x.tag, code := .linkLost }
        | none => (s.port p).rejection } ∧
    (∀ p', p' ≠ p → ((t.eu.ports.get p').latched &&& 0x20000#32) ≠ 0) ∧
    ((s.port p).queue ≠ [] → ((t.eu.ports.get p).latched &&& 0x10000#32) ≠ 0) ∧
    (s.su.claimant = some p → t.su.claimant = none ∧ (s.su.state.running = false → t.su.state = .idle) ∧
      t.su.records = s.su.records) ∧
    (s.su.claimant ≠ some p → t.su.claimant = s.su.claimant) ∧
    (p = .cabin → t.dr = s.dr ∧ t.zt = s.zt ∧ t.rc = { s.rc with feedLimit := 0 } ∧ t.sru.record = none ∧
      (s.sru.record.isSome = true → t.sru.lastEnd = .aborted) ∧
      ∀ w v, v = s.wg.wheels.get w → t.wg.wheels.get w =
        if v.state = .halting ∨ v.state = .halted then v
        else if v.acc < 10 then { state := .halted, target := 0, acc := 0, torqueHold := false, stallTimer := none
                                  zeroGates := 0 }
        else { state := .halting, target := 0, acc := v.acc, torqueHold := false, stallTimer := none, zeroGates := 0 }) ∧
    (p = .plant → t.wg = s.wg ∧ t.rc = s.rc ∧ t.sru = s.sru ∧
      t.dr = { s.dr with crossCheck := .noDensity, disagree := false, outRun := 0, inRun := 0 } ∧
      t.slu = (if s.dr.disagree = true then steeredSlu { t with slu := s.slu } else s.slu)) ∧
    (p = .hoist → t.sru = s.sru ∧ t.wg.wheels = s.wg.wheels ∧
      (s.dr.state ≠ .valid → t.dr = s.dr ∧ t.rc = s.rc) ∧
      (s.dr.state = .valid → t.dr = { s.dr with state := .stale, outRun := 0, inRun := 0 } ∧ t.rc.feedLimit = 0 ∧
        (ZonesLegal s → s.zt.selectionDepth = s.dr.depth → t.zt = s.zt) ∧ t.slu.actual = .off ∧
        (s.su.state = .accumulating → t.su.state = .holding)))) ∧
  (∀ s : State, (s.pi.hub = .starting →
      exec .startUpTimerExpiry s = .next { s with pi := { s.pi with hub := .ready, startUpLeft := 0 } }) ∧
    (s.pi.hub = .ready → exec .startUpTimerExpiry s = .next s) ∧
    exec .widthTimerExpiry s = .next { s with eu := { s.eu with mark := none } })
end

