-- ==== Sys2Proof/Laws/State.lean ====
section
/-! SUPPORT. The small lemmas of State and of its parts: one lemma per field per update, true by rfl, so that no later
proof unfolds a record update. -/

namespace Sys2Proof.Machine

/-! ## A value for each port, wheel or plate -/

@[simp] theorem PerPort.get_set_same {α : Type} (t : PerPort α) (p : Port) (v : α) : (t.set p v).get p = v := by
  cases p <;> rfl

@[simp] theorem PerPort.get_set_ne {α : Type} (t : PerPort α) {p q : Port} (v : α) (h : q ≠ p) :
    (t.set p v).get q = t.get q := by
  cases p <;> cases q <;> first | rfl | exact absurd rfl h

@[simp] theorem PerPort.set_get {α : Type} (t : PerPort α) (p : Port) : t.set p (t.get p) = t := by
  cases p <;> rfl

@[simp] theorem PerPort.set_set {α : Type} (t : PerPort α) (p : Port) (v w : α) : (t.set p v).set p w = t.set p w := by
  cases p <;> rfl

@[simp] theorem PerWheel.get_set_same {α : Type} (t : PerWheel α) (w : Wheel) (v : α) : (t.set w v).get w = v := by
  cases w <;> rfl

@[simp] theorem PerWheel.get_set_other {α : Type} (t : PerWheel α) (w : Wheel) (v : α) :
    (t.set w v).get (other w) = t.get (other w) := by
  cases w <;> rfl

@[simp] theorem PerWheel.set_get {α : Type} (t : PerWheel α) (w : Wheel) : t.set w (t.get w) = t := by
  cases w <;> rfl

@[simp] theorem other_other (w : Wheel) : other (other w) = w := by cases w <;> rfl

@[simp] theorem PerPlate.get_set_same {α : Type} (t : PerPlate α) (q : PlateId) (v : α) : (t.set q v).get q = v := by
  cases q <;> rfl

@[simp] theorem PerPlate.get_set_ne {α : Type} (t : PerPlate α) {p q : PlateId} (v : α) (h : q ≠ p) :
    (t.set p v).get q = t.get q := by
  cases p <;> cases q <;> first | rfl | exact absurd rfl h

@[simp] theorem PerPlate.set_get {α : Type} (t : PerPlate α) (q : PlateId) : t.set q (t.get q) = t := by
  cases q <;> rfl

/-! ## A port's record replaced -/

@[simp] theorem State.port_setPort_same (p : Port) (q : PortRec) (s : State) : (s.setPort p q).port p = q := by
  cases p <;> rfl

@[simp] theorem State.port_setPort_ne {p p' : Port} (q : PortRec) (s : State) (h : p' ≠ p) :
    (s.setPort p q).port p' = s.port p' := by
  cases p <;> cases p' <;> first | rfl | exact absurd rfl h

@[simp] theorem State.setPort_port (p : Port) (s : State) : s.setPort p (s.port p) = s := by
  cases p <;> rfl

@[simp] theorem State.setPort_setPort (p : Port) (q r : PortRec) (s : State) :
    (s.setPort p q).setPort p r = s.setPort p r := by
  cases p <;> rfl

/-! ## What each update of one block keeps -/

@[simp] theorem State.setPort_keeps (p : Port) (q : PortRec) (s : State) :
    (s.setPort p q).mfe = s.mfe ∧ (s.setPort p q).dr = s.dr ∧ (s.setPort p q).zt = s.zt ∧
    (s.setPort p q).wg = s.wg ∧ (s.setPort p q).sru = s.sru ∧ (s.setPort p q).slu = s.slu ∧
    (s.setPort p q).psv = s.psv ∧ (s.setPort p q).su = s.su ∧ (s.setPort p q).rc = s.rc ∧
    (s.setPort p q).eu = s.eu ∧ (s.setPort p q).pending = s.pending ∧ (s.setPort p q).free = s.free :=
  ⟨rfl, rfl, rfl, rfl, rfl, rfl, rfl, rfl, rfl, rfl, rfl, rfl⟩

@[simp] theorem State.setSu_keeps (u : Su) (s : State) :
    (s.setSu u).mfe = s.mfe ∧ (s.setSu u).dr = s.dr ∧ (s.setSu u).zt = s.zt ∧ (s.setSu u).wg = s.wg ∧
    (s.setSu u).sru = s.sru ∧ (s.setSu u).slu = s.slu ∧ (s.setSu u).psv = s.psv ∧ (s.setSu u).rc = s.rc ∧
    (s.setSu u).pi = s.pi ∧ (s.setSu u).eu = s.eu ∧ (s.setSu u).pending = s.pending ∧ (s.setSu u).free = s.free :=
  ⟨rfl, rfl, rfl, rfl, rfl, rfl, rfl, rfl, rfl, rfl, rfl, rfl⟩

@[simp] theorem State.setWheel_keeps (w : Wheel) (v : WheelRec) (s : State) :
    (s.setWheel w v).mfe = s.mfe ∧ (s.setWheel w v).dr = s.dr ∧ (s.setWheel w v).zt = s.zt ∧
    (s.setWheel w v).sru = s.sru ∧ (s.setWheel w v).slu = s.slu ∧ (s.setWheel w v).psv = s.psv ∧
    (s.setWheel w v).su = s.su ∧ (s.setWheel w v).rc = s.rc ∧ (s.setWheel w v).pi = s.pi ∧
    (s.setWheel w v).eu = s.eu ∧ (s.setWheel w v).pending = s.pending ∧ (s.setWheel w v).free = s.free :=
  ⟨rfl, rfl, rfl, rfl, rfl, rfl, rfl, rfl, rfl, rfl, rfl, rfl⟩

@[simp] theorem State.setRecord_keeps (r : Option Recovery) (s : State) :
    (s.setRecord r).mfe = s.mfe ∧ (s.setRecord r).dr = s.dr ∧ (s.setRecord r).zt = s.zt ∧
    (s.setRecord r).wg = s.wg ∧ (s.setRecord r).slu = s.slu ∧ (s.setRecord r).psv = s.psv ∧
    (s.setRecord r).su = s.su ∧ (s.setRecord r).rc = s.rc ∧ (s.setRecord r).pi = s.pi ∧
    (s.setRecord r).eu = s.eu ∧ (s.setRecord r).pending = s.pending ∧ (s.setRecord r).free = s.free :=
  ⟨rfl, rfl, rfl, rfl, rfl, rfl, rfl, rfl, rfl, rfl, rfl, rfl⟩

@[simp] theorem State.setEu_keeps (p : Port) (e : EuPort) (s : State) :
    (s.setEu p e).mfe = s.mfe ∧ (s.setEu p e).dr = s.dr ∧ (s.setEu p e).zt = s.zt ∧ (s.setEu p e).wg = s.wg ∧
    (s.setEu p e).sru = s.sru ∧ (s.setEu p e).slu = s.slu ∧ (s.setEu p e).psv = s.psv ∧
    (s.setEu p e).su = s.su ∧ (s.setEu p e).rc = s.rc ∧ (s.setEu p e).pi = s.pi ∧
    (s.setEu p e).pending = s.pending ∧ (s.setEu p e).free = s.free :=
  ⟨rfl, rfl, rfl, rfl, rfl, rfl, rfl, rfl, rfl, rfl, rfl, rfl⟩

@[simp] theorem setOutcome_keeps (how : RecoveryEnd) (r : Recovery) (s : State) :
    (setOutcome how r s).mfe = s.mfe ∧ (setOutcome how r s).dr = s.dr ∧ (setOutcome how r s).zt = s.zt ∧
    (setOutcome how r s).wg = s.wg ∧ (setOutcome how r s).slu = s.slu ∧ (setOutcome how r s).psv = s.psv ∧
    (setOutcome how r s).su = s.su ∧ (setOutcome how r s).rc = s.rc ∧ (setOutcome how r s).pi = s.pi ∧
    (setOutcome how r s).eu = s.eu ∧ (setOutcome how r s).pending = s.pending ∧
    (setOutcome how r s).free = s.free :=
  ⟨rfl, rfl, rfl, rfl, rfl, rfl, rfl, rfl, rfl, rfl, rfl, rfl⟩

@[simp] theorem raise_keeps (e : Event) (s : State) :
    (raise e s).mfe = s.mfe ∧ (raise e s).dr = s.dr ∧ (raise e s).zt = s.zt ∧ (raise e s).wg = s.wg ∧
    (raise e s).sru = s.sru ∧ (raise e s).slu = s.slu ∧ (raise e s).psv = s.psv ∧ (raise e s).su = s.su ∧
    (raise e s).rc = s.rc ∧ (raise e s).pi = s.pi ∧ (raise e s).pending = s.pending ∧ (raise e s).free = s.free :=
  ⟨rfl, rfl, rfl, rfl, rfl, rfl, rfl, rfl, rfl, rfl, rfl, rfl⟩

@[simp] theorem raiseRefused_keeps (p : Port) (s : State) :
    (raiseRefused p s).mfe = s.mfe ∧ (raiseRefused p s).dr = s.dr ∧ (raiseRefused p s).zt = s.zt ∧
    (raiseRefused p s).wg = s.wg ∧ (raiseRefused p s).sru = s.sru ∧ (raiseRefused p s).slu = s.slu ∧
    (raiseRefused p s).psv = s.psv ∧ (raiseRefused p s).su = s.su ∧ (raiseRefused p s).rc = s.rc ∧
    (raiseRefused p s).pi = s.pi ∧ (raiseRefused p s).pending = s.pending ∧ (raiseRefused p s).free = s.free :=
  ⟨rfl, rfl, rfl, rfl, rfl, rfl, rfl, rfl, rfl, rfl, rfl, rfl⟩

@[simp] theorem sendReply_keeps (p : Port) (kind tag : Byte) (st : Status) (d : List Byte) (s : State) :
    (sendReply p kind tag st d s).mfe = s.mfe ∧ (sendReply p kind tag st d s).dr = s.dr ∧
    (sendReply p kind tag st d s).zt = s.zt ∧ (sendReply p kind tag st d s).wg = s.wg ∧
    (sendReply p kind tag st d s).sru = s.sru ∧ (sendReply p kind tag st d s).slu = s.slu ∧
    (sendReply p kind tag st d s).psv = s.psv ∧ (sendReply p kind tag st d s).su = s.su ∧
    (sendReply p kind tag st d s).rc = s.rc ∧ (sendReply p kind tag st d s).eu = s.eu ∧
    (sendReply p kind tag st d s).pending = s.pending ∧ (sendReply p kind tag st d s).free = s.free :=
  ⟨rfl, rfl, rfl, rfl, rfl, rfl, rfl, rfl, rfl, rfl, rfl, rfl⟩

@[simp] theorem reply_keeps (k : Kind) (p : Port) (tag : Byte) (st : Status) (d : List Byte) (s : State) :
    (reply k p tag st d s).mfe = s.mfe ∧ (reply k p tag st d s).dr = s.dr ∧ (reply k p tag st d s).zt = s.zt ∧
    (reply k p tag st d s).wg = s.wg ∧ (reply k p tag st d s).sru = s.sru ∧ (reply k p tag st d s).slu = s.slu ∧
    (reply k p tag st d s).psv = s.psv ∧ (reply k p tag st d s).su = s.su ∧ (reply k p tag st d s).rc = s.rc ∧
    (reply k p tag st d s).eu = s.eu ∧ (reply k p tag st d s).pending = s.pending ∧
    (reply k p tag st d s).free = s.free :=
  ⟨rfl, rfl, rfl, rfl, rfl, rfl, rfl, rfl, rfl, rfl, rfl, rfl⟩

@[simp] theorem setQueue_keeps (p : Port) (es : List Entry) (h : Option Nat) (s : State) :
    (setQueue p es h s).mfe = s.mfe ∧ (setQueue p es h s).dr = s.dr ∧ (setQueue p es h s).zt = s.zt ∧
    (setQueue p es h s).wg = s.wg ∧ (setQueue p es h s).sru = s.sru ∧ (setQueue p es h s).slu = s.slu ∧
    (setQueue p es h s).psv = s.psv ∧ (setQueue p es h s).su = s.su ∧ (setQueue p es h s).rc = s.rc ∧
    (setQueue p es h s).eu = s.eu ∧ (setQueue p es h s).pending = s.pending ∧ (setQueue p es h s).free = s.free :=
  ⟨rfl, rfl, rfl, rfl, rfl, rfl, rfl, rfl, rfl, rfl, rfl, rfl⟩

@[simp] theorem recomputeFeed_keeps  (s : State) :
    (recomputeFeed s).mfe = s.mfe ∧ (recomputeFeed s).dr = s.dr ∧ (recomputeFeed s).zt = s.zt ∧
    (recomputeFeed s).wg = s.wg ∧ (recomputeFeed s).sru = s.sru ∧ (recomputeFeed s).slu = s.slu ∧
    (recomputeFeed s).psv = s.psv ∧ (recomputeFeed s).su = s.su ∧ (recomputeFeed s).pi = s.pi ∧
    (recomputeFeed s).eu = s.eu ∧ (recomputeFeed s).pending = s.pending ∧ (recomputeFeed s).free = s.free :=
  ⟨rfl, rfl, rfl, rfl, rfl, rfl, rfl, rfl, rfl, rfl, rfl, rfl⟩

@[simp] theorem useFree_keeps (n : Nat) (s : State) :
    (useFree n s).mfe = s.mfe ∧ (useFree n s).dr = s.dr ∧ (useFree n s).zt = s.zt ∧ (useFree n s).wg = s.wg ∧
    (useFree n s).sru = s.sru ∧ (useFree n s).slu = s.slu ∧ (useFree n s).psv = s.psv ∧
    (useFree n s).su = s.su ∧ (useFree n s).rc = s.rc ∧ (useFree n s).pi = s.pi ∧ (useFree n s).eu = s.eu ∧
    (useFree n s).pending = s.pending :=
  ⟨rfl, rfl, rfl, rfl, rfl, rfl, rfl, rfl, rfl, rfl, rfl, rfl⟩

@[simp] theorem State.setSu_su (u : Su) (s : State) : (s.setSu u).su = u := rfl

@[simp] theorem State.setWheel_wheels (w : Wheel) (v : WheelRec) (s : State) :
    (s.setWheel w v).wg.wheels = s.wg.wheels.set w v := rfl

@[simp] theorem State.setRecord_record (r : Option Recovery) (s : State) : (s.setRecord r).sru.record = r := rfl

@[simp] theorem State.setPort_hub (p : Port) (q : PortRec) (s : State) : (s.setPort p q).pi.hub = s.pi.hub := rfl

@[simp] theorem raisePortLost_keeps (p : Port) (s : State) :
    (raisePortLost p s).mfe = s.mfe ∧ (raisePortLost p s).dr = s.dr ∧ (raisePortLost p s).zt = s.zt ∧
    (raisePortLost p s).wg = s.wg ∧ (raisePortLost p s).sru = s.sru ∧ (raisePortLost p s).slu = s.slu ∧
    (raisePortLost p s).psv = s.psv ∧ (raisePortLost p s).su = s.su ∧ (raisePortLost p s).rc = s.rc ∧
    (raisePortLost p s).pi = s.pi ∧ (raisePortLost p s).pending = s.pending ∧
    (raisePortLost p s).free = s.free := by
  cases p <;> simp [raisePortLost]

end Sys2Proof.Machine
end

