-- ==== Sys2Proof/Laws/Frames.lean ====
section
/-! SUPPORT. What each shared operation leaves as it was: one lemma per operation, a conjunction over the blocks that it
does not touch, so that no later proof unfolds the operation to see its frame. -/

namespace Sys2Proof.Machine

/-! ## Return Controller -/

@[simp] theorem rejudgeShort_keeps (s : State) :
    (rejudgeShort s).mfe = s.mfe ∧ (rejudgeShort s).dr = s.dr ∧ (rejudgeShort s).zt = s.zt ∧
    (rejudgeShort s).wg = s.wg ∧ (rejudgeShort s).sru = s.sru ∧ (rejudgeShort s).slu = s.slu ∧
    (rejudgeShort s).psv = s.psv ∧ (rejudgeShort s).su = s.su ∧ (rejudgeShort s).pi = s.pi ∧
    (rejudgeShort s).pending = s.pending ∧ (rejudgeShort s).free = s.free := by
  unfold rejudgeShort; split <;> simp

@[simp] theorem recomputeFloor_keeps (s : State) :
    (recomputeFloor s).mfe = s.mfe ∧ (recomputeFloor s).dr = s.dr ∧ (recomputeFloor s).zt = s.zt ∧
    (recomputeFloor s).wg = s.wg ∧ (recomputeFloor s).sru = s.sru ∧ (recomputeFloor s).slu = s.slu ∧
    (recomputeFloor s).psv = s.psv ∧ (recomputeFloor s).su = s.su ∧ (recomputeFloor s).pi = s.pi ∧
    (recomputeFloor s).pending = s.pending ∧ (recomputeFloor s).free = s.free := by
  unfold recomputeFloor; simp

@[simp] theorem judgeFallback_keeps (s : State) :
    (judgeFallback s).mfe = s.mfe ∧ (judgeFallback s).dr = s.dr ∧ (judgeFallback s).zt = s.zt ∧
    (judgeFallback s).sru = s.sru ∧ (judgeFallback s).slu = s.slu ∧ (judgeFallback s).psv = s.psv ∧
    (judgeFallback s).su = s.su ∧ (judgeFallback s).rc = s.rc ∧ (judgeFallback s).pi = s.pi ∧
    (judgeFallback s).eu = s.eu ∧ (judgeFallback s).pending = s.pending ∧ (judgeFallback s).free = s.free ∧
    (judgeFallback s).wg.wheels = s.wg.wheels ∧ (judgeFallback s).wg.demand = s.wg.demand ∧
    (judgeFallback s).wg.ramp = s.wg.ramp ∧ (judgeFallback s).wg.fallback = s.wg.fallback ∧
    (judgeFallback s).wg.ceiling = s.wg.ceiling ∧ (judgeFallback s).wg.sEff = s.wg.sEff ∧
    (judgeFallback s).wg.trim = s.wg.trim ∧ (judgeFallback s).wg.zoneCeiling = s.wg.zoneCeiling ∧
    (judgeFallback s).wg.zoneHold = s.wg.zoneHold ∧ (judgeFallback s).wg.zoneStall = s.wg.zoneStall := by
  simp [judgeFallback]

@[simp] theorem changeReturn_keeps (st : ReturnState) (s : State) :
    (changeReturn st s).mfe = s.mfe ∧ (changeReturn st s).dr = s.dr ∧ (changeReturn st s).zt = s.zt ∧
    (changeReturn st s).wg.wheels = s.wg.wheels ∧ (changeReturn st s).wg.demand = s.wg.demand ∧
    (changeReturn st s).wg.ramp = s.wg.ramp ∧ (changeReturn st s).wg.fallback = s.wg.fallback ∧
    (changeReturn st s).wg.ceiling = s.wg.ceiling ∧ (changeReturn st s).wg.sEff = s.wg.sEff ∧
    (changeReturn st s).wg.trim = s.wg.trim ∧ (changeReturn st s).wg.zoneCeiling = s.wg.zoneCeiling ∧
    (changeReturn st s).wg.zoneHold = s.wg.zoneHold ∧ (changeReturn st s).wg.zoneStall = s.wg.zoneStall ∧
    (changeReturn st s).sru = s.sru ∧ (changeReturn st s).slu = s.slu ∧ (changeReturn st s).psv = s.psv ∧
    (changeReturn st s).su = s.su ∧ (changeReturn st s).pi = s.pi ∧ (changeReturn st s).pending = s.pending ∧
    (changeReturn st s).free = s.free := by
  unfold changeReturn; split <;> simp

@[simp] theorem startPriming_keeps (s : State) :
    (startPriming s).mfe = s.mfe ∧ (startPriming s).dr = s.dr ∧ (startPriming s).zt = s.zt ∧
    (startPriming s).wg.wheels = s.wg.wheels ∧ (startPriming s).wg.demand = s.wg.demand ∧
    (startPriming s).wg.ramp = s.wg.ramp ∧ (startPriming s).wg.fallback = s.wg.fallback ∧
    (startPriming s).wg.ceiling = s.wg.ceiling ∧ (startPriming s).wg.sEff = s.wg.sEff ∧
    (startPriming s).wg.trim = s.wg.trim ∧ (startPriming s).wg.zoneCeiling = s.wg.zoneCeiling ∧
    (startPriming s).wg.zoneHold = s.wg.zoneHold ∧ (startPriming s).wg.zoneStall = s.wg.zoneStall ∧
    (startPriming s).sru = s.sru ∧ (startPriming s).slu = s.slu ∧ (startPriming s).psv = s.psv ∧
    (startPriming s).su = s.su ∧ (startPriming s).pi = s.pi ∧ (startPriming s).pending = s.pending ∧
    (startPriming s).free = s.free := by
  unfold startPriming; simp

@[simp] theorem testPlant_keeps (s : State) :
    (testPlant s).mfe = s.mfe ∧ (testPlant s).dr = s.dr ∧ (testPlant s).zt = s.zt ∧
    (testPlant s).wg.wheels = s.wg.wheels ∧ (testPlant s).wg.demand = s.wg.demand ∧
    (testPlant s).wg.ramp = s.wg.ramp ∧ (testPlant s).wg.fallback = s.wg.fallback ∧
    (testPlant s).wg.ceiling = s.wg.ceiling ∧ (testPlant s).wg.sEff = s.wg.sEff ∧ (testPlant s).wg.trim = s.wg.trim ∧
    (testPlant s).wg.zoneCeiling = s.wg.zoneCeiling ∧ (testPlant s).wg.zoneHold = s.wg.zoneHold ∧
    (testPlant s).wg.zoneStall = s.wg.zoneStall ∧ (testPlant s).sru = s.sru ∧ (testPlant s).slu = s.slu ∧
    (testPlant s).psv = s.psv ∧ (testPlant s).su = s.su ∧ (testPlant s).pi = s.pi ∧
    (testPlant s).pending = s.pending ∧ (testPlant s).free = s.free := by
  unfold testPlant; split <;> simp

@[simp] theorem starve_keeps (s : State) :
    (starve s).mfe = s.mfe ∧ (starve s).dr = s.dr ∧ (starve s).zt = s.zt ∧ (starve s).wg.wheels = s.wg.wheels ∧
    (starve s).wg.demand = s.wg.demand ∧ (starve s).wg.ramp = s.wg.ramp ∧ (starve s).wg.fallback = s.wg.fallback ∧
    (starve s).wg.ceiling = s.wg.ceiling ∧ (starve s).wg.sEff = s.wg.sEff ∧ (starve s).wg.trim = s.wg.trim ∧
    (starve s).wg.zoneCeiling = s.wg.zoneCeiling ∧ (starve s).wg.zoneHold = s.wg.zoneHold ∧
    (starve s).wg.zoneStall = s.wg.zoneStall ∧ (starve s).sru = s.sru ∧ (starve s).slu = s.slu ∧
    (starve s).psv = s.psv ∧ (starve s).su = s.su ∧ (starve s).pi = s.pi ∧ (starve s).pending = s.pending ∧
    (starve s).free = s.free := by
  unfold starve; simp

@[simp] theorem returnOff_keeps (s : State) :
    (returnOff s).mfe = s.mfe ∧ (returnOff s).dr = s.dr ∧ (returnOff s).zt = s.zt ∧
    (returnOff s).wg.wheels = s.wg.wheels ∧ (returnOff s).wg.demand = s.wg.demand ∧
    (returnOff s).wg.ramp = s.wg.ramp ∧ (returnOff s).wg.fallback = s.wg.fallback ∧
    (returnOff s).wg.ceiling = s.wg.ceiling ∧ (returnOff s).wg.sEff = s.wg.sEff ∧ (returnOff s).wg.trim = s.wg.trim ∧
    (returnOff s).wg.zoneCeiling = s.wg.zoneCeiling ∧ (returnOff s).wg.zoneHold = s.wg.zoneHold ∧
    (returnOff s).wg.zoneStall = s.wg.zoneStall ∧ (returnOff s).sru = s.sru ∧ (returnOff s).slu = s.slu ∧
    (returnOff s).psv = s.psv ∧ (returnOff s).su = s.su ∧ (returnOff s).pi = s.pi ∧
    (returnOff s).pending = s.pending ∧ (returnOff s).free = s.free := by
  unfold returnOff; simp

/-! ## Frames -/

@[simp] theorem resumeCrossCheck_keeps (s : State) :
    (resumeCrossCheck s).mfe = s.mfe ∧ (resumeCrossCheck s).zt = s.zt ∧ (resumeCrossCheck s).wg = s.wg ∧
    (resumeCrossCheck s).sru = s.sru ∧ (resumeCrossCheck s).slu = s.slu ∧ (resumeCrossCheck s).psv = s.psv ∧
    (resumeCrossCheck s).su = s.su ∧ (resumeCrossCheck s).rc = s.rc ∧ (resumeCrossCheck s).pi = s.pi ∧
    (resumeCrossCheck s).eu = s.eu ∧ (resumeCrossCheck s).pending = s.pending ∧
    (resumeCrossCheck s).free = s.free := by
  unfold resumeCrossCheck; split <;> simp

@[simp] theorem hear_keeps (p : Port) (s : State) :
    (hear p s).mfe = s.mfe ∧ (hear p s).zt = s.zt ∧ (hear p s).wg = s.wg ∧ (hear p s).sru = s.sru ∧
    (hear p s).slu = s.slu ∧ (hear p s).psv = s.psv ∧ (hear p s).su = s.su ∧ (hear p s).eu = s.eu ∧
    (hear p s).pending = s.pending ∧ (hear p s).free = s.free := by
  cases p <;> (unfold hear; dsimp only; split) <;> simp

@[simp] theorem answered_keeps (k : Kind) (p : Port) (tag : Byte) (st : Status) (d : List Byte) (s : State) :
    (answered k p tag st d s).mfe = s.mfe ∧ (answered k p tag st d s).zt = s.zt ∧
    (answered k p tag st d s).wg = s.wg ∧ (answered k p tag st d s).sru = s.sru ∧
    (answered k p tag st d s).slu = s.slu ∧ (answered k p tag st d s).psv = s.psv ∧
    (answered k p tag st d s).su = s.su ∧ (answered k p tag st d s).eu = s.eu ∧
    (answered k p tag st d s).pending = s.pending ∧ (answered k p tag st d s).free = s.free := by
  unfold answered; simp

/-! ## Steering -/

@[simp] theorem handPlate_keeps (q : PlateId) (v : Nat) (s : State) :
    (handPlate q v s).mfe = s.mfe ∧ (handPlate q v s).dr = s.dr ∧ (handPlate q v s).zt = s.zt ∧
    (handPlate q v s).wg = s.wg ∧ (handPlate q v s).sru = s.sru ∧ (handPlate q v s).slu = s.slu ∧
    (handPlate q v s).su = s.su ∧ (handPlate q v s).rc = s.rc ∧ (handPlate q v s).pi = s.pi ∧
    (handPlate q v s).eu = s.eu ∧ (handPlate q v s).pending = s.pending ∧ (handPlate q v s).free = s.free := by
  unfold handPlate; simp

@[simp] theorem commandPlate_keeps (q : PlateId) (v : Nat) (s : State) :
    (commandPlate q v s).mfe = s.mfe ∧ (commandPlate q v s).dr = s.dr ∧ (commandPlate q v s).zt = s.zt ∧
    (commandPlate q v s).wg = s.wg ∧ (commandPlate q v s).sru = s.sru ∧ (commandPlate q v s).su = s.su ∧
    (commandPlate q v s).rc = s.rc ∧ (commandPlate q v s).pi = s.pi ∧ (commandPlate q v s).eu = s.eu ∧
    (commandPlate q v s).pending = s.pending ∧ (commandPlate q v s).free = s.free := by
  unfold commandPlate; split <;> simp

@[simp] theorem commandPlates_keeps (c : PerPlate Nat) (s : State) :
    (commandPlates c s).mfe = s.mfe ∧ (commandPlates c s).dr = s.dr ∧ (commandPlates c s).zt = s.zt ∧
    (commandPlates c s).wg = s.wg ∧ (commandPlates c s).sru = s.sru ∧ (commandPlates c s).su = s.su ∧
    (commandPlates c s).rc = s.rc ∧ (commandPlates c s).pi = s.pi ∧ (commandPlates c s).eu = s.eu ∧
    (commandPlates c s).pending = s.pending ∧ (commandPlates c s).free = s.free := by
  unfold commandPlates; simp

@[simp] theorem enterOff_keeps (s : State) :
    (enterOff s).mfe = s.mfe ∧ (enterOff s).dr = s.dr ∧ (enterOff s).zt = s.zt ∧ (enterOff s).wg = s.wg ∧
    (enterOff s).sru = s.sru ∧ (enterOff s).su = s.su ∧ (enterOff s).rc = s.rc ∧ (enterOff s).pi = s.pi ∧
    (enterOff s).eu = s.eu ∧ (enterOff s).pending = s.pending ∧ (enterOff s).free = s.free := by
  unfold enterOff; simp

@[simp] theorem enterManual_keeps (s : State) :
    (enterManual s).mfe = s.mfe ∧ (enterManual s).dr = s.dr ∧ (enterManual s).zt = s.zt ∧
    (enterManual s).wg = s.wg ∧ (enterManual s).sru = s.sru ∧ (enterManual s).su = s.su ∧
    (enterManual s).rc = s.rc ∧ (enterManual s).pi = s.pi ∧ (enterManual s).eu = s.eu ∧
    (enterManual s).pending = s.pending ∧ (enterManual s).free = s.free := by
  unfold enterManual; simp

@[simp] theorem enterAuto_keeps (s : State) :
    (enterAuto s).mfe = s.mfe ∧ (enterAuto s).dr = s.dr ∧ (enterAuto s).zt = s.zt ∧ (enterAuto s).wg = s.wg ∧
    (enterAuto s).sru = s.sru ∧ (enterAuto s).psv = s.psv ∧ (enterAuto s).su = s.su ∧ (enterAuto s).rc = s.rc ∧
    (enterAuto s).pi = s.pi ∧ (enterAuto s).eu = s.eu ∧ (enterAuto s).pending = s.pending ∧
    (enterAuto s).free = s.free := by
  unfold enterAuto; simp

@[simp] theorem enterFrozen_keeps (s : State) :
    (enterFrozen s).mfe = s.mfe ∧ (enterFrozen s).dr = s.dr ∧ (enterFrozen s).zt = s.zt ∧
    (enterFrozen s).wg = s.wg ∧ (enterFrozen s).sru = s.sru ∧ (enterFrozen s).psv = s.psv ∧
    (enterFrozen s).su = s.su ∧ (enterFrozen s).rc = s.rc ∧ (enterFrozen s).pi = s.pi ∧ (enterFrozen s).eu = s.eu ∧
    (enterFrozen s).pending = s.pending ∧ (enterFrozen s).free = s.free := by
  unfold enterFrozen; simp

@[simp] theorem enterMode_keeps (m : SteerMode) (s : State) :
    (enterMode m s).mfe = s.mfe ∧ (enterMode m s).dr = s.dr ∧ (enterMode m s).zt = s.zt ∧
    (enterMode m s).wg = s.wg ∧ (enterMode m s).sru = s.sru ∧ (enterMode m s).su = s.su ∧
    (enterMode m s).rc = s.rc ∧ (enterMode m s).pi = s.pi ∧ (enterMode m s).eu = s.eu ∧
    (enterMode m s).pending = s.pending ∧ (enterMode m s).free = s.free := by
  unfold enterMode; split <;> simp

@[simp] theorem reevaluate_keeps (s : State) :
    (reevaluate s).mfe = s.mfe ∧ (reevaluate s).dr = s.dr ∧ (reevaluate s).zt = s.zt ∧ (reevaluate s).wg = s.wg ∧
    (reevaluate s).sru = s.sru ∧ (reevaluate s).su = s.su ∧ (reevaluate s).rc = s.rc ∧ (reevaluate s).pi = s.pi ∧
    (reevaluate s).eu = s.eu ∧ (reevaluate s).pending = s.pending ∧ (reevaluate s).free = s.free := by
  unfold reevaluate; split <;> simp

@[simp] theorem applyResult_keeps (r : SteerResult) (s : State) :
    (applyResult r s).mfe = s.mfe ∧ (applyResult r s).dr = s.dr ∧ (applyResult r s).zt = s.zt ∧
    (applyResult r s).wg = s.wg ∧ (applyResult r s).sru = s.sru ∧ (applyResult r s).su = s.su ∧
    (applyResult r s).rc = s.rc ∧ (applyResult r s).pi = s.pi ∧ (applyResult r s).eu = s.eu ∧
    (applyResult r s).pending = s.pending ∧ (applyResult r s).free = s.free := by
  unfold applyResult; simp

@[simp] theorem steerSample_keeps (s : State) :
    (steerSample s).mfe = s.mfe ∧ (steerSample s).dr = s.dr ∧ (steerSample s).zt = s.zt ∧
    (steerSample s).wg = s.wg ∧ (steerSample s).sru = s.sru ∧ (steerSample s).su = s.su ∧
    (steerSample s).rc = s.rc ∧ (steerSample s).pi = s.pi ∧ (steerSample s).eu = s.eu ∧
    (steerSample s).pending = s.pending ∧ (steerSample s).free = s.free := by
  unfold steerSample; split <;> simp

/-! ## Survey -/

@[simp] theorem refreshLive_keeps (s : State) :
    (refreshLive s).mfe = s.mfe ∧ (refreshLive s).dr = s.dr ∧ (refreshLive s).zt = s.zt ∧
    (refreshLive s).wg = s.wg ∧ (refreshLive s).sru = s.sru ∧ (refreshLive s).slu = s.slu ∧
    (refreshLive s).psv = s.psv ∧ (refreshLive s).rc = s.rc ∧ (refreshLive s).pi = s.pi ∧
    (refreshLive s).eu = s.eu ∧ (refreshLive s).pending = s.pending ∧ (refreshLive s).free = s.free := by
  unfold refreshLive; split <;> simp

@[simp] theorem judgeAccumulate_keeps (s : State) :
    (judgeAccumulate s).mfe = s.mfe ∧ (judgeAccumulate s).dr = s.dr ∧ (judgeAccumulate s).zt = s.zt ∧
    (judgeAccumulate s).wg = s.wg ∧ (judgeAccumulate s).sru = s.sru ∧ (judgeAccumulate s).slu = s.slu ∧
    (judgeAccumulate s).psv = s.psv ∧ (judgeAccumulate s).rc = s.rc ∧ (judgeAccumulate s).pi = s.pi ∧
    (judgeAccumulate s).eu = s.eu ∧ (judgeAccumulate s).pending = s.pending ∧
    (judgeAccumulate s).free = s.free := by
  unfold judgeAccumulate; (repeat' split) <;> simp

@[simp] theorem judgeCheck_keeps (s : State) :
    (judgeCheck s).mfe = s.mfe ∧ (judgeCheck s).dr = s.dr ∧ (judgeCheck s).zt = s.zt ∧ (judgeCheck s).wg = s.wg ∧
    (judgeCheck s).sru = s.sru ∧ (judgeCheck s).slu = s.slu ∧ (judgeCheck s).psv = s.psv ∧
    (judgeCheck s).rc = s.rc ∧ (judgeCheck s).pi = s.pi ∧ (judgeCheck s).eu = s.eu ∧
    (judgeCheck s).pending = s.pending ∧ (judgeCheck s).free = s.free := by
  unfold judgeCheck; (repeat' split) <;> simp

@[simp] theorem judgeSurvey_keeps (s : State) :
    (judgeSurvey s).mfe = s.mfe ∧ (judgeSurvey s).dr = s.dr ∧ (judgeSurvey s).zt = s.zt ∧
    (judgeSurvey s).wg = s.wg ∧ (judgeSurvey s).sru = s.sru ∧ (judgeSurvey s).slu = s.slu ∧
    (judgeSurvey s).psv = s.psv ∧ (judgeSurvey s).rc = s.rc ∧ (judgeSurvey s).pi = s.pi ∧
    (judgeSurvey s).eu = s.eu ∧ (judgeSurvey s).pending = s.pending ∧ (judgeSurvey s).free = s.free := by
  unfold judgeSurvey; simp

@[simp] theorem judgeRecovery_keeps (s : State) :
    (judgeRecovery s).mfe = s.mfe ∧ (judgeRecovery s).dr = s.dr ∧ (judgeRecovery s).zt = s.zt ∧
    (judgeRecovery s).wg = s.wg ∧ (judgeRecovery s).sru = s.sru ∧ (judgeRecovery s).slu = s.slu ∧
    (judgeRecovery s).psv = s.psv ∧ (judgeRecovery s).rc = s.rc ∧ (judgeRecovery s).pi = s.pi ∧
    (judgeRecovery s).eu = s.eu ∧ (judgeRecovery s).pending = s.pending ∧ (judgeRecovery s).free = s.free := by
  unfold judgeRecovery; simp

@[simp] theorem openSegment_keeps (top : Nat) (s : State) :
    (openSegment top s).mfe = s.mfe ∧ (openSegment top s).dr = s.dr ∧ (openSegment top s).zt = s.zt ∧
    (openSegment top s).wg = s.wg ∧ (openSegment top s).sru = s.sru ∧ (openSegment top s).slu = s.slu ∧
    (openSegment top s).psv = s.psv ∧ (openSegment top s).rc = s.rc ∧ (openSegment top s).pi = s.pi ∧
    (openSegment top s).eu = s.eu ∧ (openSegment top s).pending = s.pending ∧
    (openSegment top s).free = s.free := by
  unfold openSegment; simp

@[simp] theorem surveySample_keeps (v : SampleSet) (saturated : Bool) (s : State) :
    (surveySample v saturated s).mfe = s.mfe ∧ (surveySample v saturated s).dr = s.dr ∧
    (surveySample v saturated s).zt = s.zt ∧ (surveySample v saturated s).wg = s.wg ∧
    (surveySample v saturated s).sru = s.sru ∧ (surveySample v saturated s).slu = s.slu ∧
    (surveySample v saturated s).psv = s.psv ∧ (surveySample v saturated s).rc = s.rc ∧
    (surveySample v saturated s).pi = s.pi ∧ (surveySample v saturated s).eu = s.eu ∧
    (surveySample v saturated s).pending = s.pending ∧ (surveySample v saturated s).free = s.free := by
  unfold surveySample; (repeat' split) <;> simp

@[simp] theorem writeRecord_keeps (g : Segment) (bottom : Nat) (short : Bool) (s : State) :
    (writeRecord g bottom short s).mfe = s.mfe ∧ (writeRecord g bottom short s).dr = s.dr ∧
    (writeRecord g bottom short s).zt = s.zt ∧ (writeRecord g bottom short s).wg = s.wg ∧
    (writeRecord g bottom short s).sru = s.sru ∧ (writeRecord g bottom short s).slu = s.slu ∧
    (writeRecord g bottom short s).psv = s.psv ∧ (writeRecord g bottom short s).rc = s.rc ∧
    (writeRecord g bottom short s).pi = s.pi ∧ (writeRecord g bottom short s).pending = s.pending ∧
    (writeRecord g bottom short s).free = s.free := by
  unfold writeRecord; simp

@[simp] theorem fillTable_keeps (s : State) :
    (fillTable s).mfe = s.mfe ∧ (fillTable s).dr = s.dr ∧ (fillTable s).zt = s.zt ∧ (fillTable s).wg = s.wg ∧
    (fillTable s).sru = s.sru ∧ (fillTable s).slu = s.slu ∧ (fillTable s).psv = s.psv ∧ (fillTable s).rc = s.rc ∧
    (fillTable s).pi = s.pi ∧ (fillTable s).pending = s.pending ∧ (fillTable s).free = s.free := by
  unfold fillTable; simp

@[simp] theorem closePassed_keeps (n : Nat) (s : State) :
    (closePassed n s).mfe = s.mfe ∧ (closePassed n s).dr = s.dr ∧ (closePassed n s).zt = s.zt ∧
    (closePassed n s).wg = s.wg ∧ (closePassed n s).sru = s.sru ∧ (closePassed n s).slu = s.slu ∧
    (closePassed n s).psv = s.psv ∧ (closePassed n s).rc = s.rc ∧ (closePassed n s).pi = s.pi ∧
    (closePassed n s).pending = s.pending ∧ (closePassed n s).free = s.free := by
  induction n generalizing s with
  | zero => simp [closePassed]
  | succ n ih => unfold closePassed; dsimp only; (repeat' split) <;> simp [ih]

@[simp] theorem judgeArming_keeps (s : State) :
    (judgeArming s).mfe = s.mfe ∧ (judgeArming s).dr = s.dr ∧ (judgeArming s).zt = s.zt ∧
    (judgeArming s).wg = s.wg ∧ (judgeArming s).sru = s.sru ∧ (judgeArming s).slu = s.slu ∧
    (judgeArming s).psv = s.psv ∧ (judgeArming s).rc = s.rc ∧ (judgeArming s).pi = s.pi ∧
    (judgeArming s).pending = s.pending ∧ (judgeArming s).free = s.free := by
  unfold judgeArming; split <;> simp

@[simp] theorem stopRun_keeps (s : State) :
    (stopRun s).mfe = s.mfe ∧ (stopRun s).dr = s.dr ∧ (stopRun s).zt = s.zt ∧ (stopRun s).wg = s.wg ∧
    (stopRun s).sru = s.sru ∧ (stopRun s).slu = s.slu ∧ (stopRun s).psv = s.psv ∧ (stopRun s).rc = s.rc ∧
    (stopRun s).pi = s.pi ∧ (stopRun s).pending = s.pending ∧ (stopRun s).free = s.free := by
  unfold stopRun; dsimp only; (repeat' split) <;> simp

@[simp] theorem writeCheck_keeps (index : Nat) (s : State) :
    (writeCheck index s).mfe = s.mfe ∧ (writeCheck index s).dr = s.dr ∧ (writeCheck index s).zt = s.zt ∧
    (writeCheck index s).wg = s.wg ∧ (writeCheck index s).sru = s.sru ∧ (writeCheck index s).slu = s.slu ∧
    (writeCheck index s).psv = s.psv ∧ (writeCheck index s).rc = s.rc ∧ (writeCheck index s).pi = s.pi ∧
    (writeCheck index s).eu = s.eu ∧ (writeCheck index s).pending = s.pending ∧
    (writeCheck index s).free = s.free := by
  unfold writeCheck; split <;> simp

@[simp] theorem endCheck_keeps (s : State) :
    (endCheck s).mfe = s.mfe ∧ (endCheck s).dr = s.dr ∧ (endCheck s).zt = s.zt ∧ (endCheck s).wg = s.wg ∧
    (endCheck s).sru = s.sru ∧ (endCheck s).slu = s.slu ∧ (endCheck s).psv = s.psv ∧ (endCheck s).rc = s.rc ∧
    (endCheck s).pi = s.pi ∧ (endCheck s).pending = s.pending ∧ (endCheck s).free = s.free := by
  unfold endCheck; simp

@[simp] theorem moveTarget_keeps (bound : Nat) (s : State) :
    (moveTarget bound s).mfe = s.mfe ∧ (moveTarget bound s).dr = s.dr ∧ (moveTarget bound s).zt = s.zt ∧
    (moveTarget bound s).wg = s.wg ∧ (moveTarget bound s).sru = s.sru ∧ (moveTarget bound s).slu = s.slu ∧
    (moveTarget bound s).psv = s.psv ∧ (moveTarget bound s).rc = s.rc ∧ (moveTarget bound s).pi = s.pi ∧
    (moveTarget bound s).pending = s.pending ∧ (moveTarget bound s).free = s.free := by
  unfold moveTarget; split <;> simp

@[simp] theorem advanceCheck_keeps (s : State) :
    (advanceCheck s).mfe = s.mfe ∧ (advanceCheck s).dr = s.dr ∧ (advanceCheck s).zt = s.zt ∧
    (advanceCheck s).wg = s.wg ∧ (advanceCheck s).sru = s.sru ∧ (advanceCheck s).slu = s.slu ∧
    (advanceCheck s).psv = s.psv ∧ (advanceCheck s).rc = s.rc ∧ (advanceCheck s).pi = s.pi ∧
    (advanceCheck s).pending = s.pending ∧ (advanceCheck s).free = s.free := by
  unfold advanceCheck; (repeat' split) <;> simp

@[simp] theorem stopCheck_keeps (s : State) :
    (stopCheck s).mfe = s.mfe ∧ (stopCheck s).dr = s.dr ∧ (stopCheck s).zt = s.zt ∧ (stopCheck s).wg = s.wg ∧
    (stopCheck s).sru = s.sru ∧ (stopCheck s).slu = s.slu ∧ (stopCheck s).psv = s.psv ∧ (stopCheck s).rc = s.rc ∧
    (stopCheck s).pi = s.pi ∧ (stopCheck s).pending = s.pending ∧ (stopCheck s).free = s.free := by
  unfold stopCheck; (repeat' split) <;> simp

@[simp] theorem surveyDepth_keeps (s : State) :
    (surveyDepth s).mfe = s.mfe ∧ (surveyDepth s).dr = s.dr ∧ (surveyDepth s).zt = s.zt ∧
    (surveyDepth s).wg = s.wg ∧ (surveyDepth s).sru = s.sru ∧ (surveyDepth s).slu = s.slu ∧
    (surveyDepth s).psv = s.psv ∧ (surveyDepth s).rc = s.rc ∧ (surveyDepth s).pi = s.pi ∧
    (surveyDepth s).pending = s.pending ∧ (surveyDepth s).free = s.free := by
  unfold surveyDepth; (repeat' split) <;> simp

@[simp] theorem surveyLoss_keeps (p : Port) (s : State) :
    (surveyLoss p s).mfe = s.mfe ∧ (surveyLoss p s).dr = s.dr ∧ (surveyLoss p s).zt = s.zt ∧
    (surveyLoss p s).wg = s.wg ∧ (surveyLoss p s).sru = s.sru ∧ (surveyLoss p s).slu = s.slu ∧
    (surveyLoss p s).psv = s.psv ∧ (surveyLoss p s).rc = s.rc ∧ (surveyLoss p s).pi = s.pi ∧
    (surveyLoss p s).eu = s.eu ∧ (surveyLoss p s).pending = s.pending ∧ (surveyLoss p s).free = s.free := by
  unfold surveyLoss; split <;> simp

/-! ## Zones and depth -/

@[simp] theorem handZone_keeps (s : State) :
    (handZone s).mfe = s.mfe ∧ (handZone s).dr = s.dr ∧ (handZone s).zt = s.zt ∧ (handZone s).sru = s.sru ∧
    (handZone s).slu = s.slu ∧ (handZone s).psv = s.psv ∧ (handZone s).su = s.su ∧ (handZone s).pi = s.pi ∧
    (handZone s).eu = s.eu ∧ (handZone s).pending = s.pending ∧ (handZone s).free = s.free := by
  unfold handZone; simp

@[simp] theorem selectZone_keeps (depth : Nat) (s : State) :
    (selectZone depth s).mfe = s.mfe ∧ (selectZone depth s).dr = s.dr ∧ (selectZone depth s).sru = s.sru ∧
    (selectZone depth s).slu = s.slu ∧ (selectZone depth s).psv = s.psv ∧ (selectZone depth s).su = s.su ∧
    (selectZone depth s).pi = s.pi ∧ (selectZone depth s).pending = s.pending ∧
    (selectZone depth s).free = s.free := by
  unfold selectZone; dsimp only; split <;> simp

@[simp] theorem changeTable_keeps (entries : List ZoneEntry) (s : State) :
    (changeTable entries s).mfe = s.mfe ∧ (changeTable entries s).dr = s.dr ∧ (changeTable entries s).sru = s.sru ∧
    (changeTable entries s).slu = s.slu ∧ (changeTable entries s).psv = s.psv ∧ (changeTable entries s).su = s.su ∧
    (changeTable entries s).pi = s.pi ∧ (changeTable entries s).pending = s.pending ∧
    (changeTable entries s).free = s.free := by
  unfold changeTable; dsimp only; (repeat' split) <;> simp

@[simp] theorem handDepth_keeps (s : State) :
    (handDepth s).mfe = s.mfe ∧ (handDepth s).dr = s.dr ∧ (handDepth s).sru = s.sru ∧ (handDepth s).pi = s.pi ∧
    (handDepth s).pending = s.pending ∧ (handDepth s).free = s.free := by
  unfold handDepth; simp

@[simp] theorem setFeedRate_keeps (v : Nat) (s : State) :
    (setFeedRate v s).mfe = s.mfe ∧ (setFeedRate v s).zt = s.zt ∧ (setFeedRate v s).wg = s.wg ∧
    (setFeedRate v s).sru = s.sru ∧ (setFeedRate v s).slu = s.slu ∧ (setFeedRate v s).psv = s.psv ∧
    (setFeedRate v s).su = s.su ∧ (setFeedRate v s).pi = s.pi ∧ (setFeedRate v s).pending = s.pending ∧
    (setFeedRate v s).free = s.free := by
  unfold setFeedRate; split <;> simp

@[simp] theorem emptyHistory_keeps (s : State) :
    (emptyHistory s).mfe = s.mfe ∧ (emptyHistory s).zt = s.zt ∧ (emptyHistory s).wg = s.wg ∧
    (emptyHistory s).sru = s.sru ∧ (emptyHistory s).slu = s.slu ∧ (emptyHistory s).psv = s.psv ∧
    (emptyHistory s).su = s.su ∧ (emptyHistory s).pi = s.pi ∧ (emptyHistory s).pending = s.pending ∧
    (emptyHistory s).free = s.free := by
  unfold emptyHistory; simp

@[simp] theorem takeCount_keeps (count : Int) (s : State) :
    (takeCount count s).mfe = s.mfe ∧ (takeCount count s).zt = s.zt ∧ (takeCount count s).wg = s.wg ∧
    (takeCount count s).sru = s.sru ∧ (takeCount count s).slu = s.slu ∧ (takeCount count s).psv = s.psv ∧
    (takeCount count s).su = s.su ∧ (takeCount count s).rc = s.rc ∧ (takeCount count s).pi = s.pi ∧
    (takeCount count s).pending = s.pending ∧ (takeCount count s).free = s.free := by
  unfold takeCount; dsimp only; split <;> simp

@[simp] theorem reportCount_keeps (count : Int) (s : State) :
    (reportCount count s).mfe = s.mfe ∧ (reportCount count s).sru = s.sru ∧ (reportCount count s).pi = s.pi ∧
    (reportCount count s).pending = s.pending ∧ (reportCount count s).free = s.free := by
  unfold reportCount; split <;> simp

@[simp] theorem takeDatum_keeps (datum : Nat) (s : State) :
    (takeDatum datum s).mfe = s.mfe ∧ (takeDatum datum s).sru = s.sru ∧ (takeDatum datum s).pi = s.pi ∧
    (takeDatum datum s).pending = s.pending ∧ (takeDatum datum s).free = s.free := by
  unfold takeDatum; simp

@[simp] theorem goStale_keeps (s : State) :
    (goStale s).mfe = s.mfe ∧ (goStale s).sru = s.sru ∧ (goStale s).pi = s.pi ∧ (goStale s).pending = s.pending ∧
    (goStale s).free = s.free := by
  unfold goStale; split <;> simp

@[simp] theorem setDisagree_keeps (d : Bool) (s : State) :
    (setDisagree d s).mfe = s.mfe ∧ (setDisagree d s).zt = s.zt ∧ (setDisagree d s).wg = s.wg ∧
    (setDisagree d s).sru = s.sru ∧ (setDisagree d s).rc = s.rc ∧ (setDisagree d s).pi = s.pi ∧
    (setDisagree d s).eu = s.eu ∧ (setDisagree d s).pending = s.pending ∧ (setDisagree d s).free = s.free := by
  unfold setDisagree; split <;> simp

@[simp] theorem suspendCrossCheck_keeps (s : State) :
    (suspendCrossCheck s).mfe = s.mfe ∧ (suspendCrossCheck s).zt = s.zt ∧ (suspendCrossCheck s).wg = s.wg ∧
    (suspendCrossCheck s).sru = s.sru ∧ (suspendCrossCheck s).rc = s.rc ∧ (suspendCrossCheck s).pi = s.pi ∧
    (suspendCrossCheck s).eu = s.eu ∧ (suspendCrossCheck s).pending = s.pending ∧
    (suspendCrossCheck s).free = s.free := by
  unfold suspendCrossCheck; simp

@[simp] theorem raiseDisagree_keeps (s : State) :
    (raiseDisagree s).mfe = s.mfe ∧ (raiseDisagree s).zt = s.zt ∧ (raiseDisagree s).wg = s.wg ∧
    (raiseDisagree s).sru = s.sru ∧ (raiseDisagree s).rc = s.rc ∧ (raiseDisagree s).pi = s.pi ∧
    (raiseDisagree s).pending = s.pending ∧ (raiseDisagree s).free = s.free := by
  unfold raiseDisagree; simp

@[simp] theorem compareDepth_keeps (s : State) :
    (compareDepth s).mfe = s.mfe ∧ (compareDepth s).zt = s.zt ∧ (compareDepth s).wg = s.wg ∧
    (compareDepth s).sru = s.sru ∧ (compareDepth s).rc = s.rc ∧ (compareDepth s).pi = s.pi ∧
    (compareDepth s).pending = s.pending ∧ (compareDepth s).free = s.free := by
  unfold compareDepth; dsimp only; (repeat' split) <;> simp

@[simp] theorem takeHeadPressure_keeps (r : Reading) (s : State) :
    (takeHeadPressure r s).zt = s.zt ∧ (takeHeadPressure r s).wg = s.wg ∧ (takeHeadPressure r s).sru = s.sru ∧
    (takeHeadPressure r s).rc = s.rc ∧ (takeHeadPressure r s).pi = s.pi ∧
    (takeHeadPressure r s).pending = s.pending ∧ (takeHeadPressure r s).free = s.free := by
  unfold takeHeadPressure; dsimp only; split <;> simp

/-! ## Wheels and recovery -/

@[simp] theorem raiseHalted_keeps (before : PerWheel WheelRec) (s : State) :
    (raiseHalted before s).mfe = s.mfe ∧ (raiseHalted before s).dr = s.dr ∧ (raiseHalted before s).zt = s.zt ∧
    (raiseHalted before s).wg = s.wg ∧ (raiseHalted before s).sru = s.sru ∧ (raiseHalted before s).slu = s.slu ∧
    (raiseHalted before s).psv = s.psv ∧ (raiseHalted before s).su = s.su ∧ (raiseHalted before s).rc = s.rc ∧
    (raiseHalted before s).pi = s.pi ∧ (raiseHalted before s).pending = s.pending ∧
    (raiseHalted before s).free = s.free := by
  unfold raiseHalted; dsimp only; split <;> simp

@[simp] theorem handWheels_keeps (before : PerWheel WheelRec) (s : State) :
    (handWheels before s).mfe = s.mfe ∧ (handWheels before s).dr = s.dr ∧ (handWheels before s).zt = s.zt ∧
    (handWheels before s).wg = s.wg ∧ (handWheels before s).sru = s.sru ∧ (handWheels before s).slu = s.slu ∧
    (handWheels before s).psv = s.psv ∧ (handWheels before s).su = s.su ∧ (handWheels before s).pi = s.pi ∧
    (handWheels before s).eu = s.eu ∧ (handWheels before s).pending = s.pending ∧
    (handWheels before s).free = s.free := by
  unfold handWheels; split <;> simp

@[simp] theorem clearRecord_keeps (s : State) :
    (clearRecord s).mfe = s.mfe ∧ (clearRecord s).dr = s.dr ∧ (clearRecord s).zt = s.zt ∧
    (clearRecord s).wg = s.wg ∧ (clearRecord s).rc = s.rc ∧ (clearRecord s).pi = s.pi ∧ (clearRecord s).eu = s.eu ∧
    (clearRecord s).pending = s.pending ∧ (clearRecord s).free = s.free := by
  unfold clearRecord; simp

@[simp] theorem abortRecovery_keeps (s : State) :
    (abortRecovery s).mfe = s.mfe ∧ (abortRecovery s).dr = s.dr ∧ (abortRecovery s).zt = s.zt ∧
    (abortRecovery s).wg = s.wg ∧ (abortRecovery s).rc = s.rc ∧ (abortRecovery s).pi = s.pi ∧
    (abortRecovery s).eu = s.eu ∧ (abortRecovery s).pending = s.pending ∧ (abortRecovery s).free = s.free := by
  unfold abortRecovery; split <;> simp

@[simp] theorem haltWheels_keeps (s : State) :
    (haltWheels s).mfe = s.mfe ∧ (haltWheels s).dr = s.dr ∧ (haltWheels s).zt = s.zt ∧ (haltWheels s).pi = s.pi ∧
    (haltWheels s).pending = s.pending ∧ (haltWheels s).free = s.free := by
  unfold haltWheels; simp

@[simp] theorem takeStall_keeps (w : Wheel) (s : State) :
    (takeStall w s).mfe = s.mfe ∧ (takeStall w s).dr = s.dr ∧ (takeStall w s).zt = s.zt ∧
    (takeStall w s).pi = s.pi ∧ (takeStall w s).pending = s.pending ∧ (takeStall w s).free = s.free := by
  unfold takeStall; simp

@[simp] theorem takeTachFault_keeps (w : Wheel) (s : State) :
    (takeTachFault w s).mfe = s.mfe ∧ (takeTachFault w s).dr = s.dr ∧ (takeTachFault w s).zt = s.zt ∧
    (takeTachFault w s).sru = s.sru ∧ (takeTachFault w s).slu = s.slu ∧ (takeTachFault w s).psv = s.psv ∧
    (takeTachFault w s).su = s.su ∧ (takeTachFault w s).pi = s.pi ∧ (takeTachFault w s).pending = s.pending ∧
    (takeTachFault w s).free = s.free := by
  unfold takeTachFault; simp

@[simp] theorem clearJamTaken_keeps (s : State) :
    (clearJamTaken s).mfe = s.mfe ∧ (clearJamTaken s).dr = s.dr ∧ (clearJamTaken s).zt = s.zt ∧
    (clearJamTaken s).sru = s.sru ∧ (clearJamTaken s).slu = s.slu ∧ (clearJamTaken s).psv = s.psv ∧
    (clearJamTaken s).su = s.su ∧ (clearJamTaken s).pi = s.pi ∧ (clearJamTaken s).eu = s.eu ∧
    (clearJamTaken s).pending = s.pending ∧ (clearJamTaken s).free = s.free := by
  unfold clearJamTaken; simp

end Sys2Proof.Machine
end

