-- ==== Sys2Proof/Laws/Hub.lean ====
section
/-! SUPPORT. The closed forms of the shared operations: what each one answers, said once, so that later proofs rewrite with
it and never unfold it. -/

namespace Sys2Proof.Machine

/-! ## Feed limit -/

theorem recomputeFeed_eq (s : State) : recomputeFeed s = { s with rc := { s.rc with feedLimit := feedNow s } } := rfl

@[simp] theorem recomputeFeed_feedLimit (s : State) : (recomputeFeed s).rc.feedLimit = feedNow s := rfl

/-- The feed limit of a state depends on what it holds of the wheels, the return, the cabin's link and the depth state. -/
theorem feedNow_congr {s t : State} (hw : s.wg.wheels.a.state = t.wg.wheels.a.state)
    (hw' : s.wg.wheels.b.state = t.wg.wheels.b.state) (hr : s.rc.state = t.rc.state)
    (hl : s.pi.ports.cabin.link = t.pi.ports.cabin.link) (hd : s.dr.state = t.dr.state)
    (hc : feedComputed s.rc = feedComputed t.rc) : feedNow s = feedNow t := by
  simp [feedNow, feedAllowed, bothRunning, hw, hw', hr, hl, hd, hc]

/-! ## The FALLBACK flag -/

theorem judgeFallback_eq (s : State) :
    judgeFallback s = { s with wg := { s.wg with fallbackFlag := fallbackNow s } } := rfl

/-! ## A valid frame -/

theorem hear_pi (p : Port) (s : State) :
    (hear p s).pi =
      (s.setPort p { s.port p with link := .active, silence := some (s.port p).timeout }).pi := by
  cases p <;> (unfold hear; dsimp only; split) <;> simp

theorem hear_port (p : Port) (s : State) :
    (hear p s).port p = { s.port p with link := .active, silence := some (s.port p).timeout } := by
  rw [State.port, hear_pi]; exact State.port_setPort_same ..

theorem hear_port_ne {p p' : Port} (s : State) (h : p' ≠ p) : (hear p s).port p' = s.port p' := by
  rw [State.port, hear_pi]; exact State.port_setPort_ne _ _ h

@[simp] theorem hear_hub (p : Port) (s : State) : (hear p s).pi.hub = s.pi.hub := by rw [hear_pi]; rfl

/-! ## Steering -/

@[simp] theorem modeNow_slu_commands (s : State) (u : Slu) (p : PerPlate Plate) (hs : u.settings = s.slu.settings)
    (hc : u.chosenAuto = s.slu.chosenAuto) : modeNow { s with slu := u, psv := p } = modeNow s := by
  simp [modeNow, hs, hc]

theorem commandPlate_eq (q : PlateId) (v : Nat) (s : State) :
    commandPlate q v s =
      { s with slu := { s.slu with commands := s.slu.commands.set q v }
               psv := s.psv.set q (if s.slu.commands.get q = v then s.psv.get q else takeCommand v (s.psv.get q)) } := by
  unfold commandPlate
  split
  · next h => subst h; simp
  · simp [handPlate]

theorem commandPlates_eq (c : PerPlate Nat) (s : State) :
    commandPlates c s =
      { s with slu := { s.slu with commands := c }, psv := handedPlates s.slu.commands c s.psv } := by
  simp only [commandPlates, commandPlate_eq, PerPlate.set, PerPlate.get, handedPlates]
  rfl

theorem handedPlates_same (c : PerPlate Nat) (p : PerPlate Plate) : handedPlates c c p = p := by
  simp [handedPlates]

theorem enterMode_eq (m : SteerMode) (s : State) :
    enterMode m s =
      { s with slu := enteredSlu m s.slu, psv := handedPlates s.slu.commands (enteredSlu m s.slu).commands s.psv } := by
  cases m <;> simp [enterMode, enterOff, enterAuto, enterManual, enterFrozen, commandPlates_eq, enteredSlu,
    handedPlates_same]

/-- R89: the re-evaluation of the actual mode. -/
theorem reevaluate_eq (s : State) : reevaluate s = steered s := by
  unfold reevaluate steered steeredSlu
  split
  · simp [handedPlates_same]
  · rw [enterMode_eq]

theorem steeredSlu_actual (s : State) : (steeredSlu s).actual = modeNow s := by
  unfold steeredSlu
  split
  · next h => exact h.symm
  · cases modeNow s <;> rfl

/-! ## The transport floor -/

/-- R159 to R161: the floor recomputed. -/
theorem recomputeFloor_eq (s : State) :
    recomputeFloor s =
      { s with rc := flooredRc s.dr.fMeas s.rc, eu := shortRaised s.rc (flooredRc s.dr.fMeas s.rc) s.eu } := by
  unfold recomputeFloor rejudgeShort flooredRc shortRaised
  dsimp only
  split <;> simp_all [recomputeDemand, setPump, shortHolds, raise]

/-- R28: F_meas replaced, and the floor recomputed when it differs. -/
theorem setFeedRate_eq (v : Nat) (s : State) :
    setFeedRate v s =
      { s with dr := { s.dr with fMeas := v }, rc := if v = s.dr.fMeas then s.rc else flooredRc v s.rc
               eu := if v = s.dr.fMeas then s.eu else shortRaised s.rc (flooredRc v s.rc) s.eu } := by
  unfold setFeedRate
  split
  · next h => subst h; simp
  · simp [recomputeFloor_eq]

/-! ## The survey's judgements -/

/-- R136. -/
theorem refreshLive_eq (s : State) : refreshLive s = { s with su := liveSu s.dr.toe s.su } := by
  unfold refreshLive liveSu
  split <;> simp_all [State.setSu, liveDeviation]

/-- R130. -/
theorem judgeAccumulate_eq (s : State) :
    judgeAccumulate s = { s with su := { s.su with
      state := judgedRun s
      segment := if s.su.state = .accumulating ∧ judgedRun s = .holding then markHeld s.su.segment
                 else s.su.segment } } := by
  unfold judgeAccumulate judgedRun
  cases h : s.su.state <;> cases ha : accumulateOk s <;> simp [State.setSu] <;> simp [← h]

/-- R130: the creation or the clearing of the recovery record. -/
theorem judgeRecovery_eq (s : State) : judgeRecovery s = { s with su := judgedSu (judgedRun s) s } := by
  rw [judgeRecovery, judgeAccumulate_eq, refreshLive_eq]; rfl

/-- R130, R146: a change of DISAGREE or of the sensor state. -/
theorem judgeSurvey_eq (s : State) : judgeSurvey s = { s with su := judgedSu (judgedSurvey s) s } := by
  have h : judgeCheck (judgeAccumulate s) = { s with su := { s.su with
      state := judgedSurvey s
      segment := if s.su.state = .accumulating ∧ judgedSurvey s = .holding then markHeld s.su.segment
                 else s.su.segment } } := by
    rw [judgeAccumulate_eq]
    unfold judgeCheck judgedSurvey judgedRun
    cases h : s.su.state <;> simp <;>
      first | (cases ha : accumulateOk s <;> simp) | (cases ha : checkOk s <;> simp_all [State.setSu, checkOk])
  rw [judgeSurvey, refreshLive_eq, h]; rfl

/-- R131, R147: a valid set handed to SU. -/
theorem surveySample_eq (v : SampleSet) (saturated : Bool) (s : State) :
    surveySample v saturated s = { s with su := sampledSu v saturated s.dr.toe s.su } := by
  unfold surveySample sampledSu
  cases h : s.su.state <;> simp [refreshLive_eq, State.setSu]
  · rw [h]
  · split <;> simp_all

/-! ## Posted requests -/

/-- A queue with nothing in it and no hold is left as it is. -/
theorem setQueue_clear (p : Port) (s : State) (hq : (s.port p).queue = []) (hh : (s.port p).hold = none) :
    setQueue p [] none s = s := by
  have : { s.port p with queue := [], hold := none } = s.port p := by rw [← hq, ← hh]
  rw [setQueue, this, State.setPort_port]

/-- R185: a refusal as the queue writes it. -/
theorem recordRefusal_eq (p : Port) (e : Entry) (c : Status) (s : State) :
    recordRefusal p e c s = refusedAt e.request.kind p e.tag c s := by
  rfl

/-- R184: a request posted at a clear queue is answered and becomes the head. -/
theorem post_clear {k : Kind} {p : Port} {tag : Byte} {d : List Byte} {make : State → Posted × Bool} {s : State}
    (hq : QueueClear p s) (hp : permitted k p = true) (hl : d.length = payloadLength k) :
    post k p tag d make s =
      drainList p [{ request := (make (hear p s)).1, tag := tag }]
        (answered k p tag (if (make (hear p s)).2 then .takenClamped else .taken) [] s) := by
  obtain ⟨hr, he, _⟩ := hq
  have hq' : ((hear p s).port p).queue = [] := by rw [hear_port]; exact he
  simp [post, receive, hp, hl, hr, hq', joinQueue, answered, reply, sendReply]

/-- R184, R185: a request posted at a queue that has room. -/
theorem post_joined {k : Kind} {p : Port} {tag : Byte} {d : List Byte} {make : State → Posted × Bool} {s : State}
    {r : Posted} {c : Bool} (hr : s.pi.hub = .ready) (hq : (s.port p).queue.length < 8) (hp : permitted k p = true)
    (hl : d.length = payloadLength k) (hm : make (hear p s) = (r, c)) (hk : r.kind = k) :
    post k p tag d make s = joinedAfter p tag r c s := by
  subst hk
  have hq' : ((hear p s).port p).queue = (s.port p).queue := by rw [hear_port]
  have hf : ¬ 8 ≤ (s.port p).queue.length := by omega
  have ha : ((reply r.kind p tag (if c = true then .takenClamped else .taken) [] (hear p s)).port p).queue
      = (s.port p).queue := by simp [reply, sendReply, hq']
  simp [post, receive, hp, hl, hr, hq', hf, hm, joinQueue, joinedAfter, answered, ha]

/-- The port a request came on, once it has been answered. -/
theorem answered_port (k : Kind) (p : Port) (tag : Byte) (st : Status) (d : List Byte) (s : State) :
    (answered k p tag st d s).port p =
      { s.port p with
        link := .active, silence := some (s.port p).timeout
        injection := if injected (s.port p) (kindByte k) then (s.port p).injection - 1 else (s.port p).injection
        lastReply := ((answered k p tag st d s).port p).lastReply } := by
  simp [answered, reply, sendReply, hear_port, injected]

/-- R185: a head that is not held is applied, and the queue stands clear. -/
theorem drain_taken {p : Port} {e : Entry} {s t : State} (hn : held e.request s = false)
    (ht : applyPosted p e.request s = .ok t) : drainList p [e] s = setQueue p [] none t := by
  simp [drainList, hn, applyEntry, ht]

theorem drain_refused {p : Port} {e : Entry} {s : State} {c : Status} (hn : held e.request s = false)
    (ht : applyPosted p e.request s = .error c) :
    drainList p [e] s = setQueue p [] none (refusedAt e.request.kind p e.tag c s) := by
  simp [drainList, hn, applyEntry, ht, recordRefusal_eq]

end Sys2Proof.Machine
end

