-- ==== Sys2Proof/Tests/Slice0.lean ====
section
/-! SUPPORT. Tests of the model: the well-formedness checks, frames written out byte by byte, the worked examples of
  the
manual as single steps, and for every statement with hypotheses a named witness that meets them. Expected values are
the manual's own figures, or worked by hand from its rules; each test names the section. -/

namespace Sys2Proof.Tests

set_option Elab.async false

open Sys2Proof Sys2Proof.Machine

/-! ## The states the tests start from -/

/-- Power-on with the start-up over. -/
def ready : State := { State.reset with pi := { State.reset.pi with hub := .ready, startUpLeft := 0 } }

/-- A port that has been heard. -/
def heard (q : PortRec) : PortRec := { q with link := .active, silence := some q.timeout }

/-- `ready` with the three ports ACTIVE. -/
def linked : State :=
  { ready with pi := { ready.pi with ports := { cabin := heard (PortRec.reset 2000), plant := heard (PortRec.reset
    10000)
                                                hoist := heard (PortRec.reset 1000) } } }

/-- A RUNNING wheel at its target. -/
def turning (target : Int) : WheelRec := { WheelRec.reset with state := .running, target := target, acc := 10 *
  target }

/-- The worked case of section 6.2 as a state: cutting at 20.0 m, S_eff 220 under a ceiling of 250, the return PUMPING
2,500 of 3,000, the sensor OK. -/
def cutting : State :=
  { linked with
    mfe := { linked.mfe with sensor := .ok, window := List.replicate 8 { x := 110, y := 40, psi := 50 } }
    dr := { linked.dr with state := .valid, depth := 200000, toe := 200000, countReceived := true, datum := 200000 }
    zt := { linked.zt with selectionDepth := 200000 }
    wg := { linked.wg with wheels := { a := turning 199, b := turning 241 }, demand := 220, ceiling := 250, sEff :=
      220
                           fallbackFlag := false, trim := -21 }
    slu := { linked.slu with actual := .auto, offeredTrim := -21 }
    rc := { linked.rc with state := .pumping, qc := 2500, qp := 3000, qEff := 2500, pump := 2500, ready := true
                           feedLimit := 60 } }

/-- `cutting` with a segment open at 82.5 m and an empty table before it. -/
def surveying (u : Su) : State := { cutting with su := { u with claimant := some .cabin } }

/-- A recovery of wheel A in a phase, `acc` the reference accumulator. -/
def recovering (r : Recovery) (acc : Int) : State :=
  { cutting with
    wg := { cutting.wg with wheels := { a := { WheelRec.reset with state := .recovering, acc := acc }
                                        b := { WheelRec.reset with state := .standby } }, trim := 0, demand := 150 }
    slu := { cutting.slu with actual := .frozen, offeredTrim := 0 }
    sru := { cutting.sru with record := some r }
    rc := { cutting.rc with feedLimit := 0 } }

def rec0 : Recovery := { wheel := .a, phase := .stopping, burst := 1, phaseTimer := none, burstTimer := none }

/-- The state after one command. -/
def run (c : Instr) (s : State) : State :=
  match exec c s with
  | .next t => t
  | .fault _ => s
  | .refused _ => s

/-- The status, the payload and its length in the last reply of a port. -/
def statusOf (p : Port) (s : State) : Option Status := (s.port p).lastReply.map (·.status)
def valuesOf (p : Port) (s : State) : Option (List Byte) := (s.port p).lastReply.map (·.payload)
def lengthOf (p : Port) (s : State) : Option Nat := (s.port p).lastReply.map (·.payload.length)

/-- The code of the last refusal recorded for a port. -/
def refusalOf (p : Port) (s : State) : Option Status := (s.port p).rejection.map (·.code)

/-- The events latched for a port. -/
def latchedAt (p : Port) (e : Event) (s : State) : Bool := (s.eu.ports.get p).latched.getLsbD (eventNumber e)

/-- Four payload bytes, low byte first. -/
def n4 (n : Nat) : List Byte := bytes32 (BitVec.ofNat 32 n)
def i4 (v : Int) : List Byte := bytes32 (BitVec.ofInt 32 v)
def n1 (n : Nat) : List Byte := [BitVec.ofNat 8 n]

/-- Whether a step answers a next state. -/
def goesOn (s : State) : Bool :=
  match step s with
  | .next _ => true
  | .fault _ => false
  | .refused _ => false

/-! ## Well-formedness: an ill-formed term for each check, refused -/

theorem test_illformed_long_payload : (Instr.halt .cabin 7 (List.replicate 61 0)).wellFormed = false := by
  decide +kernel
theorem test_wellformed_full_payload : (Instr.halt .cabin 7 (List.replicate 60 0)).wellFormed = true := by
  decide +kernel
theorem test_illformed_good_candidate :
    (Instr.badFrame .cabin (frameBytes 14 7 [])).wellFormed = false := by decide +kernel
theorem test_illformed_known_kind : (Instr.unknownKind .cabin 54 7).wellFormed = false ∧
    (Instr.unknownKind .cabin 0 7).wellFormed = true ∧ (Instr.unknownKind .cabin 55 7).wellFormed = true := by
  decide +kernel

/-! ## Frames, written out byte by byte from R177 and R181 -/

theorem test_crc_check_value :
    crc16 [0x31, 0x32, 0x33, 0x34, 0x35, 0x36, 0x37, 0x38, 0x39] = 0x29B1#16 := by decide +kernel

/-- R177: a candidate with one byte too many, a wrong check or a wrong marker is bad. -/
theorem test_frame_bad : readFrame ([0xA5, 0x0E, 0x07, 0x00, 0x4E, 0x0A] ++ [0]) = none ∧ readFrame [0xA5, 0x0E,
  0x07, 0x00, 0x4E, 0x0B] = none ∧ readFrame [0x5A, 0x0E, 0x07, 0x00, 0x4E, 0x0A] = none := by
  decide +kernel

/-- halt on the cabin port. -/
theorem test_frame_halt :
    commandOfFrame .cabin [0xA5, 0x0E, 0x07, 0x00, 0x4E, 0x0A]
      = .halt .cabin 0x07 [] := by decide +kernel

/-- REPORT_ROPE_COUNT 52,340 of the hoist. -/
theorem test_frame_reportRopeCount :
    commandOfFrame .hoist [0xA5, 0x03, 0x21, 0x04, 0x74, 0xCC, 0x00, 0x00, 0x0B, 0xF0]
      = .reportRopeCount .hoist 0x21 [0x74, 0xCC, 0x00, 0x00] := by decide +kernel

/-- SET_WHEEL_DEMAND -5. -/
theorem test_frame_setWheelDemand :
    commandOfFrame .cabin [0xA5, 0x0A, 0x01, 0x02, 0xFB, 0xFF, 0x9E, 0xBD]
      = .setWheelDemand .cabin 0x01 [0xFB, 0xFF] := by decide +kernel

/-- QUERY_EVENTS. -/
theorem test_frame_queryEvents :
    commandOfFrame .plant [0xA5, 0x36, 0xFF, 0x00, 0xB8, 0x66]
      = .queryEvents .plant 0xFF [] := by decide +kernel

/-- SET_PUMP_DEMAND 2,500. -/
theorem test_frame_setPumpDemand :
    commandOfFrame .cabin [0xA5, 0x27, 0x09, 0x04, 0xC4, 0x09, 0x00, 0x00, 0xA0, 0x5C]
      = .setPumpDemand .cabin 0x09 [0xC4, 0x09, 0x00, 0x00] := by decide +kernel

/-- SET_PLATE S1 40. -/
theorem test_frame_setPlate :
    commandOfFrame .cabin [0xA5, 0x17, 0x03, 0x05, 0x02, 0x28, 0x00, 0x00, 0x00, 0xA6, 0x1F]
      = .setPlate .cabin 0x03 [0x02, 0x28, 0x00, 0x00, 0x00] := by decide +kernel

/-- SURVEY_WINDOW 0 1023. -/
theorem test_frame_surveyWindow :
    commandOfFrame .plant [0xA5, 0x22, 0x05, 0x08, 0x00, 0x00, 0x00, 0x00, 0xFF, 0x03, 0x00, 0x00, 0x27, 0xBA]
      = .surveyWindow .plant 0x05 [0x00, 0x00, 0x00, 0x00, 0xFF, 0x03, 0x00, 0x00] := by decide +kernel

/-- TEST_INJECT hoist 16. -/
theorem test_frame_testInject :
    commandOfFrame .cabin [0xA5, 0x2F, 0x06, 0x05, 0x02, 0x10, 0x00, 0x00, 0x00, 0x2E, 0x94]
      = .testInject .cabin 0x06 [0x02, 0x10, 0x00, 0x00, 0x00] := by decide +kernel

/-- LOAD_ZONE 0 150,000 SOFT 300 2,800 3,200 150 L1. -/
theorem test_frame_loadZone :
    commandOfFrame .cabin [0xA5, 0x07, 0x02, 0x1A, 0x00, 0x00, 0x00, 0x00, 0xF0, 0x49, 0x02, 0x00, 0x00, 0x2C, 0x01,
      0x00, 0x00, 0xF0, 0x0A, 0x00, 0x00, 0x80, 0x0C, 0x00, 0x00, 0x96, 0x00, 0x00, 0x00, 0x01, 0x89, 0xCC]
      = .loadZone .cabin 0x02 [0x00, 0x00, 0x00, 0x00, 0xF0, 0x49, 0x02, 0x00, 0x00, 0x2C, 0x01, 0x00, 0x00, 0xF0,
        0x0A, 0x00, 0x00, 0x80, 0x0C, 0x00, 0x00, 0x96, 0x00, 0x00, 0x00, 0x01] := by decide +kernel

/-- QUERY_WHEELS. -/
theorem test_frame_queryWheels :
    commandOfFrame .hoist [0xA5, 0x11, 0x08, 0x00, 0x31, 0x66]
      = .queryWheels .hoist 0x08 [] := by decide +kernel

/-- QUERY_RECOVERY. -/
theorem test_frame_queryRecovery :
    commandOfFrame .hoist [0xA5, 0x13, 0x08, 0x00, 0x5F, 0x06]
      = .queryRecovery .hoist 0x08 [] := by decide +kernel

/-- QUERY_STEERING. -/
theorem test_frame_querySteering :
    commandOfFrame .hoist [0xA5, 0x18, 0x08, 0x00, 0xAF, 0xF7]
      = .querySteering .hoist 0x08 [] := by decide +kernel

/-- R182: a valid frame of kind 55 is UNKNOWN_KIND. -/
theorem test_frame_unknown : commandOfFrame .hoist [0xA5, 0x37, 0x04, 0x02, 0x01, 0x02, 0xCD, 0xD4] = .unknownKind
  .hoist 55 4 := by decide +kernel

/-- R180: the reply to HALT, marker 0x5A, status DONE, high byte of the check first. -/
theorem test_reply_bytes : ((run (.halt .cabin 7 []) ready).port .cabin).lastReply.map Reply.bytes
    = some [0x5A, 0x0E, 0x07, 0x00, 0x00, 0xA3, 0x0A] := by decide +kernel

/-! ## Measurement Front End (chapter 1) -/

/-- The payload of SET_SCALER. -/
def scaler (i n r od : Nat) : List Byte := n1 i ++ n4 n ++ n4 r ++ n4 od

/-- Section 1.1, worked checks: ratio exactly 2.5 is taken, and 1,000 counts then give 2,500. -/
theorem test_setScaler_taken :
    (run (.setScaler .cabin 1 (scaler 0 170 17 4)) ready).mfe.depthScaler = { n := 170, r := 17, od := 4 } ∧
    (run (.setScaler .cabin 1 (scaler 0 170 17 4)) ready).mfe.depthScaler.convert 1000 = 2500 ∧
    (run (.setScaler .cabin 1 (scaler 1 40 2 2)) ready).mfe.tachScaler = { n := 40, r := 2, od := 2 } := by decide +kernel

/-- Section 1.1, worked checks: the three refusals, and LOCKED once the datum is set. -/
theorem test_setScaler_refused :
    refusalOf .cabin (run (.setScaler .cabin 1 (scaler 0 511 2 4)) ready) = some .outOfRange ∧
    refusalOf .cabin (run (.setScaler .cabin 1 (scaler 2 3 31 4)) ready) = some .outOfRange ∧
    refusalOf .cabin (run (.setScaler .cabin 1 (scaler 2 36 2 3)) ready) = some .outOfRange ∧
    refusalOf .cabin (run (.setScaler .cabin 1 (scaler 0 170 17 4)) cutting) = some .locked := by decide +kernel

/-- Section 1.2, worked sequence: the window of t0. -/
def window0 : List SampleSet := [104, 106, 108, 110, 112, 110, 108, 106].map fun x => { x := x, y := 0, psi := 0 }

/-- Section 1.2, t0 and t1: the mean is 108, then 104 leaves, 120 joins and the mean is 110. -/
theorem test_sampleSlot_window : windowMean { cutting.mfe with window := window0 } (·.x) = 108 ∧
    windowMean (run (.sampleSlot (.whole true 120 0 0)) { cutting with mfe := { cutting.mfe with window := window0 } }).mfe
      (·.x) = 110 := by decide +kernel

/-- R7, R9: the fifth invalid set in a row makes the sensor LOST; the eighth valid set makes it OK and ends STARTING. -/
theorem test_sampleSlot_sensor :
    (let s := run (.sampleSlot (.whole false 0 0 0)) { cutting with mfe := { cutting.mfe with invalidCount := 4 } }
     s.mfe.sensor = .lost ∧ s.mfe.window = [] ∧ s.slu.actual = .frozen ∧ latchedAt .plant .sensorLost s = true) ∧
    (let s := run (.sampleSlot (.whole true 6000 0 0))
        { State.reset with mfe := { State.reset.mfe with window := List.replicate 7 { x := 0, y := 0, psi := 0 } } }
     s.mfe.sensor = .ok ∧ s.pi.hub = .ready ∧ s.mfe.newestSaturated = true ∧
     s.mfe.window.getLast? = some { x := 5000, y := 0, psi := 0 }) := by decide +kernel

theorem test_sensorLost : (run .sensorLost cutting).mfe.sensor = .lost ∧ (run .sensorLost cutting).mfe.window = [] ∧
    run .sensorLost ready = ready := by decide +kernel

/-- R13 with 40 / 2 / 1: 12 pulses backward are −240; 30 forward are 600, clamped to 500. The fourth zero gate in a row
below the stall pressure is the tach fault (R60, R61). -/
theorem test_tachGateEnd :
    (run (.tachGateEnd .a 12 false) cutting).mfe.tach.a = { speed := -240, pulses := 12, saturated := false } ∧
    (run (.tachGateEnd .b 30 true) cutting).mfe.tach.b = { speed := 500, pulses := 30, saturated := true } ∧
    (run (.tachGateEnd .a 0 true) cutting).wg.wheels.a.zeroGates = 1 ∧
    (run (.tachGateEnd .a 0 true) { cutting with wg := { cutting.wg with
        wheels := { cutting.wg.wheels with a := { turning 199 with zeroGates := 3 } } } }).wg.wheels.a.state
      = .tachFault := by decide +kernel

theorem test_tachFault :
    (run (.tachFault .b) cutting).wg.wheels = {
        a := { WheelRec.reset with state := .standby, acc := 1990 }, b := { WheelRec.reset with state := .tachFault } } ∧
    (run (.tachFault .b) cutting).rc.feedLimit = 0 ∧ latchedAt .hoist .tachFault (run (.tachFault .b) cutting) = true := by
  decide +kernel

/-! ## Depth Reference (chapter 2) -/

/-- Section 2.2, worked sequence: the datum of t2 standing. -/
def dated (depth toe : Nat) (st : DepthState) : State :=
  { cutting with dr := { cutting.dr with state := st, depth := depth, toe := toe, c0 := 52000, lastCount := 52000
                                         datum := 15000 }
                 zt := { cutting.zt with selectionDepth := depth } }

/-- t1 and t2: the first count in UNSET gives no depth; SET_DATUM of the hoist makes it the datum count. -/
theorem test_setDatum :
    (let s := run (.setDatum .hoist 1 (n4 15000))
        { linked with dr := { linked.dr with lastCount := 52000, countReceived := true } }
     s.dr.c0 = 52000 ∧ s.dr.depth = 15000 ∧ s.dr.toe = 15000 ∧ s.dr.state = .valid ∧
     valuesOf .hoist s = some (n4 15000 ++ [1])) ∧
    statusOf .cabin (run (.setDatum .cabin 1 (n4 200001)) cutting) = some .outOfRange ∧
    statusOf .cabin (run (.setDatum .cabin 1 (n4 0)) linked) = some .wrongState := by decide +kernel

/-- t1, t3, t4. -/
theorem test_reportRopeCount_draw :
    (let s := run (.reportRopeCount .hoist 1 (i4 52000)) linked
     s.dr.state = .unset ∧ s.dr.lastCount = 52000 ∧ s.dr.depth = 0) ∧
    (let s := run (.reportRopeCount .hoist 1 (i4 52340)) (dated 15000 15000 .valid)
     s.dr.depth = 19000 ∧ s.dr.toe = 19000) ∧
    (let s := run (.reportRopeCount .hoist 1 (i4 51900)) (dated 19000 19000 .valid)
     s.dr.depth = 13823 ∧ s.dr.toe = 19000) := by decide +kernel

/-- t5 and t7: ABOVE_DATUM, and the count that ends STALE. -/
theorem test_reportRopeCount_flags :
    (let s := run (.reportRopeCount .hoist 1 (i4 39000)) (dated 13823 19000 .valid)
     s.dr.depth = 0 ∧ s.dr.aboveDatum = true ∧ s.dr.toe = 19000) ∧
    (let s := run (.reportRopeCount .hoist 1 (i4 60500)) (dated 0 19000 .stale)
     s.dr.depth = 115016 ∧ s.dr.state = .valid ∧ s.dr.aboveDatum = false ∧ s.dr.toe = 115016) ∧
    (let s := run (.reportRopeCount .hoist 1 (i4 0x7FFFFFFF)) (dated 0 19000 .valid)
     s.dr.depth = 3200000 ∧ s.dr.range = true ∧ latchedAt .cabin .depthRange s = true) := by decide +kernel

/-- Section 2.4, worked sequence: t2 and t13. -/
theorem test_snapshotIntervalExpiry :
    (run .snapshotIntervalExpiry
      { cutting with dr := { cutting.dr with toe := 180400, history := [180200] } }).dr.fMeas = 240 ∧
    (run .snapshotIntervalExpiry
      { cutting with dr := { cutting.dr with toe := 182400, fMeas := 240
                                             history := (List.range 12).map (180200 + 200 * ·) } }).dr.fMeas = 218 ∧
    (run .snapshotIntervalExpiry
      { cutting with dr := { cutting.dr with toe := 180400, history := [180200] } }).rc.qFloor = 2765 := by decide +kernel

/-- Section 2.5: the cross-check at 200.0333 m. -/
def compareAt (outRun inRun : Nat) (disagree : Bool) : State :=
  { cutting with dr := { cutting.dr with depth := 2000333, toe := 2000333, crossCheck := .comparing, outRun := outRun
                                         inRun := inRun, disagree := disagree } }

/-- Section 2.5, worked sequence: t0, t3, t4 and t7. -/
theorem test_headPressureSample :
    (let s := run (.headPressureSample 206010) (compareAt 0 0 false)
     s.dr.hp = 2000000 ∧ s.dr.inRun = 1 ∧ s.dr.disagree = false) ∧
    (let s := run (.headPressureSample 400001) (compareAt 2 0 false)
     s.dr.hp = 3883306 ∧ s.dr.outRun = 2 ∧ s.mfe.headPressure = { value := 400000, saturated := true }) ∧
    (let s := run (.headPressureSample 195000) (compareAt 2 0 false)
     s.dr.hp = 1893111 ∧ s.dr.outRun = 3 ∧ s.dr.disagree = true ∧ latchedAt .hoist .depthDisagree s = true ∧
     s.slu.actual = .frozen) ∧
    (let s := run (.headPressureSample 206010) (compareAt 0 2 true)
     s.dr.inRun = 3 ∧ s.dr.disagree = false) := by decide +kernel

theorem test_depthDisagree : (run .depthDisagree (compareAt 2 0 false)).dr.disagree = true ∧
    run .depthDisagree cutting = cutting := by decide +kernel

theorem test_disagreeClear : (run .disagreeClear (compareAt 0 2 true)).dr.disagree = false ∧
    run .disagreeClear cutting = cutting := by decide +kernel

/-- R32: the ends of both ranges, and one beyond. -/
theorem test_setDepthCheck :
    (let s := run (.setDepthCheck .cabin 1 (n4 50000 ++ n4 1000)) ready
     s.dr.offset = 50000 ∧ s.dr.band = 1000) ∧
    refusalOf .cabin (run (.setDepthCheck .cabin 1 (n4 50001 ++ n4 1000)) ready) = some .outOfRange := by decide +kernel

/-! ## Ground Zone Table (chapter 3) -/

/-- The payload of LOAD_ZONE. -/
def zone (k upper cls speed hold stall feed selector : Nat) : List Byte :=
  n4 k ++ n4 upper ++ n1 cls ++ n4 speed ++ n4 hold ++ n4 stall ++ n4 feed ++ n1 selector

def soft : ZoneEntry :=
  { upper := 150000, cls := .soft, speedCeiling := 300, holdPressure := 2800, stallPressure := 3200, feedCeiling := 150
    selector := .l1 }
def mixed : ZoneEntry :=
  { upper := 820000, cls := .mixed, speedCeiling := 250, holdPressure := 3400, stallPressure := 3800, feedCeiling := 80
    selector := .l1 }
def hard : ZoneEntry :=
  { upper := 1960000, cls := .hard, speedCeiling := 200, holdPressure := 3800, stallPressure := 4200, feedCeiling := 40
    selector := .l0 }
def rock : ZoneEntry :=
  { upper := 3200000, cls := .rock, speedCeiling := 150, holdPressure := 4000, stallPressure := 4400, feedCeiling := 20
    selector := .l0 }

/-- The four-entry table of section 3.2, t5. -/
def table4 : List ZoneEntry := [soft, mixed, hard, rock]

/-- A state with a zone table, its current zone handed. -/
def zoned (es : List ZoneEntry) (x : Nat) (s : State) : State :=
  let z := zoneAt { s with zt := { s.zt with entries := es } } x
  { s with zt := { entries := es, current := zoneIndexAt es x, selectionDepth := x }
           wg := { s.wg with zoneCeiling := z.speedCeiling, zoneHold := z.holdPressure, zoneStall := z.stallPressure }
           rc := { s.rc with feedCeiling := z.feedCeiling } }

/-- Section 3.2, worked sequence: t1 and t7. -/
theorem test_loadZone :
    (let s := run (.loadZone .cabin 1 (zone 0 150000 0 300 2800 3200 150 1)) (zoned [] 183500 ready)
     s.zt.entries = [soft] ∧ s.zt.current = 0 ∧ latchedAt .hoist .zoneChange s = true ∧ s.wg.zoneCeiling = 300) ∧
    (let s := run (.loadZone .cabin 1 (zone 1 180000 1 250 3400 3800 80 1)) (zoned table4 183500 ready)
     s.zt.entries = [soft, { mixed with upper := 180000 }, hard, rock] ∧ s.zt.current = 2 ∧ s.rc.feedCeiling = 40) := by
  decide +kernel

/-- Section 3.2, worked sequence: t2 and t6, and the LOAD_ZONE 2 with bound 170,000 under the table of t8. -/
theorem test_loadZone_refused :
    refusalOf .cabin (run (.loadZone .cabin 1 (zone 2 1960000 2 200 3800 4200 40 0)) (zoned [soft] 183500 ready))
      = some .order ∧
    refusalOf .cabin (run (.loadZone .cabin 1 (zone 3 3200000 3 150 4400 4000 20 0)) (zoned table4 183500 ready))
      = some .outOfRange ∧
    refusalOf .cabin (run (.loadZone .cabin 1 (zone 2 170000 2 200 3800 4200 40 0))
      (zoned [soft, { mixed with upper := 180000 }] 183500 ready)) = some .order := by decide +kernel

/-- Section 3.2, worked sequence: t8. -/
theorem test_dropZone :
    (let s := run (.dropZone .cabin 1 (n4 2)) (zoned [soft, { mixed with upper := 180000 }, hard, rock] 183500 ready)
     s.zt.entries.length = 2 ∧ s.zt.current = 1 ∧ latchedAt .cabin .zoneChange s = true) ∧
    refusalOf .cabin (run (.dropZone .cabin 1 (n4 8)) ready) = some .outOfRange := by decide +kernel

/-- Section 3.3, a descent through the zones. -/
theorem test_zoneIndexAt : [149990, 150000, 819999, 1985400, 1950000].map (zoneIndexAt table4) = [0, 1, 1, 3, 2] := by
  decide +kernel

/-! ## Wheel Governor and Stall Recovery (chapters 4 and 5) -/

theorem test_setWheelDemand :
    (let s := run (.setWheelDemand .cabin 1 [0xFB, 0xFF]) ready
     s.wg.demand = 0 ∧ statusOf .cabin s = some .takenClamped) ∧
    (let s := run (.setWheelDemand .cabin 1 [0x5E, 0x01]) ready
     s.wg.demand = 350 ∧ statusOf .cabin s = some .taken) := by decide +kernel

theorem test_setRamp :
    (run (.setRamp .cabin 1 (n4 4)) ready).wg.ramp = 5 ∧ (run (.setRamp .cabin 1 (n4 101)) ready).wg.ramp = 100 ∧
    statusOf .cabin (run (.setRamp .cabin 1 (n4 100)) ready) = some .taken := by decide +kernel

theorem test_setFallbackSpeed : (run (.setFallbackSpeed .cabin 1 (n4 150)) ready).wg.fallback = 150 ∧
    refusalOf .cabin (run (.setFallbackSpeed .cabin 1 (n4 151)) ready) = some .outOfRange := by decide +kernel

/-- R52: FALLBACK follows the return state and the fallback speed at once, the ceiling only at the next update. -/
theorem test_fallbackFlag :
    ((run .plantReadyFall cutting).wg.fallbackFlag = true ∧ (run .plantReadyFall cutting).wg.ceiling = 250) ∧
    (let s := zoned [{ rock with speedCeiling := 100 }] 0 ready
     (run (.setFallbackSpeed .cabin 1 (n4 99)) s).wg.fallbackFlag = true ∧
     (run (.setFallbackSpeed .cabin 1 (n4 100)) s).wg.fallbackFlag = false) := by decide +kernel

/-- Section 4.3, worked cases: steering in AUTO, and the return priming with FALLBACK set. Section 4.7: t1, t20. -/
theorem test_governorUpdate :
    (let s := run (.governorUpdate 0 0) cutting
     s.wg.wheels.a.target = 199 ∧ s.wg.wheels.b.target = 241 ∧ s.wg.trim = -21) ∧
    (let s := run (.governorUpdate 0 0) { cutting with rc := { cutting.rc with state := .priming } }
     s.wg.ceiling = 30 ∧ s.wg.sEff = 30 ∧ s.wg.trim = -7 ∧ s.wg.wheels.a.target = 23 ∧ s.wg.wheels.b.target = 30 ∧
     s.wg.fallbackFlag = true) ∧
    (let s := run (.governorUpdate 0 0) { cutting with wg := { cutting.wg with
        wheels := { a := { WheelRec.reset with state := .halting, acc := 90 }
                    b := { WheelRec.reset with state := .halting, acc := 510 } } } }
     s.wg.wheels.a.state = .halted ∧ s.wg.wheels.a.acc = 0 ∧ s.wg.wheels.b.acc = 410 ∧
     s.wg.wheels.b.state = .halting ∧ latchedAt .hoist .halted s = true) ∧
    (let s := run (.governorUpdate 4320 0) (zoned [hard] 200000 { cutting with
        slu := { cutting.slu with offeredTrim := 0 }, wg := { cutting.wg with
        wheels := { a := { turning 200 with torqueHold := true, stallTimer := some 900 }, b := turning 200 } } })
     s.wg.wheels.a.state = .recovering ∧ s.wg.wheels.a.acc = 2000 ∧ s.wg.wheels.b.state = .standby ∧
     s.wg.wheels.b.acc = 2000 ∧ latchedAt .cabin .stall s = true ∧ s.sru.record = some rec0 ∧ s.rc.feedLimit = 0) := by
  decide +kernel

/-- Section 5.7, worked timeline: t15, t20, t40, t54, t73 and t170. -/
theorem test_governorUpdate_recovery :
    (let s := run (.governorUpdate 0 0) (recovering rec0 100)
     s.wg.wheels.a.acc = 0 ∧ s.sru.record.map (·.phase) = some .reversing) ∧
    (let s := run (.governorUpdate 0 0) (recovering { rec0 with phase := .reversing } (-400))
     s.wg.wheels.a.acc = -500 ∧ s.sru.record.map (·.phaseTimer) = some (some 0)) ∧
    (let s := run (.governorUpdate 0 0) (recovering { rec0 with phase := .reversing, phaseTimer := some 1900 } (-500))
     s.wg.wheels.a.acc = -400 ∧ s.sru.record = some { rec0 with phase := .rest }) ∧
    (let s := run (.governorUpdate 0 0) (recovering { rec0 with phase := .rest, phaseTimer := some 900 } 0)
     s.wg.wheels.a.acc = 20 ∧ s.sru.record = some { rec0 with phase := .probe }) ∧
    (let s := run (.governorUpdate 4300 0)
        (zoned [hard] 200000 (recovering { rec0 with phase := .probe, burstTimer := some 900 } 380))
     s.wg.wheels.a.acc = 400 ∧ s.sru.record = some { rec0 with burst := 2 }) ∧
    (let s := run (.governorUpdate 0 0) (recovering { rec0 with phase := .probe, burst := 2, phaseTimer := some 2900 } 500)
     s.sru.record = none ∧ s.sru.lastEnd = .recovered ∧ s.sru.lastBurst = 2 ∧ s.wg.wheels.a.state = .running ∧
     s.wg.wheels.a.acc = 500 ∧ s.wg.wheels.b.state = .running ∧ latchedAt .plant .recovered s = true) := by decide +kernel

/-- Section 4.7, t0: HALT under steering; and one that aborts a recovery with the reference negative (R48, R84). -/
theorem test_halt :
    (let s := run (.halt .cabin 1 []) cutting
     s.wg.wheels.a = { WheelRec.reset with state := .halting, acc := 1990 } ∧ s.wg.wheels.b.acc = 2410 ∧
     s.rc.feedLimit = 0 ∧ statusOf .cabin s = some .done) ∧
    (let s := run (.halt .cabin 1 []) (recovering { rec0 with phase := .reversing } (-400))
     s.wg.wheels.a = { WheelRec.reset with state := .halted } ∧ s.sru.record = none ∧ s.sru.lastEnd = .aborted ∧
     s.slu.actual = .auto) := by decide +kernel

/-- Wheels as a halt leaves them. -/
def atHalt (a b : WheelRec) : State := { cutting with wg := { cutting.wg with wheels := { a := a, b := b } } }
def haltedWheel : WheelRec := { WheelRec.reset with state := .halted }
def haltingWheel (acc : Int) : WheelRec := { WheelRec.reset with state := .halting, acc := acc }

/-- Section 4.7, t21 and t26. -/
theorem test_releaseHalt :
    statusOf .cabin (run (.releaseHalt .cabin 1 []) (atHalt haltedWheel (haltingWheel 410))) = some .wrongState ∧
    (run (.releaseHalt .cabin 1 []) (atHalt haltedWheel haltedWheel)).wg.wheels.b.state = .stopped := by decide +kernel

/-- R62, R83: a JAMMED wheel and its partner return to the normal law. -/
theorem test_clearJam :
    (let s := run (.clearJam .cabin 1 []) (atHalt { WheelRec.reset with state := .jammed }
        { WheelRec.reset with state := .standby })
     s.wg.wheels.a.state = .running ∧ s.wg.wheels.a.target = 199 ∧ s.wg.wheels.b.target = 241) ∧
    refusalOf .cabin (run (.clearJam .cabin 1 []) cutting) = some .wrongState := by decide +kernel

theorem test_setRecovery :
    (run (.setRecovery .cabin 1 (n4 8 ++ n4 100 ++ n4 500 ++ n4 5000 ++ n4 150 ++ n4 1000)) ready).sru.settings.bursts = 8 ∧
    refusalOf .cabin (run (.setRecovery .cabin 1 (n4 9 ++ n4 100 ++ n4 500 ++ n4 5000 ++ n4 150 ++ n4 1000)) ready)
      = some .outOfRange := by decide +kernel

theorem test_stallTimerExpiry :
    (run (.stallTimerExpiry .b) { cutting with wg := { cutting.wg with wheels := { cutting.wg.wheels with
        b := { turning 241 with stallTimer := some 1000 } } } }).sru.record = some { rec0 with wheel := .b } ∧
    run (.stallTimerExpiry .b) cutting = cutting := by decide +kernel

/-- R75, R82. -/
theorem test_phaseTimerExpiry :
    (run .phaseTimerExpiry (recovering { rec0 with phase := .rest, phaseTimer := some 1000 } 0)).sru.record
      = some { rec0 with phase := .probe } ∧
    (run .phaseTimerExpiry (recovering { rec0 with phase := .probe, phaseTimer := some 3000 } 500)).sru.lastEnd
      = .recovered := by decide +kernel

/-- R81: the next burst, and after the last one the wheel is JAMMED with its reference at 0. -/
theorem test_burstStallTimerExpiry :
    (run .burstStallTimerExpiry (recovering { rec0 with phase := .probe, burstTimer := some 1000 } 400)).sru.record
      = some { rec0 with burst := 2 } ∧
    (let s := run .burstStallTimerExpiry (recovering { rec0 with phase := .probe, burst := 3, burstTimer := some 1000 } 400)
     s.wg.wheels.a = { WheelRec.reset with state := .jammed } ∧ s.sru.lastEnd = .jammed ∧
     latchedAt .cabin .jammed s = true) := by decide +kernel

/-! ## Steering (chapters 6 and 7) -/

/-- Section 6.2: the worked case, and t1 to t3 of the successive computations. -/
theorem test_steerCompute :
    (let r := steerCompute Slu.reset.settings 220 420 (-150) 110 40 50
     r.trim = -21 ∧ r.uy = 11 ∧ r.ut = -10 ∧ r.plates = { n1 := 0, n2 := 10, s1 := 21, s2 := 11 }) ∧
    (let r := steerCompute Slu.reset.settings 220 418 (-148) (-300) 130 10
     r.trim = -5 ∧ r.plates = { n1 := 0, n2 := 0, s1 := 0, s2 := 0 }) ∧
    (let r := steerCompute Slu.reset.settings 220 410 (-147) (-402) 160 (-35)
     r.trim = 0 ∧ r.plates = { n1 := 7, n2 := 0, s1 := 0, s2 := 7 }) ∧
    (let r := steerCompute Slu.reset.settings 60 395 (-140) 200 (-60) 0
     r.trim = -15 ∧ r.plates = { n1 := 0, n2 := 0, s1 := 20, s2 := 20 }) := by decide +kernel

/-- Section 6.2, rounding at the halves: Kx 60 and ex −25 give −2. -/
theorem test_roundDiv : roundDiv (60 * -25) 1000 = -2 ∧ roundDiv (60 * 25) 1000 = 2 ∧ roundDiv (-3) 8 = 0 := by decide

/-- A steering unit in a mode with the manual setpoints of section 6.1. -/
def steering (auto : Bool) (m : SteerMode) : State :=
  { cutting with slu := { cutting.slu with
      chosenAuto := auto, actual := m, manualTrim := 6, manualPlates := { n1 := 0, n2 := 0, s1 := 15, s2 := 15 }
      commands := { n1 := 0, n2 := 10, s1 := 21, s2 := 11 } } }

/-- Section 6.1, worked sequence: t4 (the mode stays FROZEN), and MANUAL taken from AUTO applies its setpoints. -/
theorem test_setSteerMode :
    (let s := run (.setSteerMode .cabin 1 [2]) { steering true .frozen with dr := { cutting.dr with disagree := true } }
     s.slu.chosenAuto = false ∧ s.slu.actual = .frozen ∧ s.slu.commands.s1 = 21) ∧
    (let s := run (.setSteerMode .cabin 1 [2]) (steering true .auto)
     s.slu.actual = .manual ∧ s.slu.offeredTrim = 6 ∧ s.slu.commands = { n1 := 0, n2 := 0, s1 := 15, s2 := 15 } ∧
     s.psv.s1.command = 15) ∧
    refusalOf .cabin (run (.setSteerMode .cabin 1 [0]) ready) = some .outOfRange := by decide +kernel

/-- R98: S_eff 220 limits the trim to 30. -/
theorem test_setTrimManual :
    (let s := run (.setTrimManual .cabin 1 (i4 (-31))) (steering false .manual)
     s.slu.manualTrim = -30 ∧ s.slu.offeredTrim = -30 ∧ statusOf .cabin s = some .takenClamped) ∧
    (run (.setTrimManual .cabin 1 (i4 5)) (steering false .frozen)).slu.offeredTrim = -21 := by decide +kernel

/-- The payload of SET_STEER_GAINS. -/
def gains (kx startDepth : Nat) : List Byte :=
  n4 kx ++ n4 100 ++ n4 200 ++ n4 20 ++ n4 10 ++ n4 100 ++ n4 30 ++ n4 startDepth

theorem test_setSteerGains :
    (let s := run (.setSteerGains .cabin 1 (gains 200 200000)) cutting
     s.slu.settings.kx = 200 ∧ s.slu.settings.startDepth = 200000 ∧ s.slu.actual = .auto) ∧
    (run (.setSteerGains .cabin 1 (gains 40 200000))
      { cutting with dr := { cutting.dr with depth := 199999 } }).slu.actual = .off ∧
    refusalOf .cabin (run (.setSteerGains .cabin 1 (gains 201 0)) cutting) = some .outOfRange := by decide +kernel

/-- A plate that moves. -/
def moving (command extension left : Nat) (settle : Option Nat) : Plate :=
  { command := command, demand := command, extension := { value := extension, saturated := false }, move := .moving
    moveTimer := some left, settleTimer := settle }

/-- MANUAL with S1 as given. -/
def manualS1 (q : Plate) : State :=
  { steering false .manual with psv := { cutting.psv with s1 := q }
                                slu := { (steering false .manual).slu with commands := { noPlates with s1 := q.command } } }

/-- Section 7.3, worked sequence: t0, and the second SET_PLATE held. -/
theorem test_setPlate :
    (let s := run (.setPlate .cabin 1 (n1 2 ++ n4 40)) (manualS1 Plate.reset)
     s.psv.s1 = moving 40 0 8000 none ∧ s.slu.manualPlates.s1 = 40 ∧ statusOf .cabin s = some .taken) ∧
    (let s := run (.setPlate .cabin 2 (n1 2 ++ n4 25)) (manualS1 (moving 40 0 8000 none))
     s.psv.s1.command = 40 ∧ s.pi.ports.cabin.queue = [{ request := .setPlate 2 25, tag := 2 }] ∧
     s.pi.ports.cabin.hold = some 10000) := by decide +kernel

/-- Section 7.3: t8, and t11, where the move ends and the held SET_PLATE is applied at once. -/
theorem test_plateSample :
    (run (.plateSample 0 0 39 0) (manualS1 (moving 40 35 7200 none))).psv.s1 = moving 40 39 7200 (some 0) ∧
    (let q : PortRec := { cutting.pi.ports.cabin with queue := [{ request := .setPlate 2 25, tag := 2 }]
                                                      hold := some 8900 }
     let s := run (.plateSample 0 0 40 0) ((manualS1 (moving 40 40 6900 (some 200))).setPort .cabin q)
     s.psv.s1 = moving 25 40 8000 none ∧ s.pi.ports.cabin.queue = [] ∧ s.pi.ports.cabin.hold = none) ∧
    (run (.plateSample (-1) 101 0 0) ready).psv.n2 = { moving 0 100 8000 none with
      extension := { value := 100, saturated := true } } := by decide +kernel

theorem test_settleTimerExpiry : (run (.settleTimerExpiry .s1) (manualS1 (moving 40 41 7000 (some 300)))).psv.s1.move
    = .settled ∧ run (.settleTimerExpiry .s1) cutting = cutting := by decide +kernel

/-- Section 7.4, worked sequence: t3. -/
theorem test_moveTimerExpiry :
    (let s := run (.moveTimerExpiry .s1) (manualS1 (moving 24 9 0 none))
     s.psv.s1.move = .stuck ∧ s.psv.s1.command = 9 ∧ s.psv.s1.demand = 24 ∧ latchedAt .plant .plateStuck s = true) ∧
    run (.moveTimerExpiry .s1) cutting = cutting := by decide +kernel

/-- Section 7.4, worked sequence: t5. -/
theorem test_clearPlate :
    (let stuck : Plate := { moving 9 9 0 none with demand := 27, move := .stuck, moveTimer := none }
     let s := run (.clearPlate .cabin 1 [2]) { cutting with
       psv := { cutting.psv with s1 := stuck }, slu := { cutting.slu with commands := { noPlates with s1 := 27 } } }
     s.psv.s1 = moving 27 9 8000 none) ∧
    refusalOf .cabin (run (.clearPlate .cabin 1 [0]) cutting) = some .wrongState ∧
    refusalOf .cabin (run (.clearPlate .cabin 1 [4]) cutting) = some .outOfRange := by decide +kernel

/-! ## Survey runs and the check pass (chapters 8 and 9) -/

/-- Section 8.7: the zones and the depth of the worked run, 1 count to a depth unit at this datum. -/
def runAt (depth toe : Nat) (u : Su) : State :=
  { zoned table4 depth (surveying u) with
    dr := { cutting.dr with depth := depth, toe := toe, datum := 0 }
    mfe := { cutting.mfe with depthScaler := { n := 10, r := 10, od := 1 } } }

/-- A record of the worked run. -/
def survRec (top bottom : Nat) (sel : Selector) (cls : GroundClass) (count : Nat) (mx my dx dy : Int)
    (f : SurveyFlags) : SurveyRecord :=
  { top := top, bottom := bottom, selector := sel, cls := cls, count := count, meanX := mx, meanY := my, meanPsi := 10
    dx := dx, dy := dy, flags := f, check := none }

def r0 : SurveyRecord := survRec 815000 825000 .l1 .mixed 240 113 (-39) 11 (-4) { noFlags with held := true }
def r1 : SurveyRecord := survRec 825000 830000 .l0 .hard 60 121 (-35) 17 (-6) { noFlags with held := true }
def r2 : SurveyRecord := survRec 830000 835000 .l0 .hard 0 121 (-35) 23 (-7) { noFlags with interpolated := true }
def r3 : SurveyRecord := survRec 835000 840000 .l0 .hard 0 121 (-35) 29 (-9) { noFlags with interpolated := true }
def r4 : SurveyRecord := survRec 840000 842300 .l0 .hard 30 120 (-30) 32 (-10) { noFlags with short := true }

/-- The open segment of the worked run. -/
def seg (top length : Nat) (sel : Selector) (cls : GroundClass) (count : Nat) (x y psi : Int) (f : SurveyFlags) : Segment :=
  { top := top, length := length, selector := sel, cls := cls, count := count, sumX := x, sumY := y, sumPsi := psi
    flags := f }

/-- Section 8.7, t3 and t7: the segment opens at the next top, and the first record is written. -/
theorem test_run_opens_and_closes :
    (let s := run (.reportRopeCount .hoist 1 (i4 815040))
        (runAt 812300 812300 { Su.reset with state := .armed, nextTop := 815000 })
     s.su.state = .accumulating ∧ s.su.segment = some (seg 815000 10000 .l1 .mixed 0 0 0 0 noFlags)) ∧
    (let s := run (.reportRopeCount .hoist 1 (i4 825010))
        (runAt 815040 815040 { Su.reset with
          state := .accumulating, segment := some (seg 815000 10000 .l1 .mixed 240 27120 (-9360) 2400 r0.flags) })
     s.su.records = [r0] ∧ s.su.rx = 1130000 ∧ s.su.ry = -390000 ∧
     s.su.segment = some (seg 825000 5000 .l0 .hard 0 0 0 0 noFlags) ∧ s.eu.mark = some 200) := by decide +kernel

/-- Section 8.7, t10: a count that ends STALE closes three segments, two of them INTERPOLATED. -/
theorem test_run_closes_three :
    (let t := runAt 826900 826900 { Su.reset with
        state := .holding, records := [r0], rx := 1130000, ry := -390000
        segment := some (seg 825000 5000 .l0 .hard 60 7260 (-2100) 600 r1.flags) }
     let s := run (.reportRopeCount .hoist 1 (i4 842300)) { t with dr := { t.dr with state := .stale } }
     s.su.records = [r0, r1, r2, r3] ∧ s.su.rx = 2945000 ∧ s.su.ry = -915000 ∧ s.su.state = .accumulating ∧
     s.su.segment = some (seg 840000 5000 .l0 .hard 0 0 0 0 noFlags)) := by decide +kernel

/-- The worked run at t11. -/
def run11 : State :=
  runAt 842300 842300 { Su.reset with
    state := .accumulating, records := [r0, r1, r2, r3], rx := 2945000, ry := -915000
    segment := some (seg 840000 5000 .l0 .hard 29 3480 (-870) 290 noFlags) }

/-- Section 8.7, t11 and t12: the live deviation, and the SHORT record of the stop. -/
theorem test_surveyStop :
    (let s := run (.sampleSlot (.whole true 120 (-30) 10)) run11
     s.su.segment = some (seg 840000 5000 .l0 .hard 30 3600 (-900) 300 noFlags) ∧ s.su.liveX = 32 ∧ s.su.liveY = -10 ∧
     (run (.surveyStop .cabin 1 []) s).su.records = [r0, r1, r2, r3, r4] ∧
     (run (.surveyStop .cabin 1 []) s).su.state = .closed ∧ (run (.surveyStop .cabin 1 []) s).su.rx = 3221000) ∧
    statusOf .hoist (run (.surveyStop .hoist 1 []) run11) = some .notClaimant ∧
    statusOf .cabin (run (.surveyStop .cabin 1 []) cutting) = some .notClaimant := by decide +kernel

/-- Section 8.1: SURVEY_CLAIM of an unowned survey and of one owned by another port. -/
theorem test_surveyClaim :
    (let s := run (.surveyClaim .cabin 1 []) cutting
     s.su.state = .claimed ∧ s.su.claimant = some .cabin ∧ statusOf .cabin s = some .done) ∧
    (let s := run (.surveyClaim .hoist 1 []) run11
     s.su.claimant = some .cabin ∧ statusOf .hoist s = some .claimedByOther ∧ valuesOf .hoist s = some [0]) := by
  decide +kernel

theorem test_surveyRelease :
    (run (.surveyRelease .cabin 1 []) (surveying { Su.reset with state := .closed })).su.state = .idle ∧
    statusOf .cabin (run (.surveyRelease .cabin 1 []) run11) = some .runActive := by decide +kernel

/-- Section 8.7, t1. -/
theorem test_surveyConfig :
    (let s := run (.surveyConfig .cabin 1 (n4 5000 ++ n4 10000 ++ n4 815000 ++ n4 30))
        (surveying { Su.reset with state := .claimed })
     s.su.startDepth = 815000 ∧ statusOf .cabin s = some .done) ∧
    statusOf .cabin (run (.surveyConfig .cabin 1 (n4 2499 ++ n4 10000 ++ n4 0 ++ n4 30))
      (surveying { Su.reset with state := .claimed })) = some .outOfRange := by decide +kernel

theorem test_surveyClear : (run (.surveyClear .cabin 1 [])
    (surveying { Su.reset with state := .closed, records := [r0], rx := 5 })).su.records = [] ∧
    statusOf .cabin (run (.surveyClear .cabin 1 []) run11) = some .runActive := by decide +kernel

/-- Section 8.2, example: SURVEY_SET_POINTER 3 of five records sets RX to 2,300,000. -/
theorem test_surveySetPointer :
    (let s := run (.surveySetPointer .cabin 1 (n4 3))
        (surveying { Su.reset with state := .closed, records := [r0, r1, r2, r3, r4], rx := 3221000, ry := -984000 })
     s.su.records = [r0, r1, r2] ∧ s.su.rx = 2300000 ∧ s.su.ry = -700000 ∧ s.su.state = .closed) ∧
    statusOf .cabin (run (.surveySetPointer .cabin 1 (n4 1)) (surveying { Su.reset with state := .claimed }))
      = some .outOfRange := by decide +kernel

/-- Section 8.7, t2; and a start with the depth already below the next top. -/
theorem test_surveyStart :
    (let s := run (.surveyStart .cabin 1 []) (runAt 812300 812300 { Su.reset with state := .claimed, startDepth := 815000 })
     s.su.state = .armed ∧ s.su.nextTop = 815000) ∧
    (let s := run (.surveyStart .cabin 1 [])
        (runAt 841700 842300 { Su.reset with state := .closed, records := [r0, r1, r2, r3, { r4 with bottom := 841700 }] })
     s.su.state = .holding ∧ s.su.segment = some (seg 841700 5000 .l0 .hard 0 0 0 0 r0.flags)) ∧
    statusOf .cabin (run (.surveyStart .cabin 1 []) (surveying { Su.reset with state := .full })) = some .full := by
  decide +kernel

/-- R137: the widest window, and one beyond the table. -/
theorem test_surveyWindow :
    (let s := run (.surveyWindow .plant 1 (n4 2 ++ n4 1023)) cutting
     (s.port .plant).windowFirst = 2 ∧ (s.port .plant).windowLast = 1023 ∧ (s.port .plant).cursor = 2) ∧
    statusOf .plant (run (.surveyWindow .plant 1 (n4 2 ++ n4 1024)) cutting) = some .outOfRange := by decide +kernel

/-- R138 and section 11.2: record 0 of the worked run as 40 bytes (selector L1, class MIXED and HELD make the word 11),
and END beyond the table. -/
theorem test_readNext :
    (let s := run (.readNext .plant 1 []) (surveying { Su.reset with state := .closed, records := [r0] })
     lengthOf .plant s = some 40 ∧ (s.port .plant).cursor = 1 ∧ statusOf .plant s = some .done ∧
     (valuesOf .plant s).map (·.take 12) = some ([0, 0] ++ n4 815000 ++ n4 825000 ++ [11, 0])) ∧
    statusOf .plant (run (.readNext .plant 1 []) cutting) = some .end_ := by decide +kernel

/-- The check pass of section 9.8. -/
def checkAt (depth front target count : Nat) (x y : Int) : State :=
  runAt depth 842300 { Su.reset with
    state := .checking, records := [r0, r1, r2, r3, r4], rx := 3221000, ry := -984000, checkFront := front
    target := some target, checkCount := count, checkSumX := x, checkSumY := y }

/-- Section 9.8, t0. -/
theorem test_surveyCheck :
    (let s := run (.surveyCheck .cabin 1 [])
        (runAt 842000 842300 { Su.reset with state := .closed, records := [r0, r1, r2, r3, r4] })
     s.su.state = .checking ∧ s.su.target = some 4 ∧ s.su.checkFront = 842000) ∧
    statusOf .cabin (run (.surveyCheck .cabin 1 []) run11) = some .wrongState := by decide +kernel

/-- Section 9.8: t2 (AGREE), t4 (X_ONLY), t8 (a lowered frame holds) and t11 (Y_ONLY, then record 0 passed over). -/
theorem test_check_pass :
    (let s := run (.reportRopeCount .hoist 1 (i4 839990)) (checkAt 842000 842000 4 20 2480 (-640))
     s.su.target = some 3 ∧ s.su.checkCount = 0 ∧
     (s.su.records.map (·.check)).getLast? = some (some { count := 20, meanX := 124, meanY := -32, verdict := .agree })) ∧
    (let s := run (.reportRopeCount .hoist 1 (i4 834950)) (checkAt 839990 839990 3 40 6400 (-1400))
     (s.su.records.map (·.check))[3]? = some (some { count := 40, meanX := 160, meanY := -35, verdict := .xOnly })) ∧
    (run (.reportRopeCount .hoist 1 (i4 829600)) (checkAt 829000 829000 1 0 0 0)).su.state = .checkHolding ∧
    (let s := run (.reportRopeCount .hoist 1 (i4 812000)) (checkAt 829300 829000 1 30 3630 (-1980))
     s.su.state = .closed ∧ latchedAt .plant .checkDone s = true ∧ s.su.verdicts.yOnly = 1 ∧ s.su.verdicts.noData = 1 ∧
     (s.su.records.map (·.check)).take 2 = [some { count := 0, meanX := 0, meanY := 0, verdict := .noData },
       some { count := 30, meanX := 121, meanY := -66, verdict := .yOnly }]) := by decide +kernel

/-! ## The slurry return (chapter 10) -/

/-- The return of section 10.3 with the plant ready at 300.0 m³/h. -/
def returning (st : ReturnState) (qc qEff starvation : Nat) (timer : Option Nat) : State :=
  { cutting with rc := { cutting.rc with
      state := st, qc := qc, qEff := qEff, pump := if pumpOn st then qEff else 0, starvation := starvation
      primingTimer := timer, feedLimit := 0 } }

/-- Section 10.3, t0. -/
theorem test_setPumpDemand :
    (let s := run (.setPumpDemand .cabin 1 (n4 2500)) (returning .off 0 0 0 none)
     s.rc.state = .priming ∧ s.rc.pump = 2500 ∧ s.rc.primingTimer = some 30000) ∧
    (let s := run (.setPumpDemand .cabin 1 (n4 0)) cutting
     s.rc.state = .off ∧ s.rc.pump = 0 ∧ s.rc.feedLimit = 0) ∧
    statusOf .cabin (run (.setPumpDemand .cabin 1 (n4 7001)) cutting) = some .takenClamped := by decide +kernel

/-- Section 10.3, t4: at F_meas 240 the floor of the default transport is 276.5 m³/h; and one setting out of range. -/
theorem test_setTransport :
    (let s := run (.setTransport .cabin 1 (n4 320 ++ n4 120 ++ n4 150 ++ n4 30 ++ n4 20 ++ n4 2650 ++ n4 30000))
        { cutting with dr := { cutting.dr with fMeas := 240 } }
     s.rc.qSettle = 1909 ∧ s.rc.qFloor = 2765 ∧ s.rc.qEff = 2765 ∧ s.rc.pump = 2765) ∧
    refusalOf .cabin (run (.setTransport .cabin 1 (n4 219 ++ n4 120 ++ n4 150 ++ n4 30 ++ n4 20 ++ n4 2650 ++ n4 30000))
      cutting) = some .outOfRange := by decide +kernel

/-- R161: a ceiling of 260.0 m³/h under a floor of 276.5 is short; a ceiling of 0 stops the pump. -/
theorem test_setPlantCeiling :
    (let s := run (.setPlantCeiling .plant 1 (n4 2600))
        { cutting with rc := { cutting.rc with qConc := 2765, qFloor := 2765 }, dr := { cutting.dr with fMeas := 240 } }
     s.rc.qEff = 2600 ∧ s.rc.short = true ∧ latchedAt .cabin .transportShort s = true) ∧
    (let s := run (.setPlantCeiling .plant 1 (n4 0)) cutting
     s.rc.state = .waitingPlant ∧ s.rc.pump = 0 ∧ valuesOf .plant s = some (n4 0 ++ [1])) ∧
    statusOf .plant (run (.setPlantCeiling .plant 1 (n4 7001)) cutting) = some .doneClamped := by decide +kernel

/-- The feed limit of section 10.5 for a plant ceiling, a zone feed ceiling and two densities. -/
def feedCase (qp zoneFeed rhoS rhoR : Nat) : Nat :=
  (run (.reportDensity .plant 1 (n4 rhoS ++ n4 rhoR))
    { cutting with rc := { cutting.rc with qp := qp, feedCeiling := zoneFeed } }).rc.feedLimit

/-- Section 10.5, worked cases a to f. -/
theorem test_reportDensity :
    [feedCase 3000 60 1050 1050, feedCase 3000 60 1050 1420, feedCase 2000 150 1050 1300, feedCase 2000 150 1050 1500,
     feedCase 1800 150 1050 1050, feedCase 3000 200 1080 1050] = [60, 52, 150, 107, 0, 200] ∧
    statusOf .plant (run (.reportDensity .plant 1 (n4 999 ++ n4 1050)) cutting) = some .outOfRange := by decide +kernel

/-- Section 10.3, FLOW 36 / 2 / 1: half of 2,500 ends priming at 1,260, not at 1,242; three tenths of 2,765 starve at
828 for the fifth gate in a row. -/
theorem test_flowGateEnd :
    (run (.flowGateEnd 70) (returning .priming 2500 2500 0 (some 28000))).rc.state = .pumping ∧
    (run (.flowGateEnd 69) (returning .priming 2500 2500 0 (some 28000))).rc.state = .priming ∧
    (run (.flowGateEnd 46) (returning .pumping 2500 2765 3 none)).rc.starvation = 4 ∧
    (run (.flowGateEnd 47) (returning .pumping 2500 2765 3 none)).rc.starvation = 0 ∧
    (let s := run (.flowGateEnd 46) (returning .pumping 2500 2765 4 none)
     s.rc.state = .starved ∧ s.rc.pump = 2765 ∧ s.rc.starvation = 0 ∧ latchedAt .hoist .starved s = true) := by
  decide +kernel

theorem test_starvationCountExpiry : (run .starvationCountExpiry cutting).rc.state = .starved ∧
    run .starvationCountExpiry ready = ready := by decide +kernel

theorem test_primingTimerExpiry :
    (let s := run .primingTimerExpiry (returning .priming 2500 2500 0 (some 0))
     s.rc.state = .starved ∧ s.rc.primingTimer = none ∧ latchedAt .cabin .starved s = true) ∧
    run .primingTimerExpiry cutting = cutting := by decide +kernel

/-- The return on hold, the line low for `low` ms. -/
def onHold (high : Bool) (low : Nat) : State :=
  { returning .plantHold 2500 2500 0 none with
    rc := { (returning .plantHold 2500 2500 0 none).rc with ready := high, armed := true, lowFor := low } }

/-- Section 10.3, t10; section 10.4, t3 and the reset of a line gone high. -/
theorem test_resetReturn :
    (let s := run (.resetReturn .plant 1 []) (returning .starved 2500 2765 0 none)
     s.rc.state = .priming ∧ s.rc.primingTimer = some 30000 ∧ statusOf .plant s = some .done) ∧
    statusOf .cabin (run (.resetReturn .cabin 1 []) (onHold false 900)) = some .wrongState ∧
    (run (.resetReturn .cabin 1 []) (onHold true 0)).rc.state = .priming := by decide +kernel

/-- Section 10.4, t0 and t2. -/
theorem test_plantReadyFall :
    (let s := run .plantReadyFall cutting
     s.rc.state = .plantHold ∧ s.rc.armed = true ∧ s.rc.pump = 0 ∧ latchedAt .plant .plantHold s = true) ∧
    (run .plantReadyFall (onHold true 1200)).rc.lowFor = 0 := by decide +kernel

/-- Section 10.4, t1 and t4. -/
theorem test_plantReadyRise :
    (let s := run (.plantReadyRise 1200) (onHold false 0)
     s.rc.state = .plantHold ∧ s.rc.ready = true ∧ s.rc.pump = 0) ∧
    (let s := run (.plantReadyRise 0) (onHold false 2500)
     s.rc.state = .priming ∧ s.rc.armed = false ∧ s.rc.pump = 2500 ∧ s.rc.primingTimer = some 30000) ∧
    (run (.plantReadyRise 1) (onHold false 1999)).rc.state = .priming := by decide +kernel

/-! ## Ports and events (chapters 11 and 12) -/

/-- R181, section 11.5: lines of the authority table, and payload lengths as sums of widths. -/
theorem test_authority :
    [permitted .reportRopeCount .hoist, permitted .reportRopeCount .cabin, permitted .setDatum .plant,
     permitted .resetReturn .plant, permitted .resetReturn .hoist, permitted .ackEvents .hoist,
     permitted .setMarkWidth .plant, permitted .setPlantCeiling .cabin]
      = [true, false, false, true, false, true, false, false] := by decide

/-- Section 11.2: the statuses, the reply to an unknown kind, and a request in STARTING. -/
theorem test_arrival_checks :
    statusOf .plant (run (.halt .plant 1 []) ready) = some .notPermitted ∧
    statusOf .cabin (run (.halt .cabin 1 [0]) ready) = some .badLength ∧
    statusOf .cabin (run (.halt .cabin 1 []) State.reset) = some .starting ∧
    statusOf .cabin (run (.queryStatus .cabin 1 []) State.reset) = some .done ∧
    statusOf .hoist (run (.unknownKind .hoist 55 1) State.reset) = some .unknownKind := by decide +kernel

/-- R177: the count saturates; a bad candidate starts no timer and is not answered. -/
theorem test_badFrame :
    (let s := run (.badFrame .cabin [0xA5])
        (ready.setPort .cabin { ready.pi.ports.cabin with badFrames := 65534 })
     (s.port .cabin).badFrames = 65535 ∧ (s.port .cabin).link = .down ∧ (s.port .cabin).lastReply = none ∧
     ((run (.badFrame .cabin []) s).port .cabin).badFrames = 65535) := by decide +kernel

theorem test_powerOn : (run (.powerOn true) cutting).rc.ready = true ∧ (run (.powerOn true) cutting).pi.hub = .starting ∧
    run (.powerOn false) ready = State.reset := by decide +kernel

/-- A recovery in progress with some entries in the cabin queue. -/
def queued (entries : List Posted) : State :=
  (recovering rec0 1500).setPort .cabin
    { cutting.pi.ports.cabin with queue := entries.map fun r => { request := r, tag := 9 }, hold := some 9700 }

/-- Section 11.4, worked sequence: t2 waits behind the held head, and t4's sixth trim finds 8 entries. -/
theorem test_posted_queue :
    (let s := run (.setSteerMode .cabin 1 [2]) (queued [.setRamp 30])
     s.pi.ports.cabin.queue.length = 2 ∧ s.slu.chosenAuto = true ∧ s.pi.ports.cabin.hold = some 9700) ∧
    (let s := run (.setTrimManual .cabin 1 (i4 0)) (queued (List.replicate 8 (.setRamp 30)))
     s.pi.ports.cabin.queue.length = 8 ∧ statusOf .cabin s = some .queueFull ∧ s.pi.ports.cabin.refused = 0) := by
  decide +kernel

/-- Section 11.4, worked sequence: t5. -/
theorem test_holdTimerExpiry :
    (let s := run (.holdTimerExpiry .cabin)
        (queued [.setRamp 30, .setSteerMode 2, .setWheelDemand 120, .setTrimManual 0])
     s.pi.ports.cabin.queue.map (·.request) = [.setWheelDemand 120, .setTrimManual 0] ∧ s.slu.chosenAuto = false ∧
     s.pi.ports.cabin.hold = some 10000 ∧ s.pi.ports.cabin.refused = 1 ∧ refusalOf .cabin s = some .heldTooLong ∧
     latchedAt .cabin .refused s = true ∧ latchedAt .plant .refused s = false ∧ s.wg.ramp = 20) ∧
    run (.holdTimerExpiry .cabin) cutting = cutting := by decide +kernel

/-- R186: a head whose target is no longer held is applied; a held one waits on. -/
theorem test_postedHeadApply :
    (let s := run (.postedHeadApply .cabin) { queued [.setWheelDemand 120] with sru := cutting.sru }
     s.wg.demand = 120 ∧ s.pi.ports.cabin.queue = [] ∧ s.pi.ports.cabin.hold = none) ∧
    (run (.postedHeadApply .cabin) (queued [.setWheelDemand 120])).pi.ports.cabin.hold = some 9700 := by decide +kernel

/-- R189: the loss of the cabin halts the wheels and empties its queue; of the hoist makes the depth STALE. -/
theorem test_silenceTimerExpiry :
    (let s := run (.silenceTimerExpiry .cabin) (queued [.setRamp 30, .setWheelDemand 120])
     s.pi.ports.cabin.link = .lost ∧ s.pi.ports.cabin.queue = [] ∧ s.pi.ports.cabin.refused = 2 ∧
     refusalOf .cabin s = some .linkLost ∧ s.wg.wheels.a.state = .halting ∧ s.sru.lastEnd = .aborted ∧
     latchedAt .plant .portLost s = true ∧ latchedAt .cabin .portLost s = false) ∧
    (let s := run (.silenceTimerExpiry .hoist) cutting
     s.dr.state = .stale ∧ s.dr.depth = 200000 ∧ s.slu.actual = .off ∧ s.rc.feedLimit = 0 ∧
     latchedAt .cabin .portLost s = true) := by decide +kernel

theorem test_startUpTimerExpiry : (run .startUpTimerExpiry State.reset).pi.hub = .ready ∧
    run .startUpTimerExpiry cutting = cutting := by decide +kernel

theorem test_setPortTimeout :
    (run (.setPortTimeout .cabin 1 (n1 2 ++ n4 5000)) ready).pi.ports.hoist.timeout = 5000 ∧
    refusalOf .cabin (run (.setPortTimeout .cabin 1 (n1 2 ++ n4 5001)) ready) = some .outOfRange := by decide +kernel

/-- R192: a reply under injection carries the ones' complement of its check; the reply to TEST_INJECT does not. -/
theorem test_testInject :
    (let s := run (.testInject .cabin 1 (n1 1 ++ n4 16)) ready
     s.pi.ports.plant.injection = 16 ∧ statusOf .cabin s = some .done) ∧
    (let s := run (.halt .cabin 7 []) (ready.setPort .cabin { ready.pi.ports.cabin with injection := 1 })
     s.pi.ports.cabin.injection = 0 ∧ (s.pi.ports.cabin.lastReply.map fun r => r.check) = some (~~~ crc16 [14, 7, 0, 0])) ∧
    statusOf .cabin (run (.testInject .cabin 1 (n1 1 ++ n4 17)) ready) = some .outOfRange := by decide +kernel

theorem test_headRestart :
    (let s := run (.headRestart .cabin 1 []) (surveying { Su.reset with state := .closed, records := [r0] })
     s.wg.wheels.a = WheelRec.reset ∧ s.rc.state = .off ∧ s.su.state = .idle ∧ s.su.records = [r0] ∧
     s.dr.state = .valid ∧ s.slu.commands = noPlates ∧ latchedAt .hoist .restarted s = true ∧ s.rc.feedLimit = 0) := by
  decide +kernel

/-- EU with a cabin set latched and enabled. -/
def eventful (latched enabled : EventSet) : State :=
  { ready with eu := { ready.eu with ports := { ready.eu.ports with
      cabin := { latched := latched, enabled := enabled, mode := .activeLowOpen } } } }

/-- Section 12.3, worked sequence: t5, STALL (1) acknowledged with SEGMENT_CLOSED (9) latched but not enabled. -/
theorem test_ackEvents :
    (let s := run (.ackEvents .cabin 1 (n4 2)) (eventful 0x202 0x2)
     s.eu.ports.cabin.latched = 0x200 ∧ alertAsserted s.eu.ports.cabin = false ∧
     alertAsserted (eventful 0x202 0x2).eu.ports.cabin = true) ∧
    refusalOf .cabin (run (.ackEvents .cabin 1 (n4 0x80000)) ready) = some .outOfRange := by decide +kernel

theorem test_setEventEnables : (run (.setEventEnables .hoist 1 (n4 0x7FFFF)) ready).eu.ports.hoist.enabled = 0x7FFFF ∧
    refusalOf .plant (run (.setEventEnables .plant 1 (n4 0x80000)) ready) = some .outOfRange := by decide +kernel

theorem test_setAlertLine : (run (.setAlertLine .plant 1 [2]) ready).eu.ports.plant.mode = .pushPullHigh ∧
    refusalOf .cabin (run (.setAlertLine .cabin 1 [1]) (eventful 0 1)) = some .wrongState ∧
    refusalOf .cabin (run (.setAlertLine .cabin 1 [3]) ready) = some .outOfRange := by decide +kernel

theorem test_setMarkWidth : (run (.setMarkWidth .cabin 1 (n4 2000)) ready).eu.markWidth = 2000 ∧
    refusalOf .cabin (run (.setMarkWidth .cabin 1 (n4 9)) ready) = some .outOfRange := by decide +kernel

theorem test_widthTimerExpiry :
    (run .widthTimerExpiry { ready with eu := { ready.eu with mark := some 0 } }).eu.mark = none := by decide +kernel

/-- R178: the queries answer DONE with the lengths that the widths of their values add up to. -/
theorem test_query_lengths :
    [lengthOf .hoist (run (.queryMeasurements .hoist 1 []) cutting), lengthOf .plant (run (.queryDepth .plant 1 []) cutting),
     lengthOf .cabin (run (.queryWheels .cabin 1 []) cutting), lengthOf .cabin (run (.queryPlates .cabin 1 []) cutting),
     lengthOf .cabin (run (.querySteering .cabin 1 []) cutting), lengthOf .cabin (run (.querySurvey .cabin 1 []) cutting),
     lengthOf .cabin (run (.queryEvents .cabin 1 []) cutting)]
      = [some 100, some 66, some 100, some 96, some 139, some 98, some 19] := by decide +kernel

/-- The queries DEMAND, RECOVERY, CHECK, RETURN, STATUS, ZONE and PORT answer DONE. -/
theorem test_query_done :
    [statusOf .hoist (run (.queryDemand .hoist 1 []) cutting), statusOf .hoist (run (.queryRecovery .hoist 1 []) cutting),
     statusOf .hoist (run (.queryCheck .hoist 1 []) cutting), statusOf .hoist (run (.queryReturn .hoist 1 []) cutting),
     statusOf .hoist (run (.queryStatus .hoist 1 []) cutting), statusOf .hoist (run (.queryZone .hoist 1 (n4 8)) cutting),
     statusOf .hoist (run (.queryPort .hoist 1 [2]) cutting)] = List.replicate 7 (some .done) ∧
    statusOf .hoist (run (.queryZone .hoist 1 (n4 9)) cutting) = some .outOfRange ∧
    statusOf .hoist (run (.queryPort .hoist 1 [3]) cutting) = some .outOfRange := by decide +kernel

/-- Log entry 1: with no command waiting a millisecond passes, and each timer that reaches 0 queues its expiry. -/
def timed : State :=
  { (manualS1 (moving 40 0 1 none)) with
    rc := { cutting.rc with state := .priming, primingTimer := some 1 }
    dr := { cutting.dr with snapshotLeft := 1 }
    eu := { cutting.eu with mark := some 1 }
    pi := { cutting.pi with ports := { cutting.pi.ports with
              cabin := { cutting.pi.ports.cabin with hold := some 1 }
              hoist := { cutting.pi.ports.hoist with silence := some 1 } } } }

theorem test_tick : (match step timed with | .next t => t.pending | .fault _ => [] | .refused _ => [])
    = [.widthTimerExpiry, .primingTimerExpiry, .snapshotIntervalExpiry, .holdTimerExpiry .cabin, .moveTimerExpiry .s1,
       .silenceTimerExpiry .hoist] := by decide +kernel

/-! ## Witnesses: for each statement with hypotheses, states and operands that meet them, at the ends of the ranges -/

theorem witness_IdleMillisecond : timed.pending = [] ∧ State.reset.pending = [] := by decide

theorem witness_FrameRoundTrip :
    (Instr.halt .hoist 7 (List.replicate 60 0)).request = some (.halt, .hoist, 7, List.replicate 60 0) ∧
    (Instr.halt .hoist 7 (List.replicate 60 0)).wellFormed = true ∧
    (Instr.queryEvents .plant 255 []).request = some (.queryEvents, .plant, 255, []) ∧
    (Instr.queryEvents .plant 255 []).wellFormed = true := by decide +kernel

theorem witness_EveryRequestAnswered :
    (Instr.testInject .cabin 1 []).request = some (.testInject, .cabin, 1, []) ∧
    (Instr.halt .plant 1 [3]).request = some (.halt, .plant, 1, [3]) := by decide

theorem witness_FramesNotTaken : readFrame [] = none ∧ readFrame (0xA5 :: 14 :: 7 :: 61 :: List.replicate 63 0) = none ∧
    Kind.ofCode 0 = none ∧ Kind.ofCode 55 = none ∧ Kind.ofCode 255 = none ∧ (ready.port .cabin).injection = 0 ∧
    (cutting.port .cabin).link = .active := by decide +kernel

theorem witness_ArrivalRefusals : permitted .halt .plant = false ∧ permitted .halt .cabin = true ∧
    [(0 : Byte)].length ≠ payloadLength .halt ∧ ([] : List Byte).length = payloadLength .halt ∧
    State.reset.pi.hub = .starting := by decide

theorem witness_RoundIsNearest : 0 < 1 ∧ 0 < 8 := by decide

/-- `cutting` with a command at the front of the queue. -/
def front (c : Instr) : State := { cutting with pending := [c] }

theorem witness_ModeFollowsKept : ModeFollows (front .sensorLost) ∧ goesOn (front .sensorLost) = true := by decide +kernel
theorem witness_PlatesLegalKept : PlatesLegal (front (.plateSample 3 0 0 0)) ∧ goesOn (front (.plateSample 3 0 0 0)) = true :=
  ⟨by decide +kernel, by decide +kernel⟩
theorem witness_WheelsLegalKept : WheelsLegal (front (.tachFault .a)) ∧ goesOn (front (.tachFault .a)) = true := by
  decide +kernel
theorem witness_ReferencesLegalKept :
    ReferencesLegal (front (.governorUpdate 0 0)) ∧ goesOn (front (.governorUpdate 0 0)) = true := by decide +kernel
theorem witness_RecoveryLegalKept :
    RecoveryLegal { recovering { rec0 with phase := .rest, burst := 3, phaseTimer := some 1000 } 0 with
      pending := [.governorUpdate 0 0] } ∧ goesOn (front (.governorUpdate 0 0)) = true := by decide +kernel
theorem witness_ZonesLegalKept : ZonesLegal (zoned table4 3200000 ready) ∧
    goesOn { zoned table4 3200000 ready with pending := [.dropZone .cabin 1 (n4 2)] } = true :=
  ⟨by decide +kernel, by decide +kernel⟩
theorem witness_ReturnLegalKept : ReturnLegal (front .plantReadyFall) ∧ goesOn (front .plantReadyFall) = true :=
  ⟨by decide +kernel, by decide +kernel⟩
theorem witness_FeedPublishedKept : FeedPublished (front (.halt .cabin 1 [])) ∧ goesOn (front (.halt .cabin 1 [])) = true :=
  ⟨by decide +kernel, by decide +kernel⟩
theorem witness_DepthLegalKept :
    DepthLegal (front (.reportRopeCount .hoist 1 (n4 0))) ∧ goesOn (front (.reportRopeCount .hoist 1 (n4 0))) = true :=
  ⟨by decide +kernel, by decide +kernel⟩
theorem witness_HeadsHeldKept : HeadsHeld (queued [.setRamp 30, .setMarkWidth 10]) ∧
    goesOn { queued [.setRamp 30, .setMarkWidth 10] with pending := [.holdTimerExpiry .cabin] } = true :=
  ⟨by decide +kernel, by decide +kernel⟩
theorem witness_SurveyLegalKept : SurveyLegal run11 ∧ goesOn { run11 with pending := [.surveyStop .cabin 1 []] } = true :=
  ⟨by decide +kernel, by decide +kernel⟩
theorem witness_CountsLegalKept : MeasurementsLegal (front (.sampleSlot .missing)) ∧ goesOn (front (.sampleSlot .missing)) = true :=
  ⟨by decide +kernel, by decide +kernel⟩
theorem witness_CountsLegalKept_ports : PortsLegal cutting ∧ EventsLegal cutting :=
  ⟨by decide +kernel, by decide +kernel⟩

theorem witness_WindowMean : MeasurementsLegal cutting ∧ cutting.mfe.window.length = 8 ∧ State.reset.mfe.window.length < 8 :=
  ⟨by decide +kernel, by decide, by decide⟩

/-- Two snapshots in the history, the toe 200 further on. -/
def snapped (feed : Nat) : State :=
  { cutting with dr := { cutting.dr with history := [180200, 180400], toe := 200000, fMeas := feed } }

theorem witness_FeedRate : 2 ≤ (snapped 240).dr.history.length ∧ (snapped 240).dr.history.head? = some 180200 ∧
    (snapped 240).dr.history.getLast? = some 180400 ∧ DepthLegal (snapped 240) ∧ [180200].length < 2 ∧
    State.reset.dr.state ≠ .valid ∧ (snapped 240).dr.state = .valid ∧
    measuredFeed ((snapped 240).dr.history ++ [200000]) ≠ (snapped 240).dr.fMeas ∧
    measuredFeed ((snapped 11880).dr.history ++ [200000]) = (snapped 11880).dr.fMeas ∧ (snapped 0).dr.fMeas = 0 := by
  refine ⟨by decide, by decide, by decide, by decide +kernel, ?_⟩
  decide +kernel

theorem witness_ZoneSelection : table4[1]? = some mixed ∧ 819999 < mixed.upper ∧ soft.upper ≤ 150000 ∧
    table4[0]? = some soft ∧ 149999 < soft.upper ∧ table4 ≠ [] ∧ (table4.all fun z => decide (z.upper ≤ 3200000)) = true := by
  decide +kernel

theorem witness_ScalerSet :
    QueueClear .cabin ready ∧ QueueClear .cabin cutting ∧ (scaler 0 170 17 4).length = 13 ∧
    natAt (scaler 0 511 31 4) 1 = 511 ∧ natAt (scaler 0 511 31 4) 5 = 31 ∧ natAt (scaler 0 511 31 4) 9 = 4 ∧
    (byteAt (scaler 3 2 2 1) 0).toNat = 3 ∧ ready.dr.state = .unset ∧ cutting.dr.state ≠ .unset ∧
    ready.wg.wheels.a.state = .stopped ∧ ready.rc.state = .off ∧ 5 * (17 * 4) ≤ 2 * 170 ∧ 60 * (2 * 4) < 511 := by
  decide +kernel

theorem witness_ConfigurationSet :
    QueueClear .cabin ready ∧ ready.sru.record = none ∧ portNamed 0 = some .cabin ∧ portNamed 1 = some .plant ∧
    portNamed 2 = some .hoist ∧ portNamed 3 = none ∧ (n4 50000 ++ n4 1000).length = 8 ∧ natAt (n4 50000 ++ n4 1000) 0 = 50000 ∧
    natAt (n4 50001 ++ n4 1000) 0 = 50001 ∧ (n1 2 ++ n4 200).length = 5 ∧ natAt (n1 2 ++ n4 200) 1 = 200 ∧
    (n4 8 ++ n4 100 ++ n4 500 ++ n4 5000 ++ n4 150 ++ n4 1000).length = 24 ∧ natAt (n4 10) 0 = 10 := by decide +kernel

theorem witness_WheelSettings :
    QueueClear .cabin ready ∧ ready.sru.record = none ∧
    [int16At [0xFF, 0xFF] 0, int16At [0, 0] 0, int16At [0x5E, 0x01] 0, int16At [0x5F, 0x01] 0] = [-1, 0, 350, 351] ∧
    [natAt (n4 4) 0, natAt (n4 5) 0, natAt (n4 100) 0, natAt (n4 101) 0] = [4, 5, 100, 101] := by decide +kernel

theorem witness_HeldHeads :
    QueueClear .cabin (recovering rec0 1500) ∧ (recovering rec0 1500).sru.record.isSome = true ∧
    QueueClear .cabin (manualS1 (moving 40 0 8000 none)) ∧ plateNamed (byteAt (n1 2 ++ n4 25) 0).toNat = some .s1 ∧
    ((manualS1 (moving 40 0 8000 none)).psv.get .s1).move = .moving ∧ (n1 2 ++ n4 25).length = 5 := by decide +kernel

theorem witness_SteeringSettings :
    QueueClear .cabin (steering false .manual) ∧ (steering false .manual).slu.actual = .manual ∧
    (min (steering false .manual).slu.settings.trimLimit ((steering false .manual).wg.sEff / 4)) = 30 ∧
    intAt (i4 (-31)) 0 = -31 ∧ intAt (i4 30) 0 = 30 ∧ (gains 200 200000).length = 32 ∧ natAt (gains 200 200000) 0 = 200 ∧
    natAt (gains 200 200000) 28 = 200000 ∧ natAt (gains 201 200000) 0 = 201 ∧ (byteAt [3] 0).toNat = 3 := by decide +kernel

theorem witness_PlateCommands :
    QueueClear .cabin (manualS1 Plate.reset) ∧ plateNamed 4 = none ∧ plateNamed 3 = some .s2 ∧ plateNamed 0 = some .n1 ∧
    ((manualS1 Plate.reset).psv.get .s1).move ≠ .moving ∧ cutting.slu.chosenAuto = true ∧
    (manualS1 Plate.reset).slu.chosenAuto = false ∧ (manualS1 Plate.reset).slu.actual = .manual ∧
    (steering false .frozen).slu.actual ≠ .manual ∧ (manualS1 Plate.reset).slu.commands.get .s1 ≠ 100 ∧
    ({ Plate.reset with move := .stuck } : Plate).move = .stuck ∧ natAt (n1 2 ++ n4 101) 1 = 101 := by decide +kernel

theorem witness_PumpDemandTaken :
    QueueClear .cabin cutting ∧ min (natAt (n4 2500) 0) 7000 = cutting.rc.qc ∧ min (natAt (n4 7001) 0) 7000 = 7000 ∧
    min (natAt (n4 0) 0) 7000 ≠ cutting.rc.qc ∧ cutting.rc.state ≠ .off ∧ ready.rc.state = .off ∧ FeedPublished cutting ∧
    QueueClear .cabin ready ∧ 2500 ≠ ready.rc.qc := by
  refine ⟨by decide +kernel, by decide +kernel, by decide +kernel, by decide +kernel, by decide, by decide, ?_, ?_, ?_⟩ <;>
  decide +kernel

theorem witness_TransportTaken :
    QueueClear .cabin cutting ∧
    (n4 220 ++ n4 200 ++ n4 100 ++ n4 50 ++ n4 10 ++ n4 2800 ++ n4 5000).length = 28 ∧
    natAt (n4 220 ++ n4 200 ++ n4 100 ++ n4 50 ++ n4 10 ++ n4 2800 ++ n4 5000) 24 = 5000 ∧
    natAt (n4 219 ++ n4 200 ++ n4 100 ++ n4 50 ++ n4 10 ++ n4 2800 ++ n4 5000) 0 = 219 := by decide +kernel

theorem witness_EventSets : QueueClear .hoist ready ∧ natAt (n4 0x7FFFF) 0 < 2 ^ 19 ∧ ¬ natAt (n4 0x80000) 0 < 2 ^ 19 ∧
    alertModeNamed 2 = some .pushPullHigh ∧ (ready.eu.ports.get .hoist).enabled = 0 ∧
    ((eventful 0 1).eu.ports.get .cabin).enabled ≠ 0 ∧ 2 < (byteAt [3] 0).toNat ∧
    SetsLegal ((eventful 0x40000 0x40000).eu.ports.get .cabin) ∧
    alertAsserted ((eventful 0x40000 0x40000).eu.ports.get .cabin) = true ∧
    alertAsserted ((eventful 0x40000 0x3FFFF).eu.ports.get .cabin) = false ∧
    ((eventful 0 1).eu.ports.get .cabin).mode = .activeLowOpen := by decide +kernel

theorem witness_ZoneTable_state : QueueClear .cabin (zoned table4 183500 ready) ∧ ZonesLegal (zoned table4 183500 ready) ∧
    FeedPublished (zoned table4 183500 ready) ∧
    (zoned table4 183500 ready).wg.fallbackFlag = fallbackNow (zoned table4 183500 ready) :=
  ⟨by decide +kernel, by decide +kernel, by decide +kernel, by decide +kernel⟩

/-- The replacement of t7 meets the order of the bounds at slot 1, and an entry at 170,000 in slot 2 does not. -/
theorem witness_ZoneTable :
    zoneFields 180000 1 250 3400 3800 80 1 = some { mixed with upper := 180000 } ∧
    (∀ j y, table4[j]? = some y → (j < 1 → y.upper < 180000) ∧ (1 < j → 180000 < y.upper)) ∧ 1 < table4.length ∧
    zoneFields 180000 1 250 4400 4399 80 1 = none ∧ natAt (zone 8 1 0 0 1000 1000 0 0) 0 = 8 ∧
    (∃ j y, table4[j]? = some y ∧ j < 2 ∧ 170000 ≤ y.upper) ∧ natAt (n4 7) 0 = 7 ∧ natAt (n4 8) 0 = 8 := by
  refine ⟨by decide +kernel, ?_, by decide, by decide +kernel, by decide +kernel, ⟨1, mixed, rfl, by decide, by decide⟩,
    by decide +kernel, by decide +kernel⟩
  intro j y h
  match j, h with
  | 0, h => cases h; decide
  | 1, h => cases h; decide
  | 2, h => cases h; decide
  | 3, h => cases h; decide

theorem witness_JamCleared :
    QueueClear .cabin (atHalt { WheelRec.reset with state := .jammed } { WheelRec.reset with state := .standby }) ∧
    ((atHalt { WheelRec.reset with state := .jammed } WheelRec.reset).wg.wheels.get .a).state = .jammed ∧
    (cutting.wg.wheels.get .a).state ≠ .jammed ∧ (cutting.wg.wheels.get .b).state ≠ .tachFault ∧ FeedPublished ready := by
  refine ⟨by decide +kernel, by decide, by decide, by decide, by decide +kernel⟩

theorem witness_QueueOrder :
    (Instr.setRamp .cabin 9 (n4 30)).request = some (.setRamp, .cabin, 9, n4 30) ∧ isPosted .setRamp = true ∧
    permitted .setRamp .cabin = true ∧ (n4 30).length = payloadLength .setRamp ∧
    (queued (List.replicate 8 (.setRamp 30))).pi.hub = .ready ∧
    ((queued (List.replicate 8 (.setRamp 30))).port .cabin).queue.length = 8 ∧
    ((queued (List.replicate 7 (.setRamp 30))).port .cabin).queue.length = 7 ∧
    held (.setRamp 30) (queued [.setRamp 30]) = true ∧ held (.setRamp 30) cutting = false ∧
    held (.setMarkWidth 2001) cutting = false ∧ ((queued [.setRamp 30]).port .cabin).hold.isSome = true ∧
    (cutting.port .cabin).hold = none ∧ (cutting.port .cabin).queue = [] ∧
    ((queued [.setRamp 30, .setMarkWidth 10]).port .cabin).queue
      = [{ request := .setRamp 30, tag := 9 }, { request := .setMarkWidth 10, tag := 9 }] := by decide +kernel

/-- The results of the posted kinds exist, and each clamped value at the ends of its range and one beyond. -/
theorem witness_QueueOrder_joined :
    (∃ joined : Posted → Bool → Host.Outcome State Fault Refusal,
      ∀ r c, joined r c = .next (joinedAfter .cabin 9 r c cutting)) ∧
    cutting.pi.hub = .ready ∧ (cutting.port .cabin).queue.length < 8 ∧ (scaler 3 1 1 1).length = 13 ∧
    (zone 8 0 0 0 0 0 0 0).length = 26 ∧ [int16At [0xFF, 0xFF] 0, int16At [0x5E, 0x01] 0, int16At [0x5F, 0x01] 0] = [-1, 350, 351] ∧
    [natAt (n4 4) 0, natAt (n4 5) 0, natAt (n4 100) 0, natAt (n4 101) 0] = [4, 5, 100, 101] ∧
    (gains 0 0).length = 32 ∧ (n1 3 ++ n4 101).length = 5 ∧ natAt (n1 3 ++ n4 101) 1 = 101 ∧
    min cutting.slu.settings.trimLimit (cutting.wg.sEff / 4) = 30 ∧ [intAt (i4 (-31)) 0, intAt (i4 30) 0] = [-31, 30] ∧
    natAt (n4 7001) 0 = 7001 ∧ (ready.port .plant).queue.length < 8 :=
  ⟨⟨fun r c => .next (joinedAfter .cabin 9 r c cutting), fun _ _ => rfl⟩, by decide +kernel⟩

theorem witness_QueueOrder_applied : applyPosted .cabin (.setRamp 30) cutting
      = .ok { cutting with wg := { cutting.wg with ramp := 30 } } ∧
    applyPosted .cabin (.setMarkWidth 2001) cutting = .error .outOfRange := ⟨rfl, rfl⟩

theorem witness_RopeCountTaken :
    linked.pi.hub = .ready ∧ linked.dr.state = .unset ∧ (dated 0 19000 .stale).dr.state = .stale ∧
    (dated 0 19000 .valid).dr.state = .valid ∧ intAt (i4 39000) 0 = 39000 ∧ ready.su.state.running = false ∧
    run11.su.state = .accumulating ∧ run11.su.segment.isSome = true ∧
    accumulateOk (run (.reportRopeCount .hoist 1 (i4 845000)) run11) = true ∧
    (run (.reportRopeCount .hoist 1 (i4 845000)) run11).dr.depth = 845000 ∧ run11.su.records.length < 1023 := by
  decide +kernel

/-- STALE with a measured feed rate; a count one depth unit above the datum, at it, at the greatest depth and one beyond;
and a draw that crosses into the next zone and one that stays one unit short of it. -/
theorem witness_RopeCountTaken_depth :
    (let s : State := { snapped 240 with dr := { (snapped 240).dr with state := .stale } }
     s.dr.state = .stale ∧ s.dr.fMeas ≠ 0) ∧
    (let s := runAt 0 0 Su.reset
     s.dr.range = false ∧ s.dr.datum = 0 ∧ s.dr.c0 = 0 ∧ s.mfe.depthScaler = { n := 10, r := 10, od := 1 } ∧
     [-1, 0, 3200000, 3200001].map (fun c => intAt (i4 c) 0) = [-1, 0, 3200000, 3200001] ∧
     (zoneIndexAt table4 149999, zoneIndexAt table4 150000) = (0, 1) ∧ s.zt.current = 0) := by decide +kernel

theorem witness_DatumTaken :
    natAt (n4 200001) 0 = 200001 ∧ natAt (n4 200000) 0 = 200000 ∧ linked.dr.countReceived = false ∧
    (dated 0 19000 .stale).dr.state = .stale ∧ run11.su.state.running = true ∧ cutting.dr.countReceived = true ∧
    cutting.dr.state ≠ .stale ∧ cutting.su.state.running = false ∧ cutting.pi.hub = .ready ∧ (snapped 0).dr.fMeas = 0 ∧
    (snapped 240).dr.fMeas ≠ 0 ∧ (zoned table4 149999 cutting).dr.countReceived = true ∧
    (zoned table4 149999 cutting).zt.current ≠ zoneIndexAt table4 150000 ∧
    (zoned table4 149999 cutting).zt.current = zoneIndexAt table4 149999 := by decide +kernel

theorem witness_HaltTaken :
    cutting.pi.hub = .ready ∧ cutting.sru.record = none ∧ (recovering rec0 1500).sru.record = some rec0 ∧
    (ready.wg.wheels.get .a).state ≠ .halting ∧ (ready.wg.wheels.get .b).state ≠ .halting ∧
    ((run (.halt .cabin 1 []) ready).wg.wheels.get .a).state = .halted ∧ (ready.wg.wheels.get .a).state ≠ .halted ∧
    ((run (.halt .cabin 1 []) cutting).wg.wheels.get .a).state ≠ .halted ∧
    ((run (.halt .cabin 1 []) cutting).wg.wheels.get .b).state ≠ .halted ∧
    ((atHalt haltedWheel (haltingWheel 10)).wg.wheels.get .b).state = .halting ∧
    ((atHalt haltedWheel haltedWheel).wg.wheels.get .a).state ≠ .halting ∧
    (atHalt haltedWheel haltedWheel).wg.wheels.get .a = haltedWheel := by
  decide +kernel

/-- RELEASE_HALT of two HALTED wheels with the feed limit published. -/
def released : State := { atHalt haltedWheel haltedWheel with rc := { cutting.rc with feedLimit := 0 } }

theorem witness_HaltTaken_feed : FeedPublished cutting ∧ FeedPublished released ∧
    (released.wg.wheels.get .a).state = .halted ∧ (released.wg.wheels.get .b).state ≠ .halting := by
  refine ⟨by decide +kernel, by decide +kernel, by decide, by decide⟩

theorem witness_ClaimAndRelease :
    ClaimLegal cutting.su ∧ cutting.su.claimant = none ∧ run11.su.claimant = some .cabin ∧ Port.hoist ≠ .cabin ∧
    run11.su.state.running = true ∧ (surveying { Su.reset with state := .closed }).su.claimant = some .cabin ∧
    (surveying { Su.reset with state := .closed }).su.state.running = false ∧ run11.pi.hub = .ready :=
  ⟨by decide +kernel, by decide, by decide, by decide, by decide, by decide, by decide, by decide⟩

theorem witness_SurveySettings :
    (Instr.surveyStop .hoist 1 []).request = some (.surveyStop, .hoist, 1, []) ∧
    Kind.surveyStop ∈ [Kind.surveyConfig, .surveyClear, .surveySetPointer, .surveyStart, .surveyStop, .surveyCheck] ∧
    run11.su.claimant ≠ some .hoist ∧ run11.su.claimant = some .cabin ∧ run11.su.state.running = true ∧
    (surveying { Su.reset with state := .closed, records := [r0] }).su.records[1 - 1]? = some r0 ∧
    natAt (n4 1) 0 = 1 ∧ (n4 2500 ++ n4 50000 ++ n4 3200000 ++ n4 5).length = 16 := by decide +kernel

/-- A CLOSED survey of the worked run, the frame at a depth. -/
def closedAt (depth : Nat) (records : List SurveyRecord) : State :=
  runAt depth 842300 { Su.reset with state := .closed, records := records }

theorem witness_RunStarts :
    (closedAt 812300 []).pi.hub = .ready ∧ (closedAt 812300 []).su.claimant = some .cabin ∧
    (closedAt 812300 []).su.state.running = false ∧ (closedAt 812300 []).dr.state = .valid ∧
    run11.su.state.running = true ∧ (surveying { Su.reset with state := .full }).su.state = .full ∧
    (closedAt 824999 [r0]).dr.depth < r0.bottom ∧ r0.bottom ≤ (closedAt 825000 [r0]).dr.depth ∧
    (closedAt 829999 [r0]).dr.depth < r0.bottom + 5000 ∧ r0.bottom + 5000 ≤ (closedAt 830000 [r0]).dr.depth ∧
    (closedAt 814999 [r0]).dr.depth < r0.top ∧ r0.top ≤ (closedAt 815000 [r0]).dr.depth ∧
    (closedAt 815000 [r0]).su.records.head? = some r0 := by decide +kernel

/-- ARMED one unit above the next top and at it; a run one unit above its bottom and at it, VALID and STALE, with a count
and without, after a record and after none, the sensor OK and LOST. -/
theorem witness_RunStarts_update :
    (let s := fun d => runAt d 842300 { Su.reset with state := .armed, nextTop := 815000 }
     (s 814999).su.state = .armed ∧ (s 814999).dr.depth < (s 814999).su.nextTop ∧
     (s 815000).su.nextTop ≤ (s 815000).dr.depth ∧ (s 815000).dr.state = .valid) ∧
    (let s := fun d c st => runAt d 842300 { Su.reset with
        state := st, segment := some (seg 815000 10000 .l1 .mixed c 0 0 0 noFlags) }
     (s 824999 0 .accumulating).dr.depth < 815000 + 10000 ∧ 815000 + 10000 ≤ (s 825000 0 .holding).dr.depth ∧
     (s 825000 0 .holding).su.state = .holding ∧ (s 825000 0 .holding).su.segment.isSome = true ∧
     (s 825000 0 .holding).su.segment.map (·.count) = some 0 ∧ (s 825000 1 .holding).su.segment.map (·.count) = some 1 ∧
     (s 825000 0 .holding).su.records = [] ∧ (s 825000 0 .holding).mfe.sensor = .ok ∧ ready.mfe.sensor = .lost ∧
     (s 825000 0 .holding).su.records.length < 1024) ∧
    run11.su.segment.isSome = true ∧ run11.su.records.getLast? = some r3 ∧ (dated 0 0 .stale).dr.state ≠ .valid ∧
    1023 ≤ (List.replicate 1023 r0).length ∧ (List.replicate 1022 r0).length < 1023 := by decide +kernel

/-- A depth update that closes four segments: the new records begin at index 4, and 5 and 6 are copies. -/
theorem witness_RunStarts_closes :
    (let s := { run11 with dr := { run11.dr with depth := 860001 } }
     let c := closePassed 1024 s
     s.su.records.length = 4 ∧ c.su.records.length = 8 ∧ (c.su.records[4]?).isSome = true ∧
     (c.su.records[5]?).isSome = true) := by decide +kernel

theorem witness_RunStops :
    run11.su.claimant = some .cabin ∧ run11.su.state = .accumulating ∧ (run11.su.segment.map (·.count)) = some 29 ∧
    (run11.su.segment.map fun g => decide (g.top + 500 ≤ run11.dr.toe)) = some true ∧
    (runAt 812300 812300 { Su.reset with state := .armed, nextTop := 815000 }).su.segment = none ∧
    (runAt 840499 840499 run11.su).dr.toe < 840000 + 500 ∧ 840000 + 500 ≤ (runAt 840500 840500 run11.su).dr.toe ∧
    (checkAt 829300 829000 1 30 3630 (-1980)).su.state = .checking ∧
    (checkAt 829300 829000 1 30 3630 (-1980)).su.records[1]? = some r1 ∧
    (checkAt 829300 829000 1 0 0 0).su.checkCount = 0 ∧ (closedAt 815000 [r0]).su.state.running = false := by decide +kernel

/-- A pass with the depth at its target's top and one unit above it; below the table and one unit inside it; at the first
record's top and one unit above it; the front 500 above the depth and 501; and a STALE depth. -/
theorem witness_RunStops_pass :
    (let s := fun d => checkAt d 842000 1 30 3630 (-1980)
     (s 825000).su.state = .checking ∧ (s 825000).su.target = some 1 ∧ (s 825000).su.records[1]? = some r1 ∧
     r1.top ≤ (s 825000).dr.depth ∧ (s 824999).dr.depth < r1.top ∧ (s 825000).su.records.head? = some r0 ∧
     r0.top ≤ (s 815000).dr.depth ∧ (s 814999).dr.depth < r0.top ∧ (s 825000).dr.disagree = false ∧
     (s 825000).mfe.sensor = .ok) ∧
    (let s := fun d => runAt d 842300 { Su.reset with state := .checkHolding, records := [r0, r4] }
     (s 842300).su.target = none ∧ (s 842300).su.records.getLast? = some r4 ∧ r4.bottom ≤ (s 842300).dr.depth ∧
     (s 842299).dr.depth < r4.bottom) ∧
    (checkAt 829500 829000 1 0 0 0).dr.depth ≤ min 829000 829500 + 500 ∧
    ¬ (checkAt 829501 829000 1 0 0 0).dr.depth ≤ min 829000 829501 + 500 ∧ (dated 0 0 .stale).dr.state ≠ .valid := by
  decide +kernel

theorem witness_TableRead :
    natAt (n4 1023 ++ n4 1023) 0 ≤ natAt (n4 1023 ++ n4 1023) 4 ∧ natAt (n4 1023 ++ n4 1023) 4 ≤ 1023 ∧
    1023 < natAt (n4 0 ++ n4 1024) 4 ∧ natAt (n4 1 ++ n4 0) 4 < natAt (n4 1 ++ n4 0) 0 ∧
    ((closedAt 815000 [r0]).port .plant).cursor ≤ ((closedAt 815000 [r0]).port .plant).windowLast ∧
    (closedAt 815000 [r0]).su.records[((closedAt 815000 [r0]).port .plant).cursor]? = some r0 ∧
    cutting.su.records.length ≤ (cutting.port .plant).cursor := by decide +kernel

theorem witness_PlantInputs :
    cutting.pi.hub = .ready ∧ min (natAt (n4 7001) 0) 7000 = 7000 ∧ min (natAt (n4 0) 0) 7000 = 0 ∧
    (n4 1000 ++ n4 1600).length = 8 ∧ natAt (n4 1000 ++ n4 1600) 0 = 1000 ∧ natAt (n4 1000 ++ n4 1600) 4 = 1600 ∧
    natAt (n4 999 ++ n4 1600) 0 = 999 ∧ natAt (n4 1000 ++ n4 1601) 4 = 1601 := by decide +kernel

theorem witness_ReturnReset :
    (onHold false 900).rc.state = .plantHold ∧ (onHold false 900).rc.ready = false ∧ cutting.rc.state ≠ .starved ∧
    cutting.rc.state ≠ .plantHold ∧ (returning .starved 2500 2765 0 none).rc.state = .starved ∧
    (returning .starved 2500 2765 0 none).rc.ready = true ∧ 0 < (returning .starved 2500 2765 0 none).rc.qp ∧
    (onHold true 0).rc.ready = true ∧ 0 < (onHold true 0).rc.qp ∧ (onHold true 0).pi.hub = .ready ∧
    (let s : State := { onHold true 0 with rc := { (onHold true 0).rc with qp := 0 } }
     s.rc.state = .plantHold ∧ s.rc.ready = true ∧ ¬ 0 < s.rc.qp) := by decide +kernel

theorem witness_HubRequests :
    (n1 2 ++ n4 1).length = 5 ∧ natAt (n1 2 ++ n4 1) 1 = 1 ∧ natAt (n1 2 ++ n4 16) 1 = 16 ∧ natAt (n1 2 ++ n4 17) 1 = 17 ∧
    portNamed (byteAt (n1 2 ++ n4 1) 0).toNat = some .hoist ∧ 2 < (byteAt (n1 3 ++ n4 1) 0).toNat ∧ ready.pi.hub = .ready ∧
    (recovering rec0 0).sru.record.isSome = true ∧ cutting.su.state.running = false := by decide +kernel

/-- A run in ARMED; one with 0.0499 m and one with 0.05 m of toe below its top; a pass that gathered, one that gathered
nothing and one without a target; and a table one record short of full. -/
theorem witness_HubRequests_running :
    (let s := runAt 812300 812300 { Su.reset with state := .armed, nextTop := 815000 }
     s.pi.hub = .ready ∧ s.su.state = .armed ∧ s.su.segment = none) ∧
    (run11.su.state = .accumulating ∧ run11.su.segment = some (seg 840000 5000 .l0 .hard 29 3480 (-870) 290 noFlags) ∧
     (runAt 840499 840499 run11.su).dr.toe < 840000 + 500 ∧ 840000 + 500 ≤ (runAt 840500 840500 run11.su).dr.toe ∧
     run11.su.records.length < 1023 ∧ 1023 ≤ (List.replicate 1023 r0).length) ∧
    (let s := checkAt 829300 829000 1 30 3630 (-1980)
     s.su.state = .checking ∧ s.su.target = some 1 ∧ 1 ≤ s.su.checkCount ∧ s.su.records[1]? = some r1) ∧
    (checkAt 829300 829000 1 0 0 0).su.checkCount = 0 ∧
    (runAt 842300 842300 { Su.reset with state := .checkHolding, records := [r0] }).su.target = none := by decide +kernel

theorem witness_QueriesAnswered :
    cutting.pi.hub = .ready ∧ natAt (n4 8) 0 = 8 ∧ natAt (n4 9) 0 = 9 ∧ portNamed (byteAt [2] 0).toNat = some .hoist ∧
    2 < (byteAt [3] 0).toNat := by decide +kernel

theorem witness_SensorEvents :
    ready.mfe.sensor = .lost ∧ cutting.mfe.sensor = .ok ∧ cutting.mfe.invalidCount < 4 ∧
    4 ≤ ({ cutting.mfe with invalidCount := 4 } : Mfe).invalidCount ∧ MeasurementsLegal cutting ∧ ModeFollows cutting ∧
    (run (.sampleSlot (.whole true 0 0 0)) cutting).slu.actual = .auto ∧
    (run (.sampleSlot (.whole true 0 0 0)) run11).su.state = .accumulating ∧
    (run (.sampleSlot (.whole true 0 0 0)) (checkAt 829300 829000 1 30 3630 (-1980))).su.state = .checking ∧
    (run (.sampleSlot (.whole true 0 0 0)) ready).slu.actual = .off := by
  refine ⟨by decide, by decide, by decide, by decide, by decide +kernel, by decide +kernel, ?_⟩
  decide +kernel

/-- The four modes, a window one set short of full, and a segment one set short of its cap. -/
theorem witness_SensorEvents_modes :
    (MeasurementsLegal (steering false .manual) ∧ ModeFollows (steering false .manual)) ∧
    (MeasurementsLegal ready ∧ ModeFollows ready ∧ ready.slu.actual = .off) ∧
    (MeasurementsLegal (recovering rec0 0) ∧ ModeFollows (recovering rec0 0) ∧ (recovering rec0 0).slu.actual = .frozen) ∧
    (let s : State := { ready with mfe := { ready.mfe with window := List.replicate 7 { x := 5000, y := -5000, psi := 1000 } } }
     MeasurementsLegal s ∧ ModeFollows s) ∧
    (let s := runAt 842300 842300 { run11.su with segment := some (seg 840000 5000 .l0 .hard 65534 0 0 0 noFlags) }
     MeasurementsLegal s ∧ ModeFollows s ∧ s.su.state = .accumulating) := by
  refine ⟨⟨by decide +kernel, by decide +kernel⟩, ⟨by decide +kernel, by decide +kernel, by decide⟩,
    ⟨by decide +kernel, by decide +kernel, by decide⟩, ⟨by decide +kernel, by decide +kernel⟩,
    ⟨by decide +kernel, by decide +kernel, by decide⟩⟩

theorem witness_GateResults :
    haltedWheel.state ≠ .running ∧ (turning 20).state = .running ∧ 200 ≤ (turning 20).acc ∧ (turning 19).acc < 200 ∧
    (cutting.mfe.gearbox.get .a).value < cutting.wg.zoneStall ∧ cutting.rc.state = .pumping ∧
    (returning .priming 2500 2500 0 (some 1)).rc.state = .priming ∧ (returning .pumping 2500 2765 4 none).rc.starvation = 4 ∧
    min 65535 70 * 36 / 2 = 1260 ∧ 2500 / 2 = 1250 ∧ min 65535 46 * 36 / 2 < 3 * 2765 / 10 ∧
    3 * 2765 / 10 ≤ min 65535 47 * 36 / 2 := by decide +kernel

theorem witness_GovernorUpdate :
    cutting.sru.record = none ∧ WheelsLegal cutting ∧ FeedPublished cutting ∧
    (cutting.wg.wheels.get .a).state = .running ∧ (haltingWheel 1).state = .halting ∧ haltedWheel.state = .halted ∧
    ({ WheelRec.reset with state := .standby } : WheelRec).state = .standby ∧
    cutting.slu.actual = .auto ∧ ready.slu.actual = .off := by
  refine ⟨by decide, by decide +kernel, by decide +kernel, ?_⟩
  decide +kernel

/-- The wheels of an update before any stall is taken. -/
def moved (pa pb : Int) (s : State) : State := restWheels (governWheels (retarget (samplePressures pa pb s)))

/-- Both wheels turning at 20.0 against the stall pressure, their stall timers as given. -/
def stalling (a b : Option Nat) : State :=
  { cutting with wg := { cutting.wg with wheels := { a := { turning 199 with stallTimer := a }
                                                     b := { turning 241 with stallTimer := b } } } }

/-- A stall timer that comes to 900 and one that comes to 1,000; two at once, with the pressures apart and in a tie. -/
theorem witness_GovernorUpdate_stall :
    WheelsLegal (stalling (some 800) none) ∧ (stalling (some 800) none).sru.record = none ∧
    (moved 4400 0 (stalling (some 800) none)).wg.wheels.a.stallTimer = some 900 ∧
    timeOf (moved 4400 0 (stalling (some 900) none)).wg.wheels.a.stallTimer = 1000 ∧
    timeOf (moved 4400 0 (stalling (some 900) none)).wg.wheels.b.stallTimer < 1000 ∧
    timeOf (moved 4400 4400 (stalling (some 900) (some 900))).wg.wheels.b.stallTimer = 1000 ∧
    (moved 4400 4401 (stalling (some 900) (some 900))).mfe.gearbox.a.value
      < (moved 4400 4401 (stalling (some 900) (some 900))).mfe.gearbox.b.value := by decide +kernel

/-- A recovery with its phase timer one update short of its time and at it, in PROBE and before; and a burst stall timer
that comes to 900 and to 1,000. -/
theorem witness_GovernorUpdate_recovery :
    (let s := recovering { rec0 with phase := .probe, phaseTimer := some 2900 } 500
     WheelsLegal s ∧ FeedPublished s ∧ s.sru.record.isSome = true ∧ s.sru.settings.probeTime = 2900 + 100) ∧
    (let s := recovering { rec0 with phase := .reversing, phaseTimer := some 1900 } (-500)
     WheelsLegal s ∧ s.sru.settings.reverseTime = 1900 + 100) ∧
    (let s := recovering { rec0 with phase := .rest, phaseTimer := some 800 } 0
     WheelsLegal s ∧ ¬ s.sru.settings.restTime ≤ 800 + 100) ∧
    WheelsLegal (recovering rec0 1500) ∧ (recovering rec0 1500).sru.record = some rec0 ∧
    (let s := fun b => zoned [hard] 200000 (recovering { rec0 with phase := .probe, burstTimer := some b } 380)
     WheelsLegal (s 900) ∧ FeedPublished (s 900) ∧
     (run (.governorUpdate 4300 0) (s 800)).sru.record.map (·.burstTimer) = some (some 900) ∧
     (run (.governorUpdate 4300 0) (s 900)).sru.record.map (·.burst) = some 2) := by
  refine ⟨⟨by decide +kernel, by decide +kernel, by decide, by decide⟩, ⟨by decide +kernel, by decide⟩,
    ⟨by decide +kernel, by decide⟩, by decide +kernel, by decide, by decide +kernel, by decide +kernel, ?_⟩
  decide +kernel

theorem witness_CrossCheckJudged :
    ready.dr.crossCheck = .noDensity ∧ (compareAt 2 0 false).dr.crossCheck = .comparing ∧
    (compareAt 2 0 false).dr.state = .valid ∧ 2 ≤ (compareAt 2 0 false).dr.outRun ∧ (compareAt 0 2 true).dr.disagree = true ∧
    2 ≤ (compareAt 0 2 true).dr.inRun ∧ (compareAt 1 0 false).dr.outRun < 2 ∧ run11.su.segment.isSome = true ∧
    cutting.su.segment = none ∧
    (let s := { compareAt 0 0 false with dr := { (compareAt 0 0 false).dr with
        depth := (run (.headPressureSample 206010) (compareAt 0 0 false)).dr.hp + 10000 } }
     ((s.dr.depth : Int) - (run (.headPressureSample 206010) s).dr.hp).natAbs = s.dr.band) := by decide +kernel

theorem witness_RecoveryEvents :
    (cutting.wg.wheels.get .a).stallTimer = none ∧ ({ turning 200 with stallTimer := some 1000 } : WheelRec).state = .running ∧
    ((stalling (some 1000) none).wg.wheels.get .a).stallTimer.isSome = true ∧ (stalling (some 1000) none).sru.record = none ∧
    cutting.sru.record = none ∧ (recovering { rec0 with phase := .probe, phaseTimer := some 3000 } 500).sru.record
      = some { rec0 with phase := .probe, phaseTimer := some 3000 } ∧ cutting.pi.ports.cabin.hold = none ∧
    rec0.burst < cutting.sru.settings.bursts ∧ cutting.sru.settings.bursts ≤ 3 ∧
    (queued [.setRamp 30]).pi.ports.cabin.queue = [{ request := .setRamp 30, tag := 9 }] ∧
    (queued [.setMarkWidth 10]).pi.ports.cabin.queue = [{ request := .setMarkWidth 10, tag := 9 }] ∧
    heldForRecovery (.setRamp 30) = true ∧ (queued [.setRamp 30]).pi.ports.cabin.hold.isSome = true := by decide +kernel

theorem witness_PlateEvents :
    cutting.pi.ports.cabin.hold = none ∧ Plate.reset.move = .settled ∧ (moving 40 38 1 (some 200)).move = .moving ∧
    200 ≤ timeOf (moving 40 38 1 (some 200)).settleTimer ∧ (moving 40 37 1 none).settleTimer = none ∧
    plateNamed 2 = some .s1 ∧
    ((queued [.setPlate 2 25]).port .cabin).queue = [{ request := .setPlate 2 25, tag := 9 }] := by decide +kernel

theorem witness_ReturnEvents :
    cutting.rc.state = .pumping ∧ (returning .priming 2500 2500 0 (some 0)).rc.state = .priming ∧
    ready.rc.state ≠ .priming ∧ cutting.rc.ready = true ∧ (onHold true 1).rc.state = .plantHold ∧
    ready.rc.ready = false ∧ 2000 ≤ (onHold false 1999).rc.lowFor + 1 ∧ (onHold false 1999).rc.lowFor + 0 < 2000 ∧
    0 < (onHold false 0).rc.qp := by decide +kernel

theorem witness_LinkTimers :
    (ready.port .cabin).link ≠ .active ∧ (cutting.port .cabin).link = .active ∧ ((queued [.setRamp 30]).port .cabin).queue ≠ [] ∧
    run11.su.claimant = some .cabin ∧ run11.su.claimant ≠ some .plant ∧ (compareAt 2 0 true).dr.disagree = true ∧
    cutting.dr.state = .valid ∧ ready.dr.state ≠ .valid ∧ ZonesLegal cutting ∧
    cutting.zt.selectionDepth = cutting.dr.depth ∧ State.reset.pi.hub = .starting ∧ ready.pi.hub = .ready := by
  refine ⟨by decide, by decide, by decide +kernel, by decide, by decide, by decide, by decide, by decide, ?_, ?_⟩
  · decide +kernel
  · decide +kernel

end Sys2Proof.Tests
end

section
/-! SUPPORT. The measurements, the counts of the ports and the event sets: what keeps them within their ranges (O24).
`KeepsCounts s t` says that a state `t` has each of the three invariants that `s` has; it is reflexive and transitive,
so that every operation is shown to keep it from the operations it is made of. -/

namespace Sys2Proof.Machine

/-! ## The invariants, block by block -/

/-- R195, R199: what `EventsLegal` asks of the event unit, with one condition for the three ports. -/
def EuLegal (u : Eu) : Prop :=
  (∀ p, SetsLegal (u.ports.get p)) ∧ 10 ≤ u.markWidth ∧ u.markWidth ≤ 2000 ∧ timeOf u.mark ≤ 2000

theorem eventsLegal_iff (s : State) : EventsLegal s ↔ EuLegal s.eu := by
  constructor
  · rintro ⟨hc, hp, hh, hw⟩
    exact ⟨fun p => by cases p <;> assumption, hw⟩
  · rintro ⟨hs, hw⟩
    exact ⟨hs .cabin, hs .plant, hs .hoist, hw⟩

theorem portsLegal_iff (s : State) :
    PortsLegal s ↔ (∀ p, PortLegal (s.port p)) ∧ (s.pi.hub = .ready → s.pi.startUpLeft = 0) := by
  constructor
  · rintro ⟨hc, hp, hh, hw⟩
    exact ⟨fun p => by cases p <;> assumption, hw⟩
  · rintro ⟨hs, hw⟩
    exact ⟨hs .cabin, hs .plant, hs .hoist, hw⟩

theorem PortsLegal.port {s : State} (h : PortsLegal s) (p : Port) : PortLegal (s.port p) :=
  ((portsLegal_iff s).1 h).1 p

theorem PortsLegal.setPort {s : State} {p : Port} {q : PortRec} (h : PortsLegal s) (hq : PortLegal q) :
    PortsLegal (s.setPort p q) := by
  obtain ⟨hs, hw⟩ := (portsLegal_iff s).1 h
  refine (portsLegal_iff _).2 ⟨fun p' => ?_, hw⟩
  by_cases hp : p' = p
  · subst hp; rwa [State.port_setPort_same]
  · rw [State.port_setPort_ne _ _ hp]; exact hs p'

/-! ## Event sets -/

@[simp] theorem namesNoKind_eq_false (set : EventSet) : namesNoKind set = false ↔ set >>> 19 = 0 := by
  simp [namesNoKind]

theorem namesNoKind_or {a b : EventSet} (ha : namesNoKind a = false) (hb : namesNoKind b = false) :
    namesNoKind (a ||| b) = false := by
  simp_all [BitVec.ushiftRight_or_distrib]

theorem namesNoKind_and {a : EventSet} (b : EventSet) (ha : namesNoKind a = false) : namesNoKind (a &&& b) = false := by
  simp_all [BitVec.ushiftRight_and_distrib]

/-- R195: the kinds are numbered 0 to 18. -/
theorem namesNoKind_eventBit (e : Event) : namesNoKind (eventBit e) = false := by cases e <;> rfl

theorem EuLegal.setPort {u : Eu} {p : Port} {e : EuPort} (h : EuLegal u) (he : SetsLegal e) :
    EuLegal { u with ports := u.ports.set p e } := by
  obtain ⟨hs, hw⟩ := h
  refine ⟨fun p' => ?_, hw⟩
  by_cases hp : p' = p
  · subst hp; simpa using he
  · simpa [hp] using hs p'

theorem EuLegal.latch {u : Eu} (h : EuLegal u) (p : Port) (e : Event) : EuLegal (latch p (eventBit e) u) := by
  obtain ⟨hl, he⟩ := h.1 p
  exact h.setPort ⟨namesNoKind_or hl (namesNoKind_eventBit e), he⟩

theorem EuLegal.latchAll {u : Eu} (h : EuLegal u) (e : Event) : EuLegal (latchAll e u) :=
  ((h.latch .hoist e).latch .plant e).latch .cabin e

theorem EuLegal.setMark {u : Eu} {m : Option Nat} (h : EuLegal u) (hm : timeOf m ≤ 2000) :
    EuLegal { u with mark := m } := by
  obtain ⟨hs, hlo, hhi, _⟩ := h
  exact ⟨hs, hlo, hhi, hm⟩

theorem EuLegal.startMark {u : Eu} (h : EuLegal u) : EuLegal (startMark u) := h.setMark h.2.2.1

/-! ## The relation -/

/-- Each of the three invariants that holds of `s` holds of `t`. -/
structure KeepsCounts (s t : State) : Prop where
  measurements : MeasurementsLegal s → MeasurementsLegal t
  ports : PortsLegal s → PortsLegal t
  events : EuLegal s.eu → EuLegal t.eu

namespace KeepsCounts

variable {a s t : State}

theorem refl (s : State) : KeepsCounts s s := ⟨id, id, id⟩

theorem trans (h : KeepsCounts a s) (k : KeepsCounts s t) : KeepsCounts a t :=
  ⟨k.measurements ∘ h.measurements, k.ports ∘ h.ports, k.events ∘ h.events⟩

/-- The three invariants are about three blocks. -/
theorem same (h : KeepsCounts a s) (hm : t.mfe = s.mfe) (hp : t.pi = s.pi) (he : t.eu = s.eu) : KeepsCounts a t :=
  ⟨by unfold MeasurementsLegal; rw [hm]; exact h.measurements,
   by unfold PortsLegal; rw [hp]; exact h.ports, by rw [he]; exact h.events⟩

theorem setMfe {m : Mfe} (h : KeepsCounts a s) (hm : MeasurementsLegal s → MeasurementsLegal { s with mfe := m }) :
    KeepsCounts a { s with mfe := m } :=
  ⟨hm ∘ h.measurements, h.ports, h.events⟩

theorem setPort {p : Port} {q : PortRec} (h : KeepsCounts a s) (hq : PortLegal (s.port p) → PortLegal q) :
    KeepsCounts a (s.setPort p q) :=
  ⟨h.measurements, fun ha => (h.ports ha).setPort (hq ((h.ports ha).port p)), h.events⟩

theorem setEvents {u : Eu} (h : KeepsCounts a s) (hu : EuLegal s.eu → EuLegal u) : KeepsCounts a { s with eu := u } :=
  ⟨h.measurements, h.ports, hu ∘ h.events⟩

theorem ite {c : Prop} [Decidable c] {u : State} (ht : c → KeepsCounts a t) (hu : ¬ c → KeepsCounts a u) :
    KeepsCounts a (if c then t else u) := by
  split
  · next hc => exact ht hc
  · next hc => exact hu hc

/-! ## Events raised -/

theorem raise {e : Event} (h : KeepsCounts a s) : KeepsCounts a (raise e s) := by
  unfold Machine.raise
  split
  · exact h.setEvents fun hu => (hu.latchAll e).startMark
  · exact h.setEvents fun hu => hu.latchAll e

theorem raiseRefused {p : Port} (h : KeepsCounts a s) : KeepsCounts a (raiseRefused p s) :=
  h.setEvents fun hu => hu.latch p .refused

theorem raisePortLost {p : Port} (h : KeepsCounts a s) : KeepsCounts a (raisePortLost p s) := by
  cases p <;> exact h.setEvents fun hu => (hu.latch _ .portLost).latch _ .portLost

/-! ## The return -/

theorem rejudgeShort (h : KeepsCounts a s) : KeepsCounts a (rejudgeShort s) := by
  unfold Machine.rejudgeShort
  dsimp only
  split
  · exact raise (h.same rfl rfl rfl)
  · exact h.same rfl rfl rfl

theorem recomputeFeed (h : KeepsCounts a s) : KeepsCounts a (recomputeFeed s) := h.same rfl rfl rfl

theorem recomputeFloor (h : KeepsCounts a s) : KeepsCounts a (recomputeFloor s) := rejudgeShort (h.same rfl rfl rfl)

theorem changeReturn {st : ReturnState} (h : KeepsCounts a s) : KeepsCounts a (changeReturn st s) := by
  cases st
  case starved | plantHold => exact raise (h.same rfl rfl rfl)
  all_goals exact h.same rfl rfl rfl

theorem startPriming (h : KeepsCounts a s) : KeepsCounts a (startPriming s) := changeReturn (h.same rfl rfl rfl)

theorem testPlant (h : KeepsCounts a s) : KeepsCounts a (testPlant s) := by
  unfold Machine.testPlant
  split
  · exact h.startPriming
  · exact h.changeReturn

theorem starve (h : KeepsCounts a s) : KeepsCounts a (starve s) := changeReturn (h.same rfl rfl rfl)

theorem returnOff (h : KeepsCounts a s) : KeepsCounts a (returnOff s) := changeReturn (h.same rfl rfl rfl)

/-! ## Steering -/

theorem reevaluate (h : KeepsCounts a s) : KeepsCounts a (reevaluate s) := h.same (by simp) (by simp) (by simp)

theorem steerSample (h : KeepsCounts a s) : KeepsCounts a (steerSample s) := h.same (by simp) (by simp) (by simp)

/-! ## The survey -/

theorem surveySample {v : SampleSet} {saturated : Bool} (h : KeepsCounts a s) :
    KeepsCounts a (surveySample v saturated s) := h.same (by simp) (by simp) (by simp)

theorem refreshLive (h : KeepsCounts a s) : KeepsCounts a (refreshLive s) := h.same (by simp) (by simp) (by simp)

theorem judgeAccumulate (h : KeepsCounts a s) : KeepsCounts a (judgeAccumulate s) :=
  h.same (by simp) (by simp) (by simp)

theorem judgeCheck (h : KeepsCounts a s) : KeepsCounts a (judgeCheck s) := h.same (by simp) (by simp) (by simp)

theorem judgeSurvey (h : KeepsCounts a s) : KeepsCounts a (judgeSurvey s) := h.same (by simp) (by simp) (by simp)

theorem judgeRecovery (h : KeepsCounts a s) : KeepsCounts a (judgeRecovery s) := h.same (by simp) (by simp) (by simp)

theorem setSu {u : Su} (h : KeepsCounts a s) : KeepsCounts a (s.setSu u) := h.same rfl rfl rfl

theorem writeRecord {g : Segment} {bottom : Nat} {short : Bool} (h : KeepsCounts a s) :
    KeepsCounts a (writeRecord g bottom short s) :=
  h.setSu.raise

theorem fillTable (h : KeepsCounts a s) : KeepsCounts a (fillTable s) := h.setSu.raise

theorem closePassed (n : Nat) (h : KeepsCounts a s) : KeepsCounts a (closePassed n s) := by
  induction n generalizing s with
  | zero => exact h
  | succ n ih =>
    unfold Machine.closePassed
    dsimp only
    split
    · exact h
    · split
      · split
        · exact h.writeRecord.fillTable
        · exact ih (h.writeRecord.setSu)
      · exact h

theorem judgeArming (h : KeepsCounts a s) : KeepsCounts a (judgeArming s) := by
  unfold Machine.judgeArming
  split
  · exact (closePassed _ (h.setSu.setSu)).refreshLive
  · exact h

theorem stopRun (h : KeepsCounts a s) : KeepsCounts a (stopRun s) := by
  unfold Machine.stopRun
  dsimp only
  split
  · exact h.setSu.refreshLive
  · split
    · split
      · exact h.writeRecord.fillTable.refreshLive
      · exact (h.writeRecord.setSu).refreshLive
    · exact h.setSu.refreshLive

theorem endCheck (h : KeepsCounts a s) : KeepsCounts a (endCheck s) := h.setSu.raise

theorem writeCheck {i : Nat} (h : KeepsCounts a s) : KeepsCounts a (writeCheck i s) :=
  h.same (by simp) (by simp) (by simp)

theorem moveTarget {bound : Nat} (h : KeepsCounts a s) : KeepsCounts a (moveTarget bound s) := by
  unfold Machine.moveTarget
  dsimp only
  split
  · exact h.setSu.endCheck
  · exact h.setSu

theorem advanceCheck (h : KeepsCounts a s) : KeepsCounts a (advanceCheck s) := by
  unfold Machine.advanceCheck
  (repeat' split)
  · exact h.writeCheck.moveTarget
  · exact h
  · exact h
  · exact h.moveTarget
  · exact h
  · exact h

theorem stopCheck (h : KeepsCounts a s) : KeepsCounts a (stopCheck s) := by
  unfold Machine.stopCheck
  (repeat' split)
  · exact h.writeCheck.endCheck
  · exact h.endCheck
  · exact h.endCheck

theorem stopSurvey (h : KeepsCounts a s) : KeepsCounts a (stopSurvey s) := by
  unfold Machine.stopSurvey
  split
  case h_1 | h_2 | h_3 => exact h.stopRun
  case h_4 | h_5 => exact h.stopCheck
  all_goals exact h

theorem surveyDepth (h : KeepsCounts a s) : KeepsCounts a (surveyDepth s) := by
  unfold Machine.surveyDepth
  dsimp only
  (repeat' split)
  · exact h.judgeArming
  · exact h
  · exact (closePassed _ h.judgeAccumulate).refreshLive
  · exact h.judgeAccumulate.refreshLive
  · exact (closePassed _ h.judgeAccumulate).refreshLive
  · exact h.judgeAccumulate.refreshLive
  · exact h.setSu.advanceCheck.judgeCheck
  · exact h.judgeCheck
  · exact h.setSu.advanceCheck.judgeCheck
  · exact h.judgeCheck
  all_goals exact h

theorem surveyLoss {p : Port} (h : KeepsCounts a s) : KeepsCounts a (surveyLoss p s) :=
  h.same (by simp) (by simp) (by simp)

/-! ## Zones and depth -/

theorem handZone (h : KeepsCounts a s) : KeepsCounts a (handZone s) := h.same (by simp) (by simp) (by simp)

theorem selectZone {depth : Nat} (h : KeepsCounts a s) : KeepsCounts a (selectZone depth s) := by
  unfold Machine.selectZone
  dsimp only
  split
  · exact h.same rfl rfl rfl
  · exact handZone (raise (h.same rfl rfl rfl))

theorem changeTable {es : List ZoneEntry} (h : KeepsCounts a s) : KeepsCounts a (changeTable es s) := by
  unfold Machine.changeTable
  dsimp only
  (repeat' split)
  · exact handZone (raise (h.same rfl rfl rfl))
  · exact handZone (h.same rfl rfl rfl)
  · exact h.same rfl rfl rfl

theorem handDepth (h : KeepsCounts a s) : KeepsCounts a (handDepth s) :=
  h.selectZone.surveyDepth.reevaluate.recomputeFeed

theorem setFeedRate {v : Nat} (h : KeepsCounts a s) : KeepsCounts a (setFeedRate v s) := by
  unfold Machine.setFeedRate
  split
  · exact h
  · exact recomputeFloor (h.same rfl rfl rfl)

theorem emptyHistory (h : KeepsCounts a s) : KeepsCounts a (emptyHistory s) := setFeedRate (h.same rfl rfl rfl)

theorem takeCount {count : Int} (h : KeepsCounts a s) : KeepsCounts a (takeCount count s) := by
  unfold Machine.takeCount
  dsimp only
  split
  · exact raise (h.same rfl rfl rfl)
  · exact h.same rfl rfl rfl

theorem reportCount {count : Int} (h : KeepsCounts a s) : KeepsCounts a (reportCount count s) := by
  unfold Machine.reportCount
  split
  · exact h.same rfl rfl rfl
  · exact handDepth (takeCount (h.same rfl rfl rfl))
  · exact handDepth (takeCount (emptyHistory (h.same rfl rfl rfl)))

theorem takeDatum {datum : Nat} (h : KeepsCounts a s) : KeepsCounts a (takeDatum datum s) :=
  handDepth (emptyHistory (h.same rfl rfl rfl))

theorem goStale (h : KeepsCounts a s) : KeepsCounts a (goStale s) := by
  unfold Machine.goStale
  split
  · exact handDepth (h.same rfl rfl rfl)
  · exact h

theorem setDisagree {d : Bool} (h : KeepsCounts a s) : KeepsCounts a (setDisagree d s) :=
  h.same (by simp) (by simp) (by simp)

theorem compareDepth (h : KeepsCounts a s) : KeepsCounts a (compareDepth s) := by
  unfold Machine.compareDepth
  dsimp only
  (repeat' split)
  · exact setDisagree (raise (h.same rfl rfl rfl))
  · exact h.same rfl rfl rfl
  · exact setDisagree (h.same rfl rfl rfl)
  · exact h.same rfl rfl rfl

theorem pushSnapshot (h : KeepsCounts a s) : KeepsCounts a (pushSnapshot s) := setFeedRate (h.same rfl rfl rfl)

/-! ## The wheels -/

theorem raiseHalted {before : PerWheel WheelRec} (h : KeepsCounts a s) : KeepsCounts a (raiseHalted before s) := by
  unfold Machine.raiseHalted
  dsimp only
  split
  · exact h.raise
  · exact h

theorem handWheels {before : PerWheel WheelRec} (h : KeepsCounts a s) : KeepsCounts a (handWheels before s) :=
  h.same (by simp) (by simp) (by simp)

theorem clearRecord (h : KeepsCounts a s) : KeepsCounts a (clearRecord s) := h.same (by simp) (by simp) (by simp)

theorem setOutcome {how : RecoveryEnd} {r : Recovery} (h : KeepsCounts a s) : KeepsCounts a (setOutcome how r s) :=
  h.same rfl rfl rfl

theorem abortRecovery (h : KeepsCounts a s) : KeepsCounts a (abortRecovery s) := h.same (by simp) (by simp) (by simp)

theorem haltWheels (h : KeepsCounts a s) : KeepsCounts a (haltWheels s) :=
  handWheels (raiseHalted (h.abortRecovery.same rfl rfl rfl))

theorem takeStall {w : Wheel} (h : KeepsCounts a s) : KeepsCounts a (takeStall w s) :=
  handWheels (reevaluate (judgeRecovery ((h.raise (e := .stall)).same rfl rfl rfl)))

theorem takeTachFault {w : Wheel} (h : KeepsCounts a s) : KeepsCounts a (takeTachFault w s) :=
  handWheels (raise (h.same rfl rfl rfl))

theorem clearJamTaken (h : KeepsCounts a s) : KeepsCounts a (clearJamTaken s) := h.same (by simp) (by simp) (by simp)

/-! ## A posted request applied (R185) -/

/-- What the owning block of a posted request answers, when it is taken, keeps the three invariants. -/
theorem applied {p : Port} {r : Posted} (h : KeepsCounts a s) (ht : applyPosted p r s = .ok t) : KeepsCounts a t := by
  cases r
  case setScaler scaler n r od =>
    simp only [applyPosted, applySetScaler] at ht
    (repeat' split at ht) <;> cases ht
    exact h.setMfe fun hm => by unfold replaceScaler; split <;> exact hm
  case setPortTimeout =>
    simp only [applyPosted, applySetPortTimeout] at ht
    (repeat' split at ht) <;> cases ht
    exact h.setPort id
  case ackEvents set =>
    simp only [applyPosted, applyAckEvents] at ht
    (repeat' split at ht) <;> cases ht
    exact h.setEvents fun hu => hu.setPort ⟨namesNoKind_and _ (hu.1 p).1, (hu.1 p).2⟩
  case setEventEnables set =>
    simp only [applyPosted, applySetEventEnables] at ht
    split at ht <;> cases ht
    next hn => exact h.setEvents fun hu => hu.setPort ⟨(hu.1 p).1, by simpa using hn⟩
  case setAlertLine =>
    simp only [applyPosted, applySetAlertLine] at ht
    (repeat' split at ht) <;> cases ht
    exact h.setEvents fun hu => hu.setPort (hu.1 p)
  case setMarkWidth =>
    simp only [applyPosted, applySetMarkWidth] at ht
    split at ht <;> cases ht
    next hn =>
      simp only [inRange, Bool.and_eq_true, decide_eq_true_eq] at hn
      exact h.setEvents fun hu => ⟨hu.1, hn.1, hn.2, hu.2.2.2⟩
  case loadZone =>
    simp only [applyPosted, applyLoadZone] at ht
    (repeat' split at ht) <;> cases ht
    exact h.changeTable
  case dropZone =>
    simp only [applyPosted, applyDropZone] at ht
    (repeat' split at ht) <;> cases ht
    · exact h.changeTable
    · exact h
  case clearJam =>
    simp only [applyPosted, applyClearJam] at ht
    split at ht <;> cases ht
    exact h.clearJamTaken
  case setSteerMode =>
    simp only [applyPosted, applySetSteerMode] at ht
    split at ht <;> cases ht
    · exact reevaluate (h.same rfl rfl rfl)
    · exact reevaluate (h.same rfl rfl rfl)
  case setSteerGains =>
    simp only [applyPosted, applySetSteerGains] at ht
    split at ht <;> cases ht
    split
    · exact h.same rfl rfl rfl
    · exact reevaluate (h.same rfl rfl rfl)
  case setPlate =>
    simp only [applyPosted, applySetPlate] at ht
    (repeat' split at ht) <;> cases ht
    · exact h.same (by simp) (by simp) (by simp)
    · exact h.same rfl rfl rfl
  case clearPlate =>
    simp only [applyPosted, applyClearPlate] at ht
    (repeat' split at ht) <;> cases ht
    exact h.same (by simp) (by simp) (by simp)
  case setPumpDemand =>
    simp only [applyPosted, applySetPumpDemand] at ht
    have hr {qc : Nat} : KeepsCounts a
        (Machine.rejudgeShort { s with rc := recomputeDemand { s.rc with qc := qc } }) :=
      rejudgeShort (h.same rfl rfl rfl)
    (repeat' split at ht) <;> cases ht
    · exact h
    · exact hr
    · exact hr.testPlant
    · exact hr.returnOff
    · exact hr
  case setTransport =>
    simp only [applyPosted, applySetTransport] at ht
    split at ht <;> cases ht
    exact recomputeFeed (recomputeFloor (h.same rfl rfl rfl))
  case setFallbackSpeed | setDepthCheck | setRecovery =>
    simp only [applyPosted, applySetFallbackSpeed, applySetDepthCheck, applySetRecovery] at ht
    split at ht <;> cases ht
    exact h.same rfl rfl rfl
  case setWheelDemand | setRamp | setTrimManual => cases ht; exact h.same rfl rfl rfl

theorem recordRefusal {p : Port} {e : Entry} {code : Status} (h : KeepsCounts a s) :
    KeepsCounts a (recordRefusal p e code s) :=
  raiseRefused (h.setPort fun ⟨hq, hs, _, hw⟩ => ⟨hq, hs, Nat.min_le_left .., hw⟩)

theorem applyEntry {p : Port} {e : Entry} (h : KeepsCounts a s) : KeepsCounts a (applyEntry p e s) := by
  unfold Machine.applyEntry
  split
  · next ht => exact h.applied ht
  · exact h.recordRefusal

/-! ## The posted queues (R184 to R186) -/

theorem setQueue {p : Port} {es : List Entry} {hold : Option Nat} (h : KeepsCounts a s)
    (hl : PortsLegal a → es.length ≤ 8) : KeepsCounts a (setQueue p es hold s) := by
  refine ⟨h.measurements, fun ha => (h.ports ha).setPort ?_, h.events⟩
  obtain ⟨_, hw⟩ := (h.ports ha).port p
  exact ⟨hl ha, hw⟩

theorem drainList {p : Port} {es : List Entry} (h : KeepsCounts a s) (hl : PortsLegal a → es.length ≤ 8) :
    KeepsCounts a (drainList p es s) := by
  induction es generalizing s with
  | nil => exact h.setQueue hl
  | cons e es ih =>
    unfold Machine.drainList
    split
    · exact h.setQueue hl
    · exact ih h.applyEntry fun ha => Nat.le_of_succ_le (hl ha)

theorem drain {p : Port} (h : KeepsCounts a s) : KeepsCounts a (drain p s) :=
  h.drainList fun ha => ((h.ports ha).port p).1

theorem releaseHead {concerns : Posted → Bool} (h : KeepsCounts a s) : KeepsCounts a (releaseHead concerns s) := by
  unfold Machine.releaseHead
  (repeat' split)
  · exact h.drain
  all_goals exact h

theorem joinQueue {p : Port} {e : Entry} (h : KeepsCounts a s) (hl : (s.port p).queue.length < 8) :
    KeepsCounts a (joinQueue p e s) := by
  unfold Machine.joinQueue
  dsimp only
  split
  · exact h.drainList fun _ => by simp
  · exact h.setPort fun ⟨_, hw⟩ => ⟨by simpa using hl, hw⟩

/-! ## Requests (R177, R182, R187) -/

theorem hear {p : Port} (h : KeepsCounts a s) : KeepsCounts a (hear p s) := by
  have hp : KeepsCounts a (s.setPort p { s.port p with link := .active, silence := some (s.port p).timeout }) :=
    h.setPort fun ⟨hq, _, hw⟩ => ⟨hq, by simp, hw⟩
  exact hp.same (by simp) (hear_pi p s) (by simp)

theorem sendReply {p : Port} {kind tag : Byte} {st : Status} {d : List Byte} (h : KeepsCounts a s) :
    KeepsCounts a (sendReply p kind tag st d s) := by
  refine h.setPort fun ⟨hq, hs, hr, hb, hi, hw⟩ => ⟨hq, hs, hr, hb, ?_, hw⟩
  dsimp only
  split <;> omega

theorem reply {k : Kind} {p : Port} {tag : Byte} {st : Status} {d : List Byte} (h : KeepsCounts a s) :
    KeepsCounts a (reply k p tag st d s) := h.sendReply

theorem receive {k : Kind} {p : Port} {tag : Byte} {d : List Byte} {body : State → State} (h : KeepsCounts a s)
    (hb : ∀ t, KeepsCounts a t → KeepsCounts a (body t)) : KeepsCounts a (receive k p tag d body s) := by
  unfold Machine.receive
  dsimp only
  (repeat' split)
  · exact h.hear.reply
  · exact h.hear.reply
  · exact h.hear.reply
  · exact hb _ h.hear

theorem answer {k : Kind} {p : Port} {tag : Byte} {d : List Byte} {values : State → List Byte} (h : KeepsCounts a s) :
    KeepsCounts a (answer k p tag d values s) :=
  h.receive fun _ ht => ht.reply

theorem post {k : Kind} {p : Port} {tag : Byte} {d : List Byte} {make : State → Posted × Bool} (h : KeepsCounts a s) :
    KeepsCounts a (post k p tag d make s) := by
  refine h.receive fun t ht => ?_
  dsimp only
  split
  · exact ht.reply
  · exact ht.reply.joinQueue (by simp [Machine.reply, Machine.sendReply]; omega)

/-! ## The measurements (R6 to R16) -/

/-- R7: a count that may have reached 5 in OK, where the sensor then becomes LOST. -/
theorem loseSensor_counted {n : Nat} (h : KeepsCounts a s) (hn : s.mfe.invalidCount ≤ 255 → n ≤ 255) :
    KeepsCounts a (Machine.loseSensor { s with mfe := { s.mfe with invalidCount := n } }) := by
  have hl : KeepsCounts a { s with mfe := { s.mfe with
      invalidCount := n, sensor := .lost, window := [], newestSaturated := false } } := by
    refine h.setMfe fun ⟨_, _, _, hi, _, _, hm⟩ => ⟨?_, ?_, ?_, hn hi, ?_, fun _ => rfl, hm⟩ <;> simp
  exact reevaluate (judgeSurvey (raise hl))

theorem takeInvalid (h : KeepsCounts a s) : KeepsCounts a (takeInvalid s) := by
  have hn : count255 s.mfe.invalidCount ≤ 255 := Nat.min_le_left ..
  unfold Machine.takeInvalid
  dsimp only
  split
  · exact h.loseSensor_counted fun _ => hn
  · next hc =>
    refine h.setMfe fun ⟨hw, ho, hs, _, _, hm⟩ => ⟨hw, ho, hs, hn, fun hok => ?_, hm⟩
    simp only [not_and, not_le] at hc
    exact hc hok

end KeepsCounts

theorem clampInt_bounds (v : Int) {lo hi : Int} (h : lo ≤ hi) : lo ≤ clampInt v lo hi ∧ clampInt v lo hi ≤ hi := by
  unfold clampInt; omega

theorem clampNat_le (v : Int) (hi : Nat) : clampNat v hi ≤ hi := Nat.min_le_right ..

/-- R8. -/
theorem setLegal_clampSet (x y psi : Int) : SetLegal (clampSet x y psi) := by
  have hx := clampInt_bounds x (lo := -5000) (hi := 5000) (by decide)
  have hy := clampInt_bounds y (lo := -5000) (hi := 5000) (by decide)
  have hp := clampInt_bounds psi (lo := -1000) (hi := 1000) (by decide)
  exact ⟨hx.1, hx.2, hy.1, hy.2, hp.1, hp.2⟩

/-- R8: a set that joins leaves a window of one set more, or of 8. -/
theorem length_joinWindow (v : SampleSet) {w : List SampleSet} (h : w.length ≤ 8) :
    (joinWindow v w).length = min 8 (w.length + 1) := by
  unfold joinWindow
  split <;> simp <;> omega

theorem mem_joinWindow {u v : SampleSet} {w : List SampleSet} (h : u ∈ joinWindow v w) : u ∈ w ∨ u = v := by
  unfold joinWindow at h
  split at h
  · rcases List.mem_append.1 h with hd | hv
    · exact .inl (List.mem_of_mem_drop hd)
    · exact .inr (List.mem_singleton.1 hv)
  · simpa using h

/-- R13: the result of a gate lies in its range, and a gate without pulses gives speed 0. -/
theorem tachLegal_tachResult (k : Scaler) (pulses : Nat) (cutting : Bool) :
    TachLegal (tachResult k pulses cutting) := by
  have hb (v : Int) := clampInt_bounds v (lo := -500) (hi := 500) (by decide)
  refine ⟨(hb _).1, (hb _).2, Nat.min_le_left .., fun h => ?_⟩
  have h0 : min 65535 pulses = 0 := h
  simp [tachResult, h0, clampInt]

namespace KeepsCounts

variable {a s t : State}

theorem takeSet {v : SampleSet} {saturated : Bool} (h : KeepsCounts a s) (hv : SetLegal v) :
    KeepsCounts a { s with mfe := takeSet v saturated s.mfe } := by
  refine h.setMfe fun ⟨hw, ho, hs, _, _, _, hm⟩ => ?_
  have hl := length_joinWindow v hw
  refine ⟨?_, ?_, fun u hu => ?_, by simp [Machine.takeSet], by simp [Machine.takeSet], ?_, hm⟩
  · simp only [Machine.takeSet]; omega
  · simp only [Machine.takeSet]
    split
    · next he => exact iff_of_true rfl he
    · next hne => rw [ho]; omega
  · rcases mem_joinWindow hu with hu | rfl
    · exact hs u hu
    · exact hv
  · intro he
    simp only [Machine.takeSet] at he
    rw [he, List.length_nil] at hl
    omega

theorem endStarting (h : KeepsCounts a s) : KeepsCounts a (endStarting s) :=
  ⟨h.measurements, fun ha => by
    obtain ⟨hs, _⟩ := (portsLegal_iff s).1 (h.ports ha)
    exact (portsLegal_iff _).2 ⟨hs, fun _ => rfl⟩, h.events⟩

theorem takeValid {x y psi : Int} (h : KeepsCounts a s) : KeepsCounts a (takeValid x y psi s) := by
  have h1 {saturated : Bool} : KeepsCounts a { s with mfe := Machine.takeSet (clampSet x y psi) saturated s.mfe } :=
    h.takeSet (setLegal_clampSet x y psi)
  unfold Machine.takeValid
  dsimp only
  split
  · exact h1.surveySample.steerSample
  · exact h1.endStarting.judgeSurvey.surveySample.reevaluate.steerSample

theorem judgeGate {w : Wheel} {pulses : Nat} (h : KeepsCounts a s) : KeepsCounts a (judgeGate w pulses s) := by
  unfold Machine.judgeGate
  dsimp only
  (repeat' split)
  · exact h.takeTachFault
  · exact h.same rfl rfl rfl
  · exact h.same rfl rfl rfl
  · exact h

theorem judgeFlow (h : KeepsCounts a s) : KeepsCounts a (judgeFlow s) := by
  unfold Machine.judgeFlow
  (repeat' split)
  · exact changeReturn (h.same rfl rfl rfl)
  · exact h
  · exact h.starve
  · exact h.same rfl rfl rfl
  · exact h.same rfl rfl rfl
  all_goals exact h

theorem setTach {w : Wheel} {r : TachResult} (h : KeepsCounts a s) (hr : TachLegal r) :
    KeepsCounts a { s with mfe := { s.mfe with tach := s.mfe.tach.set w r } } := by
  refine h.setMfe fun ⟨hw, ho, hs, hi, hc, hn, hta, htb, hm⟩ => ?_
  cases w
  · exact ⟨hw, ho, hs, hi, hc, hn, hr, htb, hm⟩
  · exact ⟨hw, ho, hs, hi, hc, hn, hta, hr, hm⟩

theorem setFlow {r : Reading} (h : KeepsCounts a s) (hr : r.value ≤ 10000) :
    KeepsCounts a { s with mfe := { s.mfe with qm := r } } :=
  h.setMfe fun ⟨hw, ho, hs, hi, hc, hn, hta, htb, _, hm⟩ => ⟨hw, ho, hs, hi, hc, hn, hta, htb, hr, hm⟩

theorem takeHeadPressure {r : Reading} (h : KeepsCounts a s) (hr : r.value ≤ 400000) :
    KeepsCounts a (takeHeadPressure r s) := by
  have h1 {d : Dr} : KeepsCounts a { s with mfe := { s.mfe with headPressure := r }, dr := d } :=
    same (h.setMfe (m := { s.mfe with headPressure := r }) fun ⟨hw, ho, hs, hi, hc, hn, hta, htb, hq, hga, hgb, _⟩ =>
      ⟨hw, ho, hs, hi, hc, hn, hta, htb, hq, hga, hgb, hr⟩) rfl rfl rfl
  unfold Machine.takeHeadPressure
  dsimp only
  split
  · exact h1.compareDepth
  · exact h1

theorem samplePressures {pa pb : Int} (h : KeepsCounts a s) : KeepsCounts a (samplePressures pa pb s) :=
  h.setMfe fun ⟨hw, ho, hs, hi, hc, hn, hta, htb, hq, _, _, hp⟩ =>
    ⟨hw, ho, hs, hi, hc, hn, hta, htb, hq, clampNat_le .., clampNat_le .., hp⟩

/-! ## The governor update and the recovery (R54, R75) -/

theorem endRecovered {r : Recovery} (h : KeepsCounts a s) : KeepsCounts a (endRecovered r s) :=
  raise (setOutcome (releaseHead (clearRecord (recomputeFeed (h.same rfl rfl rfl)))))

theorem endJammed {r : Recovery} (h : KeepsCounts a s) : KeepsCounts a (endJammed r s) :=
  raise (setOutcome (releaseHead (clearRecord (recomputeFeed (h.same rfl rfl rfl)))))

theorem failBurst {r : Recovery} (h : KeepsCounts a s) : KeepsCounts a (failBurst r s) := by
  unfold Machine.failBurst
  split
  · exact h.same rfl rfl rfl
  · exact h.endJammed

theorem driveRecovery {r : Recovery} (h : KeepsCounts a s) : KeepsCounts a (driveRecovery r s) := by
  unfold Machine.driveRecovery
  dsimp only
  (repeat' split)
  case isTrue.isTrue | isFalse.isTrue => exact failBurst (h.same rfl rfl rfl)
  all_goals exact h.same rfl rfl rfl

theorem stepRecovery {r : Recovery} (h : KeepsCounts a s) : KeepsCounts a (stepRecovery r s) := by
  unfold Machine.stepRecovery
  dsimp only
  (repeat' split)
  · exact h.driveRecovery
  · exact h.endRecovered
  · exact h.driveRecovery

theorem takeStalls (h : KeepsCounts a s) : KeepsCounts a (takeStalls s) := by
  unfold Machine.takeStalls
  split
  · exact h.takeStall
  · exact h

theorem governorStep {pa pb : Int} (h : KeepsCounts a s) : KeepsCounts a (governorStep pa pb s) := by
  have hg : KeepsCounts a (governWheels (retarget (Machine.samplePressures pa pb s))) :=
    h.samplePressures.same rfl rfl rfl
  have hr : KeepsCounts a
      (restWheels (Machine.takeStalls (governWheels (retarget (Machine.samplePressures pa pb s))))) :=
    raiseHalted (hg.takeStalls.same rfl rfl rfl)
  refine handWheels ?_
  unfold stepSru
  (repeat' split)
  · exact hr
  · exact hr.stepRecovery
  · exact hr

/-! ## The plates -/

theorem handEnd {q : PlateId} {before : PerPlate Plate} (h : KeepsCounts a s) : KeepsCounts a (handEnd q before s) := by
  unfold Machine.handEnd
  split
  · exact h.releaseHead
  · exact h

theorem plateStep {n1 n2 s1 s2 : Int} (h : KeepsCounts a s) : KeepsCounts a (plateStep n1 n2 s1 s2 s) :=
  handEnd (handEnd (handEnd (handEnd (h.same rfl rfl rfl))))

/-! ## The return's requests and events -/

theorem ceilingIntoState (h : KeepsCounts a s) : KeepsCounts a (ceilingIntoState s) := by
  unfold Machine.ceilingIntoState
  (repeat' split)
  · exact changeReturn (h.same rfl rfl rfl)
  · exact h
  · exact changeReturn (h.same rfl rfl rfl)
  · exact h
  · exact h.startPriming
  all_goals exact h

theorem takeCeiling {qp : Nat} (h : KeepsCounts a s) : KeepsCounts a (takeCeiling qp s) :=
  ceilingIntoState (recomputeFeed (rejudgeShort (h.same rfl rfl rfl)))

theorem leaveHold (h : KeepsCounts a s) : KeepsCounts a (leaveHold s) := testPlant (h.same rfl rfl rfl)

theorem resetReturn (h : KeepsCounts a s) : KeepsCounts a (resetReturn s) := by
  unfold Machine.resetReturn
  split
  · exact h.testPlant
  · exact h.leaveHold
  all_goals exact h

theorem takeRise {low : Nat} (h : KeepsCounts a s) : KeepsCounts a (takeRise low s) := by
  unfold Machine.takeRise riseInHold
  (repeat' split)
  · exact h.startPriming
  · exact h
  · exact h.leaveHold
  all_goals exact h

theorem takeFall (h : KeepsCounts a s) : KeepsCounts a (takeFall s) := by
  unfold Machine.takeFall
  split
  case h_1 | h_2 | h_3 => exact changeReturn (h.same rfl rfl rfl)
  case h_4 => exact h.same rfl rfl rfl
  all_goals exact h

/-! ## The survey's requests -/

theorem runRequest {k : Kind} {p : Port} {tag : Byte} {d : List Byte} {refusal : State → Option Status}
    {effect : State → State} (h : KeepsCounts a s) (he : ∀ t, KeepsCounts a t → KeepsCounts a (effect t)) :
    KeepsCounts a (runRequest k p tag d refusal effect s) := by
  refine h.receive fun t ht => ?_
  (repeat' split)
  · exact ht.reply
  · exact ht.reply
  · exact (he t ht).reply

theorem startCheck (h : KeepsCounts a s) : KeepsCounts a (startCheck s) := by
  unfold Machine.startCheck
  dsimp only
  split
  · exact endCheck (h.same rfl rfl rfl)
  · exact judgeCheck (h.same rfl rfl rfl)

/-! ## Restart, loss and the timers of the ports -/

theorem restartPort (q : PortRec) (h : PortLegal q) : PortLegal (restartPort q) := by
  obtain ⟨_, hs, hr, hb, _, hw⟩ := h
  exact ⟨Nat.zero_le _, hs, hr, hb, Nat.zero_le _, hw⟩

theorem restartPi (h : KeepsCounts a s) : KeepsCounts a (restartPi s) :=
  ⟨h.measurements, fun ha => by
    obtain ⟨hc, hp, hh, hw⟩ := h.ports ha
    exact ⟨restartPort _ hc, restartPort _ hp, restartPort _ hh, hw⟩,
    fun ha => (h.events ha).setMark (by simp [timeOf])⟩

theorem restartSru (h : KeepsCounts a s) : KeepsCounts a (restartSru s) := by
  unfold Machine.restartSru
  split <;> exact h.same rfl rfl rfl

theorem restartHub (h : KeepsCounts a s) : KeepsCounts a (restartHub s) := by
  have hs : KeepsCounts a (restartDr (restartRc (restartWg (Machine.restartSru (Machine.restartPi s))))) :=
    h.restartPi.restartSru.same rfl rfl rfl
  exact raise (hs.stopSurvey.same rfl rfl rfl)

theorem losePort {p : Port} (h : KeepsCounts a s) : KeepsCounts a (losePort p s) := by
  unfold Machine.losePort
  dsimp only
  split
  · exact h.setPort fun ⟨_, _, _, hb, hi, hw⟩ => ⟨Nat.zero_le _, by simp, Nat.min_le_left .., hb, hi, hw⟩
  · exact raiseRefused (h.setPort fun ⟨_, _, _, hb, hi, hw⟩ =>
      ⟨Nat.zero_le _, by simp, Nat.min_le_left .., hb, hi, hw⟩)

theorem handLoss {p : Port} (h : KeepsCounts a s) : KeepsCounts a (handLoss p s) := by
  cases p
  · exact h.haltWheels.recomputeFeed
  · exact h.same (by simp [Machine.handLoss]) (by simp [Machine.handLoss]) (by simp [Machine.handLoss])
  · exact h.goStale

theorem powered (ready : Bool) (s : State) (pending : List Instr) (free : Nat) :
    KeepsCounts s { State.powered ready with pending := pending, free := free } := by
  have hm : MeasurementsLegal State.reset := by decide
  have hp : PortsLegal State.reset := by decide
  have he : EventsLegal State.reset := by decide
  exact ⟨fun _ => hm, fun _ => hp, fun _ => (eventsLegal_iff _).1 he⟩

/-! ## A millisecond (log entry 1) -/

theorem timeOf_runDown_le (t : Option Nat) : timeOf (runDown t) ≤ timeOf t := by
  cases t <;> simp [runDown, timeOf]

theorem portLegal_tickPort {q : PortRec} (h : PortLegal q) : PortLegal (tickPort q) := by
  obtain ⟨hq, hs, hw⟩ := h
  exact ⟨hq, by simpa [tickPort, runDown] using hs, hw⟩

theorem tick (h : KeepsCounts a s) : KeepsCounts a (tick s) := by
  refine ⟨h.measurements, fun ha => ?_, fun ha => ?_⟩
  · obtain ⟨hc, hp, hh, hw⟩ := h.ports ha
    refine ⟨portLegal_tickPort hc, portLegal_tickPort hp, portLegal_tickPort hh, fun hr => ?_⟩
    exact (congrArg (· - 1) (hw hr) :)
  · exact (h.events ha).setMark ((timeOf_runDown_le _).trans (h.events ha).2.2.2)

/-! ## The commands with more than one branch -/

theorem badFrame (h : KeepsCounts a s) (p : Port) (candidate : List Byte) :
    ∃ t, execBadFrame p candidate s = .next t ∧ KeepsCounts a t :=
  ⟨_, rfl, .ite (fun _ => h.setPort fun ⟨hq, hs, hr, _, hw⟩ => ⟨hq, hs, hr, Nat.min_le_left .., hw⟩) fun _ => h⟩

theorem queryZone (h : KeepsCounts a s) (p : Port) (tag : Byte) (d : List Byte) :
    ∃ t, execQueryZone p tag d s = .next t ∧ KeepsCounts a t :=
  ⟨_, rfl, h.receive fun _ ht => .ite (fun _ => ht.reply) fun _ =>
    reply (.ite (fun _ => ht.same rfl rfl rfl) fun _ => ht)⟩

theorem queryPort (h : KeepsCounts a s) (p : Port) (tag : Byte) (d : List Byte) :
    ∃ t, execQueryPort p tag d s = .next t ∧ KeepsCounts a t := by
  refine ⟨_, rfl, h.receive fun t ht => ?_⟩
  split
  · exact ht.reply
  · exact reply (.ite (fun _ => ht.same rfl rfl rfl) fun _ => ht)

theorem setDatum (h : KeepsCounts a s) (p : Port) (tag : Byte) (d : List Byte) :
    ∃ t, execSetDatum p tag d s = .next t ∧ KeepsCounts a t := by
  refine ⟨_, rfl, h.receive fun t ht => ?_⟩
  split
  · exact ht.reply
  · exact ht.takeDatum.reply

theorem haltTaken (h : KeepsCounts a s) : KeepsCounts a (haltTaken s) :=
  .ite (fun _ => h.haltWheels.releaseHead) fun _ => h.haltWheels

theorem surveyRelease (h : KeepsCounts a s) (p : Port) (tag : Byte) (d : List Byte) :
    ∃ t, execSurveyRelease p tag d s = .next t ∧ KeepsCounts a t := by
  refine ⟨_, rfl, h.receive fun t ht => ?_⟩
  split
  · exact ht.reply
  · exact ht.setSu.reply

/-- R137. -/
theorem surveyWindow (h : KeepsCounts a s) (p : Port) (tag : Byte) (d : List Byte) :
    ∃ t, execSurveyWindow p tag d s = .next t ∧ KeepsCounts a t := by
  refine ⟨_, rfl, h.receive fun t ht => .ite (fun hw => ?_) fun _ => ht.reply⟩
  simp only [windowOk, Bool.and_eq_true, decide_eq_true_eq] at hw
  exact reply (ht.setPort fun ⟨hq, hs, hr, hb, hi, _⟩ =>
    ⟨hq, hs, hr, hb, hi, hw.1, hw.2, le_rfl, Nat.le_succ_of_le hw.1⟩)

/-- R138: the cursor moves on from a place that lies in the window. -/
theorem readNext (h : KeepsCounts a s) (p : Port) (tag : Byte) (d : List Byte) :
    ∃ t, execReadNext p tag d s = .next t ∧ KeepsCounts a t := by
  refine ⟨_, rfl, h.receive fun t ht => ?_⟩
  dsimp only
  split
  · next hr =>
    have hc : (t.port p).cursor ≤ (t.port p).windowLast := by
      unfold recordAtCursor at hr
      split at hr
      · assumption
      · cases hr
    exact reply (ht.setPort fun ⟨hq, hs, hr, hb, hi, hf, hl, hfc, _⟩ =>
      ⟨hq, hs, hr, hb, hi, hf, hl, Nat.le_succ_of_le hfc, Nat.succ_le_succ hc⟩)
  · exact ht.reply

/-- R192: the count is taken from 1 to 16. -/
theorem testInject (h : KeepsCounts a s) (p : Port) (tag : Byte) (d : List Byte) :
    ∃ t, execTestInject p tag d s = .next t ∧ KeepsCounts a t := by
  refine ⟨_, rfl, h.receive fun t ht => ?_⟩
  split
  · exact ht.reply
  · refine .ite (fun hn => ?_) fun _ => ht.reply
    simp only [inRange, Bool.and_eq_true, decide_eq_true_eq] at hn
    exact reply (ht.setPort fun ⟨hq, hs, hr, hb, _, hw⟩ => ⟨hq, hs, hr, hb, hn.2, hw⟩)

theorem postedHeadApply (h : KeepsCounts a s) (p : Port) :
    ∃ t, execPostedHeadApply p s = .next t ∧ KeepsCounts a t := by
  refine ⟨_, rfl, ?_⟩
  split
  · exact h
  · exact .ite (fun _ => h) fun _ => h.drain

theorem holdTimerExpiry (h : KeepsCounts a s) (p : Port) :
    ∃ t, execHoldTimerExpiry p s = .next t ∧ KeepsCounts a t := by
  refine ⟨_, rfl, ?_⟩
  split
  · next hq =>
    exact h.recordRefusal.drainList fun ha => by
      have hl := ((h.ports ha).port p).1
      rw [hq] at hl
      exact Nat.le_of_succ_le hl
  · exact h

theorem sampleSlot (h : KeepsCounts a s) (v : Delivery) : ∃ t, execSampleSlot v s = .next t ∧ KeepsCounts a t := by
  refine ⟨_, rfl, ?_⟩
  split
  · exact h.takeInvalid
  · exact h.takeInvalid
  · exact h.takeInvalid
  · exact h.takeValid

theorem phaseTimerExpiry (h : KeepsCounts a s) : ∃ t, execPhaseTimerExpiry s = .next t ∧ KeepsCounts a t := by
  refine ⟨_, rfl, ?_⟩
  (repeat' split)
  · exact h
  · exact h.same rfl rfl rfl
  · exact h.endRecovered
  · exact h

theorem burstStallTimerExpiry (h : KeepsCounts a s) :
    ∃ t, execBurstStallTimerExpiry s = .next t ∧ KeepsCounts a t := by
  refine ⟨_, rfl, ?_⟩
  split
  · exact h
  · exact .ite (fun _ => h.failBurst) fun _ => h

/-! ## Every command -/

/-- What a command answers keeps the three invariants. -/
theorem exec (c : Instr) (s : State) : ∃ t, exec c s = .next t ∧ KeepsCounts s t := by
  have h := refl s
  cases c with
  | powerOn ready => exact ⟨_, rfl, powered ready s _ _⟩
  | badFrame p candidate => exact h.badFrame p candidate
  | unknownKind p kind tag => exact ⟨_, rfl, h.hear.sendReply⟩
  | setScaler | setDepthCheck | loadZone | dropZone | setWheelDemand | setRamp | setFallbackSpeed | clearJam
  | setRecovery | setSteerMode | setTrimManual | setSteerGains | setPlate | clearPlate | setPumpDemand
  | setTransport | setPortTimeout | ackEvents | setEventEnables | setAlertLine | setMarkWidth =>
    exact ⟨_, rfl, h.post⟩
  | queryMeasurements | queryDepth | queryDemand | queryWheels | queryRecovery | querySteering | queryPlates
  | querySurvey | queryStatus | queryEvents => exact ⟨_, rfl, h.answer⟩
  | queryZone p tag d => exact h.queryZone p tag d
  | queryPort p tag d => exact h.queryPort p tag d
  | queryCheck =>
    exact ⟨_, rfl, h.receive fun _ ht => reply (.ite (fun _ => ht.same rfl rfl rfl) fun _ => ht)⟩
  | queryReturn =>
    exact ⟨_, rfl, h.receive fun _ ht => reply (.ite (fun _ => ht) fun _ => ht.same rfl rfl rfl)⟩
  | reportRopeCount => exact ⟨_, rfl, h.receive fun _ ht => ht.reportCount.reply⟩
  | setDatum p tag d => exact h.setDatum p tag d
  | halt => exact ⟨_, rfl, h.receive fun _ ht => ht.haltTaken.reply⟩
  | releaseHalt =>
    exact ⟨_, rfl, h.receive fun _ ht => .ite (fun _ => ht.reply) fun _ => reply (handWheels (ht.same rfl rfl rfl))⟩
  | surveyClaim => exact ⟨_, rfl, h.receive fun _ ht => .ite (fun _ => ht.setSu.reply) fun _ => ht.reply⟩
  | surveyRelease p tag d => exact h.surveyRelease p tag d
  | surveyConfig | surveyClear | surveySetPointer => exact ⟨_, rfl, h.runRequest fun _ ht => ht.setSu⟩
  | surveyStart => exact ⟨_, rfl, h.runRequest fun _ ht => ht.setSu.judgeArming⟩
  | surveyStop => exact ⟨_, rfl, h.runRequest fun _ ht => ht.stopSurvey⟩
  | surveyCheck => exact ⟨_, rfl, h.runRequest fun _ ht => ht.startCheck⟩
  | surveyWindow p tag d => exact h.surveyWindow p tag d
  | readNext p tag d => exact h.readNext p tag d
  | setPlantCeiling => exact ⟨_, rfl, h.receive fun _ ht => ht.takeCeiling.reply⟩
  | reportDensity =>
    exact ⟨_, rfl, h.receive fun _ ht => .ite (fun _ => reply (ht.same rfl rfl rfl)) fun _ => ht.reply⟩
  | resetReturn => exact ⟨_, rfl, h.receive fun _ ht => .ite (fun _ => ht.reply) fun _ => ht.resetReturn.reply⟩
  | headRestart => exact ⟨_, rfl, h.receive fun _ ht => ht.reply.restartHub⟩
  | testInject p tag d => exact h.testInject p tag d
  | postedHeadApply p => exact h.postedHeadApply p
  | holdTimerExpiry p => exact h.holdTimerExpiry p
  | sampleSlot v => exact h.sampleSlot v
  | sensorLost => exact ⟨_, rfl, .ite (fun _ => h.loseSensor_counted fun hn => by omega) fun _ => h⟩
  | tachGateEnd => exact ⟨_, rfl, (h.setTach (tachLegal_tachResult ..)).judgeGate⟩
  | flowGateEnd => exact ⟨_, rfl, (h.setFlow (clampNat_le ..)).judgeFlow⟩
  | governorUpdate => exact ⟨_, rfl, h.governorStep⟩
  | headPressureSample => exact ⟨_, rfl, h.takeHeadPressure (clampNat_le ..)⟩
  | plateSample => exact ⟨_, rfl, h.plateStep⟩
  | snapshotIntervalExpiry =>
    exact ⟨_, rfl, .ite (fun _ => pushSnapshot (h.same rfl rfl rfl)) fun _ => h.same rfl rfl rfl⟩
  | stallTimerExpiry => exact ⟨_, rfl, .ite (fun _ => h.takeStall) fun _ => h⟩
  | tachFault => exact ⟨_, rfl, .ite (fun _ => h.takeTachFault) fun _ => h⟩
  | depthDisagree => exact ⟨_, rfl, .ite (fun _ => setDisagree (raise (h.same rfl rfl rfl))) fun _ => h⟩
  | disagreeClear => exact ⟨_, rfl, .ite (fun _ => setDisagree (h.same rfl rfl rfl)) fun _ => h⟩
  | phaseTimerExpiry => exact h.phaseTimerExpiry
  | burstStallTimerExpiry => exact h.burstStallTimerExpiry
  | settleTimerExpiry => exact ⟨_, rfl, .ite (fun _ => releaseHead (h.same rfl rfl rfl)) fun _ => h⟩
  | moveTimerExpiry => exact ⟨_, rfl, .ite (fun _ => releaseHead (raise (h.same rfl rfl rfl))) fun _ => h⟩
  | primingTimerExpiry | starvationCountExpiry => exact ⟨_, rfl, .ite (fun _ => h.starve) fun _ => h⟩
  | plantReadyRise => exact ⟨_, rfl, .ite (fun _ => h) fun _ => takeRise (h.same rfl rfl rfl)⟩
  | plantReadyFall => exact ⟨_, rfl, .ite (fun _ => takeFall (h.same rfl rfl rfl)) fun _ => h⟩
  | silenceTimerExpiry => exact ⟨_, rfl, .ite (fun _ => h.losePort.raisePortLost.handLoss.surveyLoss) fun _ => h⟩
  | startUpTimerExpiry => exact ⟨_, rfl, .ite (fun _ => h.endStarting) fun _ => h⟩
  | widthTimerExpiry => exact ⟨_, rfl, h.setEvents fun hu => hu.setMark (by simp [timeOf])⟩

end KeepsCounts

/-- A step, of a command or of a millisecond, keeps the three invariants. -/
theorem step_keepsCounts {s t : State} (h : step s = .next t) : KeepsCounts s t := by
  unfold step at h
  split at h
  · cases h; exact (KeepsCounts.refl s).tick
  · next c rest _ =>
    have hr : KeepsCounts s { s with pending := rest } := (KeepsCounts.refl s).same rfl rfl rfl
    obtain ⟨u, hu, hk⟩ := KeepsCounts.exec c { s with pending := rest }
    cases hu.symm.trans h
    exact hr.trans hk

/-- Settles O24: every operation that a command is made of keeps the three invariants, and so does a millisecond. -/
theorem countsLegalKept : Obligations.CountsLegalKept :=
  ⟨fun _ _ hs h => (step_keepsCounts h).measurements hs, fun _ _ hs h => (step_keepsCounts h).ports hs,
   fun s t hs h => (eventsLegal_iff t).2 ((step_keepsCounts h).events ((eventsLegal_iff s).1 hs))⟩

end Sys2Proof.Machine
end

section
/-! SUPPORT. A posted request at a clear queue: what the hub answers when the owning block takes it or refuses it
(R184, R185), and SET_SCALER (O29). -/

namespace Sys2Proof.Machine

/-! ## What a frame leaves of the blocks that read it -/

@[simp] theorem hear_dr_state (p : Port) (s : State) : (hear p s).dr.state = s.dr.state := by
  cases p <;> (unfold hear; dsimp only; split) <;> simp [resumeCrossCheck]
  split <;> rfl

@[simp] theorem hear_rc_state (p : Port) (s : State) : (hear p s).rc.state = s.rc.state := by
  cases p <;> (unfold hear; dsimp only; split) <;> simp [recomputeFeed_eq]

@[simp] theorem answered_dr_state (k : Kind) (p : Port) (tag : Byte) (st : Status) (d : List Byte) (s : State) :
    (answered k p tag st d s).dr.state = s.dr.state := by
  simp [answered]

@[simp] theorem answered_rc_state (k : Kind) (p : Port) (tag : Byte) (st : Status) (d : List Byte) (s : State) :
    (answered k p tag st d s).rc.state = s.rc.state := by
  simp [answered]

/-! ## A clear queue -/

theorem answered_clear {p : Port} {s : State} (hq : QueueClear p s) (k : Kind) (tag : Byte) (st : Status)
    (d : List Byte) :
    ((answered k p tag st d s).port p).queue = [] ∧ ((answered k p tag st d s).port p).hold = none := by
  obtain ⟨_, he, hh⟩ := hq
  rw [answered_port]
  exact ⟨he, hh⟩

section
variable {k : Kind} {p : Port} {tag : Byte} {d : List Byte} {make : State → Posted × Bool} {r : Posted} {c : Bool}
  {s a t : State} {code : Status}

/-- R185: a request posted at a clear queue that its block takes leaves the state the block answers. -/
theorem post_taken (hq : QueueClear p s) (hp : permitted k p = true) (hl : d.length = payloadLength k)
    (hm : make (hear p s) = (r, c)) (ha : a = answered k p tag (if c then .takenClamped else .taken) [] s)
    (hn : held r a = false) (ht : applyPosted p r a = .ok t) (hport : t.port p = a.port p) :
    post k p tag d make s = t := by
  obtain ⟨he, hh⟩ := answered_clear hq k tag (if c then .takenClamped else .taken) []
  subst ha
  rw [post_clear hq hp hl, hm, drain_taken hn ht, setQueue_clear] <;> rw [hport] <;> assumption

/-- R185: a request posted at a clear queue that its block refuses leaves the refusal. -/
theorem post_refused (hq : QueueClear p s) (hp : permitted k p = true) (hl : d.length = payloadLength k)
    (hm : make (hear p s) = (r, c)) (ha : a = answered k p tag (if c then .takenClamped else .taken) [] s)
    (hn : held r a = false) (ht : applyPosted p r a = .error code) :
    post k p tag d make s = refusedAt r.kind p tag code a := by
  obtain ⟨he, hh⟩ := answered_clear hq k tag (if c then .takenClamped else .taken) []
  have hport : (refusedAt r.kind p tag code a).port p =
      { a.port p with rejection := some { kind := r.kind, tag := tag, code := code }
                      refused := min 255 ((a.port p).refused + 1) } := State.port_setPort_same ..
  subst ha
  rw [post_clear hq hp hl, hm, drain_refused hn ht, setQueue_clear] <;> rw [hport] <;> assumption

end

/-! ## SET_SCALER (R1 to R4) -/

/-- R1: the ranges of N, R and OD, and the names. -/
def scalerFieldsOk (i n r od : Nat) : Prop :=
  i ≤ 2 ∧ 2 ≤ n ∧ n ≤ 511 ∧ 2 ≤ r ∧ r ≤ 31 ∧ (od = 1 ∨ od = 2 ∨ od = 4)

theorem applySetScaler_fields {i n r od : Nat} (s : State) (h : ¬ scalerFieldsOk i n r od) :
    applySetScaler i n r od s = .error .outOfRange := by
  unfold applySetScaler
  refine if_pos ?_
  simp only [scalerFieldsOk] at h
  simp [inRange]
  omega

theorem applySetScaler_ratio {i n r od : Nat} (s : State) (hr : ratioOk i { n := n, r := r, od := od } = false) :
    applySetScaler i n r od s = .error .outOfRange := by
  simp [applySetScaler, hr]

/-- R3, R4: settings in their ranges are taken unless the named scaler runs. -/
theorem applySetScaler_inRange {i n r od : Nat} (s : State) (h : scalerFieldsOk i n r od)
    (hr : ratioOk i { n := n, r := r, od := od } = true) :
    applySetScaler i n r od s =
      if scalerRunning i s then .error .locked
      else .ok { s with mfe := replaceScaler i { n := n, r := r, od := od } s.mfe } := by
  obtain ⟨hi, hn, hn', hr2, hr', hod⟩ := h
  have hod' : (od == 1 || od == 2 || od == 4) = true := by simpa [or_assoc] using hod
  simp [applySetScaler, inRange, *]

theorem tachScalerRunning_eq_false (s : State) :
    tachScalerRunning s = false ↔ (s.wg.wheels.a.state = .stopped ∨ s.wg.wheels.a.state = .halted) ∧
      (s.wg.wheels.b.state = .stopped ∨ s.wg.wheels.b.state = .halted) := by
  simp [tachScalerRunning, atRest, or_iff_not_imp_left]

section
variable {tag : Byte} {d : List Byte} {s a : State} {i n r od : Nat}

/-- SET_SCALER refused by MFE. -/
theorem setScaler_refused {code : Status} (hq : QueueClear .cabin s) (hl : d.length = 13)
    (ha : a = answered .setScaler .cabin tag .taken [] s) (hp : postSetScaler d = .setScaler i n r od)
    (h : applySetScaler i n r od a = .error code) :
    exec (.setScaler .cabin tag d) s = .next (refusedAt .setScaler .cabin tag code a) :=
  congrArg _ (post_refused (r := .setScaler i n r od) (c := false) hq rfl hl (congrArg (·, false) hp) ha rfl h)

/-- SET_SCALER in range, of a scaler that stands or that runs. -/
theorem setScaler_inRange (hq : QueueClear .cabin s) (hl : d.length = 13)
    (ha : a = answered .setScaler .cabin tag .taken [] s) (hp : postSetScaler d = .setScaler i n r od)
    (h : scalerFieldsOk i n r od) (hr : ratioOk i { n := n, r := r, od := od } = true) :
    exec (.setScaler .cabin tag d) s = .next (if scalerRunning i a = false
      then { a with mfe := replaceScaler i { n := n, r := r, od := od } s.mfe }
      else refusedAt .setScaler .cabin tag .locked a) := by
  have hm : a.mfe = s.mfe := by simp [ha]
  have hs := applySetScaler_inRange a h hr
  split
  · next hrun =>
    rw [if_neg (by simp [hrun]), hm] at hs
    exact congrArg _ (post_taken (r := .setScaler i n r od) (c := false) hq rfl hl (congrArg (·, false) hp) ha rfl
      hs rfl)
  · next hrun =>
    rw [if_pos (by simpa using hrun)] at hs
    exact setScaler_refused hq hl ha hp hs

end

/-- Settles O29: the queue is clear, so MFE judges the request at once; its checks are those of the statement. -/
theorem scalerSet : Obligations.ScalerSet := by
  intro tag d s a i n r od hq hl ha hi hn hr hod
  have hp : postSetScaler d = .setScaler i n r od := by rw [hi, hn, hr, hod]; rfl
  have refuse (h : applySetScaler i n r od a = .error .outOfRange) := setScaler_refused hq hl ha hp h
  refine ⟨fun hout => refuse (applySetScaler_fields a ?_), fun hi2 hn2 hn511 hr2 hr31 hod4 => ?_⟩
  · unfold scalerFieldsOk; omega
  have hf : scalerFieldsOk i n r od := ⟨hi2, hn2, hn511, hr2, hr31, hod4⟩
  have take (hr : ratioOk i { n := n, r := r, od := od } = true) := setScaler_inRange hq hl ha hp hf hr
  have hlo : 5 * r * od = 5 * (r * od) := Nat.mul_assoc ..
  have hhi (c : Nat) : c * r * od = c * (r * od) := Nat.mul_assoc ..
  refine ⟨fun h0 hlow hhigh => ?_, fun h1 hlow hhigh => ?_, fun h2 hlow hhigh => ?_, fun hout => refuse ?_⟩
  · subst h0
    rw [take (by simp [ratioOk, hhi, hlow, hhigh])]
    simp [scalerRunning, depthScalerRunning, ha, replaceScaler]
  · subst h1
    rw [take (by simp [ratioOk, hhi, hlow, hhigh])]
    simp [scalerRunning, tachScalerRunning_eq_false, ha, replaceScaler]
  · subst h2
    rw [take (by simp [ratioOk, hhi, hlow, hhigh])]
    simp [scalerRunning, flowScalerRunning, ha, replaceScaler]
  · refine applySetScaler_ratio a ?_
    rcases hout with ⟨rfl, h⟩ | ⟨rfl, h⟩ | ⟨rfl, h⟩ <;> simp [ratioOk, hhi] <;> omega

end Sys2Proof.Machine
end

section
/-! SUPPORT. The defaults of POWER_ON (O11), the window mean (O25) and the queries (O52). -/

namespace Sys2Proof.Machine

/-- Settles O11: the defaults of the blocks, written out. -/
theorem powerOnDefaults : Obligations.PowerOnDefaults := by
  rintro ready s p w t r q e rfl rfl rfl rfl rfl rfl
  rfl

/-! ## The window mean (R10) -/

theorem meansDefined_iff (m : Mfe) : meansDefined m = true ↔ m.window.length = 8 := by simp [meansDefined]

theorem windowMean_of_length {m : Mfe} (h : m.window.length = 8) (f : SampleSet → Int) :
    windowMean m f = roundDiv (m.window.map f).sum m.window.length :=
  if_pos ((meansDefined_iff m).2 h)

/-- Settles O25: the mean is defined over 8 sets and no fewer, and with the measurements in order (R9) the window holds
8 sets exactly in OK. -/
theorem windowMean_holds : Obligations.WindowMean := by
  refine ⟨fun m f => ⟨fun h => ⟨(meansDefined_iff m).2 h, windowMean_of_length h f⟩, fun h => ?_⟩, fun s hs => ?_,
    by decide, by decide, by decide⟩
  · rw [← Bool.not_eq_true, meansDefined_iff]
    exact h.ne
  · obtain ⟨_, hok, _⟩ := hs
    rw [meansDefined_iff, hok]

/-! ## The queries (R183) -/

section
variable {k : Kind} {p : Port} {tag : Byte} {d : List Byte} {s : State}

/-- R182: a request that passes the arrival checks goes on to its body. -/
theorem receive_ready (hp : permitted k p = true) (hl : d.length = payloadLength k) (hr : s.pi.hub = .ready)
    (body : State → State) : receive k p tag d body s = body (hear p s) := by
  simp [receive, hp, hl, hr]

/-- R183: a query is answered with the values as they stand. -/
theorem answer_ready (hp : permitted k p = true) (hl : d.length = payloadLength k) (hr : s.pi.hub = .ready)
    (values : State → List Byte) : answer k p tag d values s = answered k p tag .done (values (hear p s)) s :=
  receive_ready hp hl hr _

/-- R182: QUERY_STATUS is answered in STARTING too. -/
theorem answer_queryStatus (values : State → List Byte) :
    answer .queryStatus p tag [] values s = answered .queryStatus p tag .done (values (hear p s)) s := by
  simp [answer, receive, permitted, payloadLength, answered]

/-- The count of the free values used stands beside everything a reply touches. -/
theorem reply_useFree (st : Status) (v : List Byte) (n : Nat) :
    reply k p tag st v (useFree n (hear p s)) = { answered k p tag st v s with free := s.free + n } := by
  have hf : (hear p s).free = s.free := by simp
  rw [← hf]
  rfl

theorem answered_free (st : Status) (v : List Byte) :
    answered k p tag st v s = { answered k p tag st v s with free := s.free + 0 } := by
  have hf : (answered k p tag st v s).free = s.free := by simp
  rw [Nat.add_zero, ← hf]

/-- A reply with which some free values may have been used. -/
theorem reply_ite_useFree (c : Prop) [Decidable c] (st : Status) (v : List Byte) (n : Nat) :
    reply k p tag st v (if c then useFree n (hear p s) else hear p s) =
      { answered k p tag st v s with free := s.free + if c then n else 0 } := by
  split
  · exact reply_useFree st v n
  · exact answered_free st v

end

/-- R187: a frame heard replaces nothing of the return but the feed limit. -/
theorem hear_rc (p : Port) (s : State) :
    (hear p s).rc = { s.rc with feedLimit := (hear p s).rc.feedLimit } := by
  cases p <;> (unfold hear; dsimp only; split) <;> simp [recomputeFeed_eq]

theorem hear_rejection (p q : Port) (s : State) : ((hear p s).port q).rejection = (s.port q).rejection := by
  by_cases h : q = p
  · subst h; rw [hear_port]
  · rw [hear_port_ne s h]

/-- R154: a pass in progress that has no target. -/
theorem indexOpen_iff (u : Su) :
    indexOpen u = true ↔ (u.state = .checking ∨ u.state = .checkHolding) ∧ u.target = none := by
  simp [indexOpen, checkInProgress]

/-- R174: the time the line has been low is stated when the detector is armed with the line low. -/
theorem lowTimeStated_iff (r : Rc) : lowTimeStated r = true ↔ r.armed = true ∧ r.ready = false := by
  simp [lowTimeStated]

section
variable {p : Port} {tag : Byte} {d : List Byte} {s : State}

theorem exec_queryCheck (hr : s.pi.hub = .ready) :
    exec (.queryCheck p tag []) s = .next
      { (answered .queryCheck p tag .done (checkBytes (hear p s)) s) with
        free := s.free + if (s.su.state = .checking ∨ s.su.state = .checkHolding) ∧ s.su.target = none then 1 else 0 } := by
  refine congrArg _ ((receive_ready rfl rfl hr _).trans ((reply_ite_useFree ..).trans ?_))
  have hu : (hear p s).su = s.su := by simp
  simp only [hu, indexOpen_iff]

theorem exec_queryReturn (hr : s.pi.hub = .ready) :
    exec (.queryReturn p tag []) s = .next
      { (answered .queryReturn p tag .done (returnReplyBytes (hear p s)) s) with
        free := s.free + if s.rc.armed = true ∧ s.rc.ready = false then 0 else 1 } := by
  refine congrArg _ ((receive_ready rfl rfl hr _).trans ?_)
  have hlow : lowTimeStated (hear p s).rc = true ↔ s.rc.armed = true ∧ s.rc.ready = false := by
    rw [hear_rc, lowTimeStated_iff]
  by_cases h : s.rc.armed = true ∧ s.rc.ready = false
  · rw [if_pos (hlow.2 h), if_pos h]
    exact answered_free ..
  · rw [if_neg (hlow.not.2 h), if_neg h]
    exact reply_useFree ..

theorem exec_queryZone (hr : s.pi.hub = .ready) (hl : d.length = 4) :
    exec (.queryZone p tag d) s = .next (if 8 < natAt d 0 then answered .queryZone p tag .outOfRange [] s
      else { (answered .queryZone p tag .done (zoneReplyBytes (natAt d 0) (hear p s)) s) with
        free := s.free + if natAt d 0 = 8 then 1 else 0 }) := by
  refine congrArg _ ((receive_ready rfl hl hr _).trans ?_)
  exact if_congr Iff.rfl rfl (reply_ite_useFree ..)

theorem exec_queryPort_none (hr : s.pi.hub = .ready) (hl : d.length = 1) (hq : portNamed (nameAt d 0) = none) :
    exec (.queryPort p tag d) s = .next (answered .queryPort p tag .outOfRange [] s) := by
  refine congrArg _ ((receive_ready rfl hl hr _).trans ?_)
  rw [hq]
  rfl

theorem exec_queryPort_some {q : Port} (hr : s.pi.hub = .ready) (hl : d.length = 1)
    (hq : portNamed (nameAt d 0) = some q) :
    exec (.queryPort p tag d) s = .next
      { (answered .queryPort p tag .done (portBytes q (hear p s)) s) with
        free := s.free + if (s.port q).rejection = none then 3 else 0 } := by
  refine congrArg _ ((receive_ready rfl hl hr _).trans ?_)
  simp only [hq, hear_rejection, Option.isNone_iff_eq_none]
  exact reply_ite_useFree ..

theorem portNamed_eq_none {n : Nat} (h : 2 < n) : portNamed n = none := by
  obtain ⟨m, rfl⟩ : ∃ m, n = m + 3 := ⟨n - 3, by omega⟩
  rfl

end

/-- Settles O52: each query passes the arrival checks and answers the values of the state once it has been heard. -/
theorem queriesAnswered : Obligations.QueriesAnswered := by
  refine ⟨?_, ?_, ?_⟩
  · rintro p tag s h rfl hr
    have plain (k : Kind) (hp : permitted k p = true) (hl : payloadLength k = 0) (values : State → List Byte) :
        answer k p tag [] values s = answered k p tag .done (values (hear p s)) s :=
      answer_ready (d := []) hp hl.symm hr values
    exact ⟨congrArg _ (plain .queryMeasurements rfl rfl _), congrArg _ (plain .queryDepth rfl rfl _),
      congrArg _ (plain .queryDemand rfl rfl _), congrArg _ (plain .queryWheels rfl rfl _),
      congrArg _ (plain .queryRecovery rfl rfl _), congrArg _ (plain .querySteering rfl rfl _),
      congrArg _ (plain .queryPlates rfl rfl _), congrArg _ (plain .querySurvey rfl rfl _),
      congrArg _ (plain .queryEvents rfl rfl _), exec_queryCheck hr, exec_queryReturn hr⟩
  · rintro p tag s h rfl
    exact congrArg _ (answer_queryStatus _)
  · rintro p tag d s h rfl hr
    refine ⟨fun hl h8 => ?_, fun hl h8 => ?_, fun q hl hq => exec_queryPort_some hr hl hq,
      fun hl hq => exec_queryPort_none hr hl (portNamed_eq_none hq)⟩
    · rw [exec_queryZone hr hl, if_neg (Nat.not_lt.2 h8)]
    · rw [exec_queryZone hr hl, if_pos h8]

end Sys2Proof.Machine
end

section
/-! SUPPORT. The pressure cross-check: what a head pressure sample and the two events of the check do (O56). -/

namespace Sys2Proof.Machine

/-! ## Events and the survey as judged -/

/-- R195: an event other than SEGMENT_CLOSED is latched at the three ports and does nothing else. -/
theorem raise_eq {e : Event} (h : e ≠ .segmentClosed) (s : State) : raise e s = { s with eu := latchAll e s.eu } := by
  simp [raise, h]

/-- R89, R130, R146: a changed condition judged by SU and then by SLU (log entry 17). -/
theorem judged_eq (s : State) :
    reevaluate (judgeSurvey s) = steered { s with su := judgedSu (judgedSurvey s) s } := by
  rw [judgeSurvey_eq, reevaluate_eq]

/-- R136: only the live deviation is recomputed. -/
theorem liveSu_eq (toe : Nat) (u : Su) :
    liveSu toe u = { u with liveX := (liveSu toe u).liveX, liveY := (liveSu toe u).liveY } := by
  unfold liveSu
  split <;> rfl

theorem judgedSu_eq (st : SurveyState) (s : State) :
    judgedSu st s =
      { s.su with state := st, liveX := (judgedSu st s).liveX, liveY := (judgedSu st s).liveY
                  segment := if s.su.state = .accumulating ∧ st = .holding then markHeld s.su.segment
                             else s.su.segment } :=
  liveSu_eq ..

/-! ## DISAGREE (R31) -/

theorem setDisagree_changed {d : Bool} {s x : State} (h : d ≠ s.dr.disagree)
    (hx : x = { s with dr := { s.dr with disagree := d } }) :
    setDisagree d s = steered { x with su := judgedSu (judgedSurvey x) x } := by
  rw [setDisagree, if_neg h, judged_eq, hx]

theorem raiseDisagree_eq {s x : State} (h : s.dr.disagree = false)
    (hx : x = { s with dr := { s.dr with disagree := true }, eu := latchAll .depthDisagree s.eu }) :
    raiseDisagree s = steered { x with su := judgedSu (judgedSurvey x) x } := by
  rw [raiseDisagree, raise_eq (by decide)]
  exact setDisagree_changed (by simp [h]) hx

/-- R31: the third of a run of counts that saturate. -/
theorem three_le_count255 (n : Nat) : 3 ≤ count255 n ↔ 2 ≤ n := by unfold count255; omega

theorem outOfBand_iff (d : Dr) : outOfBand d = true ↔ d.band < ((d.depth : Int) - d.hp).natAbs := by
  simp only [outOfBand, Bool.or_eq_true, decide_eq_true_eq]
  omega

section
variable {u v x : State}

/-- R31: one more sample out of band; the third in a row sets DISAGREE. -/
theorem compareDepth_out (hout : outOfBand u.dr = true)
    (hv : v = { u with dr := { u.dr with outRun := min 255 (u.dr.outRun + 1), inRun := 0 } }) :
    (u.dr.disagree = true ∨ u.dr.outRun < 2 → compareDepth u = v) ∧
    (u.dr.disagree = false → 2 ≤ u.dr.outRun →
      x = { v with dr := { v.dr with disagree := true }, eu := latchAll .depthDisagree u.eu } →
      compareDepth u = steered { x with su := judgedSu (judgedSurvey x) x }) := by
  have he : compareDepth u = if u.dr.disagree = false ∧ 3 ≤ count255 u.dr.outRun then raiseDisagree v else v := by
    simp [compareDepth, hout, hv, count255]
  have h3 := three_le_count255 u.dr.outRun
  rw [he]
  refine ⟨fun h => if_neg ?_, fun hd h2 hx => ?_⟩
  · rintro ⟨hd, h2⟩
    rcases h with h | h
    · simp [hd] at h
    · omega
  · rw [if_pos ⟨hd, h3.2 h2⟩]
    exact raiseDisagree_eq (by rw [hv]; exact hd) (by rw [hx, hv])

/-- R31: one more sample in band; the third in a row clears DISAGREE. -/
theorem compareDepth_in (hin : outOfBand u.dr = false)
    (hv : v = { u with dr := { u.dr with inRun := min 255 (u.dr.inRun + 1), outRun := 0 } }) :
    (u.dr.disagree = false ∨ u.dr.inRun < 2 → compareDepth u = v) ∧
    (u.dr.disagree = true → 2 ≤ u.dr.inRun → x = { v with dr := { v.dr with disagree := false } } →
      compareDepth u = steered { x with su := judgedSu (judgedSurvey x) x }) := by
  have he : compareDepth u = if u.dr.disagree = true ∧ 3 ≤ count255 u.dr.inRun then setDisagree false v else v := by
    simp [compareDepth, hin, hv, count255]
  have h3 := three_le_count255 u.dr.inRun
  rw [he]
  refine ⟨fun h => if_neg ?_, fun hd h2 hx => ?_⟩
  · rintro ⟨hd, h2⟩
    rcases h with h | h
    · simp [hd] at h
    · omega
  · rw [if_pos ⟨hd, h3.2 h2⟩]
    exact setDisagree_changed (by rw [hv]; simp [hd]) hx

end

/-! ## The sample (R16, R30) -/

theorem clampNat_eq (v : Int) (hi : Nat) : clampNat v hi = (max 0 (min v hi)).toNat := by unfold clampNat; omega

theorem canCompare_iff (s : State) : canCompare s = true ↔ s.dr.crossCheck = .comparing ∧ s.dr.state = .valid := by
  simp [canCompare]

theorem canCompare_eq_false {s : State} (h : s.dr.crossCheck = .noDensity ∨ s.dr.state ≠ .valid) :
    canCompare s = false := by
  rcases h with h | h <;> simp [canCompare, h]

/-- R16, R30: what every sample gives, and whether it is compared. -/
theorem exec_headPressureSample {reading : Int} {s u : State} {p : Nat} (hp : p = (max 0 (min reading 400000)).toNat)
    (hu : u = { s with
      mfe := { s.mfe with headPressure := { value := p, saturated := decide (400000 < reading) } }
      dr := { s.dr with hp := p * 10000000 / (s.dr.rho * 981) + s.dr.offset } }) :
    exec (.headPressureSample reading) s =
      .next (if canCompare s = true ∧ reading ≤ 400000 then compareDepth u else u) := by
  have hr : readingOf reading 400000 = { value := p, saturated := decide (400000 < reading) } := by
    rw [hp, readingOf, clampNat_eq]; rfl
  have he : exec (.headPressureSample reading) s = .next (takeHeadPressure (readingOf reading 400000) s) := rfl
  have hc : compared u (decide (400000 < reading)) = true ↔ canCompare s = true ∧ reading ≤ 400000 := by
    simp [compared, canCompare, hu]
  rw [he, takeHeadPressure, hr, ← if_congr hc rfl rfl, hu]
  rfl

/-- Settles O56: a compared sample counts one in its run and starts the other afresh; the third of a run that changes
DISAGREE is judged. -/
theorem crossCheckJudged : Obligations.CrossCheckJudged := by
  refine ⟨fun reading s u p hp hu => ?_, ?_, ?_, fun s hno => ?_, ?_⟩
  · have he := exec_headPressureSample hp hu
    refine ⟨fun hno => ?_, fun hc hv hread gap hgap => ?_⟩
    · rw [he, if_neg]
      rintro ⟨hcan, hread⟩
      rcases or_assoc.2 hno with hno | hno
      · simp [canCompare_eq_false hno] at hcan
      · omega
    · rw [if_pos ⟨(canCompare_iff s).2 ⟨hc, hv⟩, hread⟩] at he
      have hiff : outOfBand u.dr = true ↔ s.dr.band < gap := by
        rw [outOfBand_iff, hgap, hu]
      subst hu
      refine ⟨fun v hout hvv => ?_, fun v hin hvv => ?_⟩
      · have ho := hiff.2 hout
        exact ⟨fun h => he.trans (congrArg _ ((compareDepth_out (x := v) ho hvv).1 h)),
          fun x hd h2 hx => he.trans (congrArg _ ((compareDepth_out ho hvv).2 hd h2 hx))⟩
      · have hi : outOfBand _ = false := Bool.eq_false_iff.2 (hiff.not.2 (Nat.not_lt.2 hin))
        exact ⟨fun h => he.trans (congrArg _ ((compareDepth_in (x := v) hi hvv).1 h)),
          fun x hd h2 hx => he.trans (congrArg _ ((compareDepth_in hi hvv).2 hd h2 hx))⟩
  · intro s x hc hv hd hx
    refine (congrArg _ (if_pos ?_)).trans (congrArg _ (raiseDisagree_eq hd hx))
    simp [(canCompare_iff s).2 ⟨hc, hv⟩, hd]
  · intro s x hc hv hd hx
    refine (congrArg _ (if_pos ?_)).trans (congrArg _ (setDisagree_changed (by simp [hd]) hx))
    simp [(canCompare_iff s).2 ⟨hc, hv⟩, hd]
  · have hf := canCompare_eq_false hno
    exact ⟨congrArg _ (if_neg (by simp [hf])), congrArg _ (if_neg (by simp [hf]))⟩
  · rintro x st u rfl
    have hs := judgedSu_eq st x
    refine ⟨?_, fun g hg => ?_, fun hg => ?_⟩
    · rw [hs]
    · rw [hs, hg]
      split <;> rfl
    · rw [hs, hg]
      split <;> rfl

end Sys2Proof.Machine
end

section
/-! SUPPORT. A set of the inclinometer: a set that is not counted, the loss of the sensor, and what SU, SLU and the
plates do with a valid set (O53). -/

namespace Sys2Proof.Machine

/-! ## Invalid sets (R7) -/

theorem loseSensor_eq {s u : State} (hu : u = { s with
      mfe := { s.mfe with sensor := .lost, window := [], newestSaturated := false }
      eu := latchAll .sensorLost s.eu }) :
    loseSensor s = steered { u with su := judgedSu (judgedSurvey u) u } := by
  rw [loseSensor, raise_eq (by decide), judged_eq, hu]

/-- R7: one more invalid set; the fifth in a row in OK loses the sensor. -/
theorem takeInvalid_eq (s : State) :
    takeInvalid s =
      let s' : State := { s with mfe := { s.mfe with invalidCount := min 255 (s.mfe.invalidCount + 1) } }
      if s.mfe.sensor = .ok ∧ 4 ≤ s.mfe.invalidCount then loseSensor s' else s' := by
  have h5 : 5 ≤ count255 s.mfe.invalidCount ↔ 4 ≤ s.mfe.invalidCount := by unfold count255; omega
  exact if_congr (and_congr_right' h5) rfl rfl

theorem exec_sampleSlot_invalid {v : Delivery} (h : v = .missing ∨ v = .broken ∨ ∃ x y psi, v = .whole false x y psi)
    (s : State) : exec (.sampleSlot v) s = .next (takeInvalid s) := by
  rcases h with rfl | rfl | ⟨x, y, psi, rfl⟩ <;> rfl

/-! ## Valid sets: the window (R8, R9) -/

theorem joinWindow_eq (v : SampleSet) (w : List SampleSet) :
    joinWindow v w = (if w.length < 8 then w else w.drop (w.length - 7)) ++ [v] := by
  unfold joinWindow
  by_cases h : 8 ≤ w.length
  · rw [if_pos h, if_neg (by omega)]
  · rw [if_neg h, if_pos (by omega)]

/-- R9: with the measurements in order, the sensor is OK with a window of 8 and LOST with any other. -/
theorem takeSet_eq {s : State} (hs : MeasurementsLegal s) (v : SampleSet) (sat : Bool) :
    takeSet v sat s.mfe =
      { s.mfe with window := joinWindow v s.mfe.window, invalidCount := 0, newestSaturated := sat
                   sensor := if (joinWindow v s.mfe.window).length = 8 then .ok else .lost } := by
  obtain ⟨hw, hok, _⟩ := hs
  have hl := length_joinWindow v hw
  unfold takeSet
  dsimp only
  split
  · rfl
  · next hne =>
    have hlost : s.mfe.sensor = .lost := by
      cases h : s.mfe.sensor
      · have := hok.1 h; omega
      · rfl
    rw [hlost]

theorem saturated_eq (v : SampleSet) (x y psi : Int) :
    decide (v ≠ { x := x, y := y, psi := psi }) = decide (v.x ≠ x ∨ v.y ≠ y ∨ v.psi ≠ psi) := by
  cases v
  rw [decide_eq_decide, ne_eq, SampleSet.mk.injEq]
  tauto

/-! ## What SU does with a set (R131, R136, R147) -/

/-- A set handed to SU changes the open segment, the sums of a pass and the live deviation. -/
theorem sampledSu_eq (v : SampleSet) (sat : Bool) (toe : Nat) (u : Su) :
    sampledSu v sat toe u =
      { u with segment := (sampledSu v sat toe u).segment, checkCount := (sampledSu v sat toe u).checkCount
               checkSumX := (sampledSu v sat toe u).checkSumX, checkSumY := (sampledSu v sat toe u).checkSumY
               liveX := (sampledSu v sat toe u).liveX, liveY := (sampledSu v sat toe u).liveY } := by
  unfold sampledSu
  split
  · rw [liveSu_eq]
  · rw [liveSu_eq]
  · split <;> rfl
  all_goals rfl

section
variable {v : SampleSet} {sat : Bool} {toe : Nat} {u : Su}

theorem sampledSu_accumulating (h : u.state = .accumulating) :
    (sampledSu v sat toe u).segment = u.segment.map (addToSegment v sat) := by
  simp only [sampledSu, h]
  rw [liveSu_eq]

theorem sampledSu_checking (h : u.state = .checking) (ht : u.target.isSome = true) (hc : u.checkCount < 65535) :
    sampledSu v sat toe u =
      { u with checkCount := u.checkCount + 1, checkSumX := u.checkSumX + v.x, checkSumY := u.checkSumY + v.y } := by
  simp only [sampledSu, h]
  exact if_pos ⟨ht, hc⟩

theorem sampledSu_idle (ha : u.state ≠ .accumulating) (hc : u.state ≠ .checking) :
    (sampledSu v sat toe u).checkCount = u.checkCount ∧ (sampledSu v sat toe u).segment = u.segment := by
  unfold sampledSu
  split
  case h_1 h => exact absurd h ha
  case h_2 => rw [liveSu_eq]; exact ⟨rfl, rfl⟩
  case h_3 h => exact absurd h hc
  all_goals exact ⟨rfl, rfl⟩

/-- R131: a segment below its cap counts the set. -/
theorem addToSegment_below {g : Segment} (h : g.count < 65535) :
    addToSegment v sat g = { g with
      count := g.count + 1, sumX := g.sumX + v.x, sumY := g.sumY + v.y, sumPsi := g.sumPsi + v.psi
      flags := { g.flags with saturated := g.flags.saturated || sat
                              capped := g.flags.capped || decide (g.count = 65534) } } := by
  have hc : decide (g.count + 1 = 65535) = decide (g.count = 65534) := by simp
  rw [addToSegment, if_pos h, hc]

end

/-- A set handed to SU changes neither its state nor its records. -/
theorem sampledSu_keeps (v : SampleSet) (sat : Bool) (toe : Nat) (u : Su) :
    (sampledSu v sat toe u).state = u.state ∧ (sampledSu v sat toe u).records = u.records := by
  rw [sampledSu_eq]
  exact ⟨rfl, rfl⟩

theorem markHeld_count (g : Option Segment) : (markHeld g).map (·.count) = g.map (·.count) := by
  cases g <;> rfl

/-- What a survey handed on by its conditions shares with the survey before: the records, the target and sums of a pass,
the counts of the segment, and in ACCUMULATING the segment whole. -/
structure JudgedFrom (u b : Su) : Prop where
  records : b.records = u.records
  target : b.target = u.target
  checkCount : b.checkCount = u.checkCount
  checkSumX : b.checkSumX = u.checkSumX
  checkSumY : b.checkSumY = u.checkSumY
  segment : b.state = .accumulating → b.segment = u.segment
  count : b.segment.map (·.count) = u.segment.map (·.count)

theorem JudgedFrom.refl (u : Su) : JudgedFrom u u := ⟨rfl, rfl, rfl, rfl, rfl, fun _ => rfl, rfl⟩

theorem judgedSu_judgedFrom (st : SurveyState) (s : State) : JudgedFrom s.su (judgedSu st s) := by
  rw [judgedSu_eq]
  refine ⟨rfl, rfl, rfl, rfl, rfl, fun h => if_neg ?_, ?_⟩
  · rintro ⟨_, hh⟩
    exact absurd (h.symm.trans hh) (by decide)
  · dsimp only
    split
    · exact markHeld_count _
    · rfl

theorem judgedSu_state (st : SurveyState) (s : State) : (judgedSu st s).state = st := by rw [judgedSu_eq]

/-! ## What SLU does with a set (R93, R97) -/

/-- R88: the inputs of the mode. -/
theorem modeNow_congr {s t : State} (hd : t.dr = s.dr) (hm : t.mfe.sensor = s.mfe.sensor) (hr : t.sru = s.sru)
    (hs : t.slu.settings = s.slu.settings) (hc : t.slu.chosenAuto = s.slu.chosenAuto) : modeNow t = modeNow s := by
  simp [modeNow, hd, hm, hr, hs, hc]

/-- R93: the inputs of the computation. -/
theorem steerResult_congr {s t : State} (hk : t.slu.settings = s.slu.settings) (hw : t.wg = s.wg) (hu : t.su = s.su)
    (hm : t.mfe = s.mfe) : steerResult t = steerResult s := by
  simp [steerResult, hk, hw, hu, hm]

theorem steeredSlu_eq_self {s : State} (h : ModeFollows s) : steeredSlu s = s.slu := if_pos h.symm

theorem steered_eq_self {s : State} (h : ModeFollows s) : steered s = s := by
  simp [steered, steeredSlu_eq_self h, handedPlates_same]

/-- The settings of SLU stand in every mode. -/
theorem steeredSlu_settings (s : State) :
    (steeredSlu s).settings = s.slu.settings ∧ (steeredSlu s).chosenAuto = s.slu.chosenAuto := by
  unfold steeredSlu
  split
  · exact ⟨rfl, rfl⟩
  · cases modeNow s <;> exact ⟨rfl, rfl⟩

/-- R92: AUTO is entered with the plate commands as they stand. -/
theorem steeredSlu_commands {s : State} (h : modeNow s = .auto) : (steeredSlu s).commands = s.slu.commands := by
  unfold steeredSlu
  split
  · rfl
  · rw [h]; rfl

theorem modeNow_steered (s : State) : modeNow (steered s) = modeNow s :=
  modeNow_congr rfl rfl rfl (steeredSlu_settings s).1 (steeredSlu_settings s).2

/-- R97: the computation of a sample in AUTO. -/
theorem steerSample_auto {s : State} {r : SteerResult} (h : s.slu.actual = .auto) (hr : r = steerResult s) :
    steerSample s = { s with
      slu := { s.slu with last := r, commands := r.plates, offeredTrim := r.trim, uy := r.uy, ut := r.ut }
      psv := handedPlates s.slu.commands r.plates s.psv } := by
  simp [steerSample, h, applyResult, commandPlates_eq, hr]

theorem steerSample_manual {s : State} (h : s.slu.actual = .manual) :
    steerSample s = { s with slu := { s.slu with last := steerResult s } } := by
  simp [steerSample, h]

theorem steerSample_still {s : State} (h : s.slu.actual = .off ∨ s.slu.actual = .frozen) : steerSample s = s := by
  rcases h with h | h <;> simp [steerSample, h]

/-- The settings of SLU stand through a sample. -/
theorem steerSample_settings (s : State) :
    (steerSample s).slu.settings = s.slu.settings ∧ (steerSample s).slu.chosenAuto = s.slu.chosenAuto := by
  cases h : s.slu.actual
  case auto => rw [steerSample_auto h rfl]; exact ⟨rfl, rfl⟩
  case manual => rw [steerSample_manual h]; exact ⟨rfl, rfl⟩
  case off => rw [steerSample_still (.inl h)]; exact ⟨rfl, rfl⟩
  case frozen => rw [steerSample_still (.inr h)]; exact ⟨rfl, rfl⟩

theorem modeNow_steerSample (s : State) : modeNow (steerSample s) = modeNow s :=
  modeNow_congr (by simp) (by simp) (by simp) (steerSample_settings s).1 (steerSample_settings s).2

theorem steerResult_steerSample (s : State) : steerResult (steerSample s) = steerResult s :=
  steerResult_congr (steerSample_settings s).1 (by simp) (by simp) (by simp)

/-- R97, R109: a state brought up to date with its mode, and then with a sample: each plate command that differs from
the one last handed is handed once. -/
theorem steerSample_steered_plates {s t : State} (ht : t = steerSample (steered s)) :
    t = { s with slu := t.slu, psv := handedPlates s.slu.commands t.slu.commands s.psv } := by
  have ha : (steered s).slu.actual = modeNow s := steeredSlu_actual s
  cases h : modeNow s
  case auto =>
    have hc := steeredSlu_commands h
    rw [ht, steerSample_auto (ha.trans h) rfl]
    simp [steered, hc, handedPlates_same]
  case manual => rw [ht, steerSample_manual (ha.trans h)]; rfl
  case off => rw [ht, steerSample_still (.inl (ha.trans h))]; rfl
  case frozen => rw [ht, steerSample_still (.inr (ha.trans h))]; rfl

/-- R93, R97: what SLU holds after a sample, in each mode. -/
theorem steerSample_steered_slu {s t : State} {m : Slu} (ht : t = steerSample (steered s)) (hm : m = steeredSlu s) :
    t.slu.actual = modeNow t ∧ m.actual = modeNow t ∧
    (∀ r, m.actual = .auto → r = steerResult t →
      t.slu = { m with last := r, commands := r.plates, offeredTrim := r.trim, uy := r.uy, ut := r.ut }) ∧
    (m.actual = .manual → t.slu = { m with last := steerResult t }) ∧
    (m.actual = .off ∨ m.actual = .frozen → t.slu = m) := by
  have hz : (steered s).slu = m := hm.symm
  have hmode : modeNow t = modeNow s := by rw [ht, modeNow_steerSample, modeNow_steered]
  have hres : steerResult t = steerResult (steered s) := by rw [ht, steerResult_steerSample]
  have hact : m.actual = modeNow t := by rw [hm, steeredSlu_actual, hmode]
  have hauto (r : SteerResult) (h : m.actual = .auto) (hr : r = steerResult t) :
      t.slu = { m with last := r, commands := r.plates, offeredTrim := r.trim, uy := r.uy, ut := r.ut } := by
    rw [ht, steerSample_auto (by rw [hz]; exact h) (hr.trans hres), hz]
  have hmanual (h : m.actual = .manual) : t.slu = { m with last := steerResult t } := by
    rw [hres, ht, steerSample_manual (by rw [hz]; exact h), hz]
  have hstill (h : m.actual = .off ∨ m.actual = .frozen) : t.slu = m := by
    rw [ht, steerSample_still (by rw [hz]; exact h), hz]
  refine ⟨?_, hact, hauto, hmanual, hstill⟩
  rw [← hact]
  cases h : m.actual
  case auto => rw [hauto _ h rfl]; exact h
  case manual => rw [hmanual h]; exact h
  case off => rw [hstill (.inl h)]; exact h
  case frozen => rw [hstill (.inr h)]; exact h

/-! ## A valid set, whole (R8, R9, R11) -/

/-- R9: a valid set changes the sensor only from LOST to OK. -/
theorem sensor_changed {s : State} {v : SampleSet} {w : List SampleSet} (hs : MeasurementsLegal s)
    (hw : w = joinWindow v s.mfe.window) (h : (if w.length = 8 then SensorState.ok else .lost) ≠ s.mfe.sensor) :
    s.mfe.sensor = .lost ∧ w.length = 8 := by
  obtain ⟨hl, hok, _⟩ := hs
  have hlen := length_joinWindow v hl
  rw [← hw] at hlen
  cases hc : s.mfe.sensor with
  | ok => rw [hc, if_pos (by have := hok.1 hc; omega)] at h; exact absurd rfl h
  | lost => exact ⟨rfl, by by_contra h8; rw [hc, if_neg h8] at h; exact h rfl⟩

/-- MFE takes the set; a change of the sensor to OK ends STARTING and is judged by SU, which then counts the set; SLU
brings the mode up to date and computes. -/
theorem takeValid_eq {x y psi : Int} {s u : State} {v : SampleSet} {w : List SampleSet} {sat : Bool}
    (hv : v = clampSet x y psi) (hw : w = joinWindow v s.mfe.window)
    (hsat : sat = decide (v.x ≠ x ∨ v.y ≠ y ∨ v.psi ≠ psi)) (hs : MeasurementsLegal s) (hm : ModeFollows s)
    (hu : u = { s with
      mfe := { s.mfe with window := w, invalidCount := 0, sensor := if w.length = 8 then .ok else .lost
                          newestSaturated := sat }
      pi := if s.mfe.sensor = .lost ∧ w.length = 8 then { s.pi with hub := .ready, startUpLeft := 0 } else s.pi }) :
    takeValid x y psi s = steerSample (steered { u with
      su := sampledSu v sat s.dr.toe (if u.mfe.sensor = s.mfe.sensor then s.su else judgedSu (judgedSurvey u) u) }) := by
  have htake : takeSet v sat s.mfe = u.mfe := by rw [takeSet_eq hs, hu, hw]
  have hdr : u.dr = s.dr := by rw [hu]
  have hsens : u.mfe.sensor = if w.length = 8 then .ok else .lost := by rw [hu]
  have hframe : u = { s with mfe := u.mfe, pi := u.pi } := by rw [hu]
  unfold takeValid
  rw [← hv]
  dsimp only
  rw [saturated_eq, ← hsat, htake]
  by_cases hc : u.mfe.sensor = s.mfe.sensor
  · rw [if_pos hc, if_pos hc, surveySample_eq]
    have hpi : u.pi = s.pi := by
      rw [hu]
      refine if_neg ?_
      rintro ⟨hlost, hl⟩
      rw [hlost, hsens, if_pos hl] at hc
      cases hc
    have hz : u = { s with mfe := u.mfe } := by rw [← hpi]; exact hframe
    have hmode : ModeFollows { u with su := sampledSu v sat s.dr.toe s.su } := by
      refine Eq.trans ?_ (hm.trans (modeNow_congr hdr hc ?_ ?_ ?_).symm) <;> rw [hz]
    rw [steered_eq_self hmode, hz]
  · rw [if_neg hc, if_neg hc]
    have hend : endStarting { s with mfe := u.mfe } = u := by
      have hlost : s.mfe.sensor = .lost ∧ w.length = 8 := sensor_changed hs hw (hsens ▸ hc)
      have hpi : u.pi = { s.pi with hub := .ready, startUpLeft := 0 } := by rw [hu]; exact if_pos hlost
      rw [endStarting, ← hpi]
      exact hframe.symm
    rw [hend, judgeSurvey_eq, surveySample_eq, reevaluate_eq, ← hdr]

theorem exec_sampleSlot_valid (x y psi : Int) (s : State) :
    exec (.sampleSlot (.whole true x y psi)) s = .next (takeValid x y psi s) := rfl

/-! ## SAMPLE_SLOT and SENSOR_LOST -/

/-- Settles O53: an invalid set through `takeInvalid_eq` and `loseSensor_eq`, a valid set through `takeValid_eq` and the
rules of SU and SLU for a set. -/
theorem sensorEvents : Obligations.SensorEvents := by
  refine ⟨fun v s hv => ⟨fun hk => ?_, fun u hok h4 hu => ?_⟩, fun s => ⟨fun hl => ?_, fun u hok hu => ?_⟩, ?_⟩
  · rw [exec_sampleSlot_invalid hv, takeInvalid_eq]
    refine congrArg _ (if_neg ?_)
    rintro ⟨hok, h4⟩
    rcases hk with hk | hk
    · rw [hok] at hk; cases hk
    · omega
  · rw [exec_sampleSlot_invalid hv, takeInvalid_eq]
    exact congrArg _ ((if_pos ⟨hok, h4⟩).trans (loseSensor_eq hu))
  · have hne : s.mfe.sensor ≠ .ok := by rw [hl]; decide
    exact congrArg _ (if_neg hne)
  · exact congrArg _ ((if_pos hok).trans (loseSensor_eq (hu.trans rfl)))
  · intro x y psi s u v w sat m hv hw hsat hs hm hu hmu
    have hslu : u.slu = s.slu := by rw [hu]
    have hpsv : u.psv = s.psv := by rw [hu]
    have hsu : u.su = s.su := by rw [hu]
    have hw' : w = joinWindow v s.mfe.window := by rw [joinWindow_eq]; exact hw
    have ht := takeValid_eq hv hw' hsat hs hm hu
    generalize hb : (if u.mfe.sensor = s.mfe.sensor then s.su else judgedSu (judgedSurvey u) u) = b at ht ⊢
    have hstate : b.state = if u.mfe.sensor = s.mfe.sensor then s.su.state else judgedSurvey u := by
      rw [← hb, apply_ite Su.state, judgedSu_state]
    have hfrom : JudgedFrom s.su b := by
      rw [← hb]
      split
      · exact .refl _
      · exact hsu ▸ judgedSu_judgedFrom _ u
    refine ⟨_, exec_sampleSlot_valid x y psi s, ?_⟩
    generalize takeValid x y psi s = t at ht ⊢
    have htsu : t.su = sampledSu v sat s.dr.toe b := by rw [ht]; simp [steered]
    obtain ⟨hactual, hmode, hauto, hmanual, hstill⟩ := steerSample_steered_slu ht hmu
    obtain ⟨hkstate, hkrecords⟩ := sampledSu_keeps v sat s.dr.toe b
    refine ⟨?_, htsu, hactual, hmode, hauto, hmanual, hstill, ?_, ?_, fun g ha hg hcount => ?_,
      fun hc htarget hcount => ?_, fun ha hc => ?_⟩
    · rw [htsu, ← hslu, ← hpsv]
      exact steerSample_steered_plates ht
    · rw [htsu, hkstate, hstate]
    · rw [htsu, hkrecords, hfrom.records]
    · rw [htsu, hkstate] at ha
      rw [htsu, sampledSu_accumulating ha, hfrom.segment ha, hg, Option.map_some, addToSegment_below hcount]
    · rw [htsu, hkstate] at hc
      rw [htsu, sampledSu_checking hc (by rw [hfrom.target]; exact htarget) (by rw [hfrom.checkCount]; exact hcount),
        hfrom.checkCount, hfrom.checkSumX, hfrom.checkSumY]
      exact ⟨rfl, rfl, rfl⟩
    · rw [htsu, hkstate] at ha hc
      obtain ⟨hcheck, hsegment⟩ := sampledSu_idle (v := v) (sat := sat) (toe := s.dr.toe) ha hc
      rw [htsu, hcheck, hsegment, hfrom.checkCount, hfrom.count]
      exact ⟨rfl, rfl⟩

end Sys2Proof.Machine
end

section
/-! SUPPORT. The gates of the tachometers and of the return flow: what a gate measures, the zero gate of a wheel, and
the changes of the return that a measured flow makes (O54). -/

namespace Sys2Proof.Machine

/-! ## The tach gate (R13, R60) -/

/-- R13: no pulses convert to no speed whatever the scaler, so the result is the clamped scaled count in every case. -/
theorem tachResult_eq (k : Scaler) (pulses : Nat) {cutting : Bool} {v : Int}
    (hv : v = if cutting = true then ((min 65535 pulses : Nat) : Int) * k.n / ((k.r * k.od : Nat) : Int)
              else -(((min 65535 pulses : Nat) : Int) * k.n / ((k.r * k.od : Nat) : Int))) :
    tachResult k pulses cutting =
      { speed := max (-500) (min v 500), pulses := min 65535 pulses, saturated := decide (v < -500 ∨ 500 < v) } := by
  have hzero : (if min 65535 pulses = 0 then 0 else k.convert (min 65535 pulses : Nat)) =
      ((min 65535 pulses : Nat) : Int) * k.n / ((k.r * k.od : Nat) : Int) := by
    split
    · next h => rw [h]; simp
    · rfl
  have hsat : decide (clampInt v (-500) 500 ≠ v) = decide (v < -500 ∨ 500 < v) := by
    rw [decide_eq_decide, clampInt]
    omega
  rw [tachResult, hzero, ← hv, hsat, clampInt]

/-- R48: the present reference is the accumulator divided by 10, its fraction dropped toward 0. -/
theorem present_eq (w : WheelRec) : w.present = w.acc / 10 + if 0 ≤ w.acc ∨ 10 ∣ w.acc then 0 else 1 :=
  Int.tdiv_eq_ediv

theorem twenty_le_present {w : WheelRec} : 20 ≤ w.present ↔ 200 ≤ w.acc := by
  rw [present_eq]
  split <;> omega

/-- R60: the counted pulses are none exactly when the pulses are none. -/
theorem zeroGate_iff {s : State} {w : Wheel} {pulses : Nat} :
    zeroGate s w (min 65535 pulses) = true ↔
      pulses = 0 ∧ 200 ≤ (s.wg.wheels.get w).acc ∧ (s.mfe.gearbox.get w).value < s.wg.zoneStall := by
  have hpulses : min 65535 pulses = 0 ↔ pulses = 0 := by omega
  simp only [zeroGate, Bool.and_eq_true, decide_eq_true_eq, hpulses, twenty_le_present, and_assoc]

section
variable {s : State} {w : Wheel} {pulses : Nat}

theorem judgeGate_still (h : (s.wg.wheels.get w).state ≠ .running) : judgeGate w pulses s = s := if_neg h

theorem judgeGate_cleared (h : (s.wg.wheels.get w).state = .running) (hz : ¬ zeroGate s w pulses = true) :
    judgeGate w pulses s = s.setWheel w { s.wg.wheels.get w with zeroGates := 0 } :=
  (if_pos h).trans (if_neg hz)

/-- R60: a zero gate counts one, and the fourth in a row is the tach fault. -/
theorem judgeGate_counted (h : (s.wg.wheels.get w).state = .running) (hz : zeroGate s w pulses = true) :
    judgeGate w pulses s =
      if (s.wg.wheels.get w).zeroGates < 3 then
        s.setWheel w { s.wg.wheels.get w with zeroGates := (s.wg.wheels.get w).zeroGates + 1 }
      else takeTachFault w s := by
  rw [judgeGate]
  dsimp only
  rw [if_pos h, if_pos hz]
  by_cases h3 : (s.wg.wheels.get w).zeroGates < 3
  · rw [if_pos h3, if_neg (by omega)]
  · rw [if_neg h3, if_pos (by omega)]

theorem exec_tachFault (h : (s.wg.wheels.get w).state = .running) : exec (.tachFault w) s = .next (takeTachFault w s) :=
  congrArg _ (if_pos h)

end

theorem exec_tachGateEnd {w : Wheel} {pulses n : Nat} {cutting : Bool} {s u : State} {v : Int}
    {x : TachResult} (hn : n = min 65535 pulses)
    (hv : v = if cutting = true
              then (n : Int) * s.mfe.tachScaler.n / ((s.mfe.tachScaler.r * s.mfe.tachScaler.od : Nat) : Int)
              else -((n : Int) * s.mfe.tachScaler.n / ((s.mfe.tachScaler.r * s.mfe.tachScaler.od : Nat) : Int)))
    (hx : x = { speed := max (-500) (min v 500), pulses := n, saturated := decide (v < -500 ∨ 500 < v) })
    (hu : u = { s with mfe := { s.mfe with tach := s.mfe.tach.set w x } }) :
    exec (.tachGateEnd w pulses cutting) s = .next (judgeGate w (min 65535 pulses) u) := by
  subst hn
  have he : exec (.tachGateEnd w pulses cutting) s =
      .next (judgeGate w (tachResult s.mfe.tachScaler pulses cutting).pulses
        { s with mfe := { s.mfe with tach := s.mfe.tach.set w (tachResult s.mfe.tachScaler pulses cutting) } }) := rfl
  rw [he, tachResult_eq _ _ hv, ← hx, ← hu, hx]

/-! ## The flow gate (R14, R165, R166) -/

theorem flowReading_eq (k : Scaler) {pulses v : Nat} (hv : v = min 65535 pulses * k.n / (k.r * k.od)) :
    flowReading k pulses = { value := min v 10000, saturated := decide (10000 < v) } := by
  have hc : k.convert (min 65535 pulses : Nat) = (v : Int) := by
    rw [hv, Scaler.convert, floorDiv]
    push_cast
    rfl
  rw [flowReading, hc, readingOf, clampNat, Int.toNat_natCast]
  simp

/-- R160, R162, R171: the return in a new state, with the pump, the feed limit and FALLBACK that follow. -/
theorem changeReturn_eq {st : ReturnState} {s t : State} (ht : t = changeReturn st s) :
    t = { s with rc := { s.rc with state := st, pump := if pumpOn st then s.rc.qEff else 0, feedLimit := feedNow t }
                 wg := { s.wg with fallbackFlag := fallbackNow t }, eu := t.eu } := by
  subst ht
  cases st <;> rfl

theorem exec_flowGateEnd {pulses v : Nat} {s u : State}
    (hv : v = min 65535 pulses * s.mfe.flowScaler.n / (s.mfe.flowScaler.r * s.mfe.flowScaler.od))
    (hu : u = { s with mfe := { s.mfe with qm := { value := min v 10000, saturated := decide (10000 < v) } } }) :
    exec (.flowGateEnd pulses) s = .next (judgeFlow u) := by
  have he : exec (.flowGateEnd pulses) s =
      .next (judgeFlow { s with mfe := { s.mfe with qm := flowReading s.mfe.flowScaler pulses } }) := rfl
  rw [he, flowReading_eq _ hv, ← hu]

section
variable {s : State}

theorem judgeFlow_still (h : s.rc.state ≠ .priming) (h' : s.rc.state ≠ .pumping) : judgeFlow s = s := by
  unfold judgeFlow
  split
  case h_1 hp => exact absurd hp h
  case h_2 hp => exact absurd hp h'
  all_goals rfl

theorem judgeFlow_priming (h : s.rc.state = .priming) :
    judgeFlow s =
      if s.rc.qEff / 2 ≤ s.mfe.qm.value then
        changeReturn .pumping { s with rc := { s.rc with primingTimer := none, starvation := 0 } }
      else s := by
  simp only [judgeFlow, h]

theorem judgeFlow_pumping (h : s.rc.state = .pumping) :
    judgeFlow s =
      if s.mfe.qm.value < 3 * s.rc.qEff / 10 then
        if 4 ≤ s.rc.starvation then starve s else { s with rc := { s.rc with starvation := s.rc.starvation + 1 } }
      else { s with rc := { s.rc with starvation := 0 } } := by
  have h5 : 5 ≤ s.rc.starvation + 1 ↔ 4 ≤ s.rc.starvation := by omega
  simp only [judgeFlow, h, h5]

end

/-! ## TACH_GATE_END and FLOW_GATE_END -/

/-- Settles O54: the three outcomes of `judgeGate` and the cases of `judgeFlow`, on the state that holds the result. -/
theorem gateResults : Obligations.GateResults := by
  refine ⟨fun w pulses cutting s u n v r x hn hr hv hx hu => ?_, fun pulses s u v hv hu => ?_⟩
  · rw [exec_tachGateEnd hn hv hx hu]
    have hwheel : u.wg.wheels.get w = r := by rw [hr, hu]
    have hgate : zeroGate u w (min 65535 pulses) = true ↔
        pulses = 0 ∧ 200 ≤ r.acc ∧ (s.mfe.gearbox.get w).value < s.wg.zoneStall := by
      rw [zeroGate_iff, hwheel, hu]
    refine ⟨fun hne => ?_, fun hrun hno => ?_, fun hrun hp hacc hlow => ?_⟩
    · rw [judgeGate_still (hwheel.symm ▸ hne)]
    · rw [judgeGate_cleared (hwheel.symm ▸ hrun) (by rw [hgate]; omega), hwheel]
    · rw [judgeGate_counted (hwheel.symm ▸ hrun) (hgate.2 ⟨hp, hacc, hlow⟩), exec_tachFault (hwheel.symm ▸ hrun),
        hwheel]
      split <;> rfl
  · rw [exec_flowGateEnd hv hu]
    have hrc : u.rc = s.rc := by rw [hu]
    have hwg : u.wg = s.wg := by rw [hu]
    have heu : u.eu = s.eu := by rw [hu]
    rw [← hrc, ← hwg, ← heu]
    refine ⟨fun h h' => ?_, fun h hlow => ?_, fun h hhigh => ⟨_, rfl, ?_⟩, fun h hhigh => ?_, fun h hlow hfew => ?_,
      fun h hlow hmany => ⟨_, rfl, ?_⟩⟩
    · rw [judgeFlow_still h h']
    · rw [judgeFlow_priming h, if_neg (by omega)]
    · rw [judgeFlow_priming h, if_pos hhigh]
      exact changeReturn_eq rfl
    · rw [judgeFlow_pumping h, if_neg (by omega)]
    · rw [judgeFlow_pumping h, if_pos hlow, if_neg (by omega)]
    · rw [judgeFlow_pumping h, if_pos hlow, if_pos hmany]
      exact changeReturn_eq rfl

end Sys2Proof.Machine
end

section
/-! SUPPORT. What the release of a held queue head leaves to the governor update that caused it: the pressures, the
ceiling, S_eff and the trim as they stand, and a feed limit that still follows its inputs (R171, R185, R186). -/

namespace Sys2Proof.Machine

/-! ## The published feed limit -/

theorem feedPublished_iff {s : State} :
    FeedPublished s ↔ s.rc.qSettle = settlingFlow s.rc.transport ∧ s.rc.feedLimit = feedNow s := Iff.rfl

theorem FeedPublished.congr {s t : State} (h : FeedPublished s) (ha : t.wg.wheels.a.state = s.wg.wheels.a.state)
    (hb : t.wg.wheels.b.state = s.wg.wheels.b.state) (hr : t.rc = s.rc)
    (hl : t.pi.ports.cabin.link = s.pi.ports.cabin.link) (hd : t.dr.state = s.dr.state) : FeedPublished t := by
  obtain ⟨hq, hf⟩ := feedPublished_iff.1 h
  have hn : feedNow t = feedNow s := feedNow_congr ha hb (by rw [hr]) hl hd (by rw [hr])
  exact feedPublished_iff.2 ⟨by rw [hr]; exact hq, by rw [hr, hn]; exact hf⟩

theorem feedPublished_recomputeFeed {s : State} (h : s.rc.qSettle = settlingFlow s.rc.transport) :
    FeedPublished (recomputeFeed s) := ⟨h, rfl⟩

theorem feedPublished_changeReturn {st : ReturnState} {s : State} (h : s.rc.qSettle = settlingFlow s.rc.transport) :
    FeedPublished (changeReturn st s) := by
  have ht := changeReturn_eq (st := st) (s := s) rfl
  generalize changeReturn st s = t at ht
  refine feedPublished_iff.2 ⟨?_, ?_⟩
  · rw [ht]; exact h
  · exact congrArg (·.rc.feedLimit) ht

/-- Handing an unchanged feed limit over again changes nothing. -/
theorem handWheels_published {before : PerWheel WheelRec} {s : State} (h : FeedPublished s) :
    handWheels before s = s := by
  obtain ⟨_, hf⟩ := feedPublished_iff.1 h
  unfold handWheels
  split
  · rfl
  · rw [recomputeFeed_eq, ← hf]

/-- A change of the wheels' states alone, handed to RC. -/
theorem feedPublished_handWheels {s t : State} (h : FeedPublished s) (hr : t.rc = s.rc) (hp : t.pi = s.pi)
    (hd : t.dr = s.dr) : FeedPublished (handWheels s.wg.wheels t) := by
  unfold handWheels
  split
  · next hsame => exact h.congr hsame.1 hsame.2 hr (by rw [hp]) (by rw [hd])
  · exact feedPublished_recomputeFeed (by rw [hr]; exact h.1)

/-! ## What a released request leaves as it was -/

/-- The values of an update that stand, and the feed limit published as before. -/
structure Carries (s t : State) : Prop where
  gearbox : t.mfe.gearbox = s.mfe.gearbox
  ceiling : t.wg.ceiling = s.wg.ceiling
  sEff : t.wg.sEff = s.wg.sEff
  trim : t.wg.trim = s.wg.trim
  feed : FeedPublished s → FeedPublished t

namespace Carries

variable {a s t : State}

theorem refl (s : State) : Carries s s := ⟨rfl, rfl, rfl, rfl, id⟩

theorem step (h : Carries a s) (hm : t.mfe.gearbox = s.mfe.gearbox) (hc : t.wg.ceiling = s.wg.ceiling)
    (he : t.wg.sEff = s.wg.sEff) (ht : t.wg.trim = s.wg.trim) (hp : FeedPublished s → FeedPublished t) :
    Carries a t :=
  ⟨hm.trans h.gearbox, hc.trans h.ceiling, he.trans h.sEff, ht.trans h.trim, fun ha => hp (h.feed ha)⟩

/-- A change of neither the wheels nor the return. -/
theorem frame (h : Carries a s) (hm : t.mfe.gearbox = s.mfe.gearbox) (hw : t.wg = s.wg) (hr : t.rc = s.rc)
    (hl : t.pi.ports.cabin.link = s.pi.ports.cabin.link) (hd : t.dr.state = s.dr.state) : Carries a t :=
  h.step hm (by rw [hw]) (by rw [hw]) (by rw [hw]) fun hp => hp.congr (by rw [hw]) (by rw [hw]) hr hl hd

theorem setPort {p : Port} {q : PortRec} (h : Carries a s) (hq : q.link = (s.port p).link) :
    Carries a (s.setPort p q) := by
  refine h.frame (by simp) (by simp) (by simp) ?_ (by simp)
  cases p
  · exact hq
  · rfl
  · rfl

theorem raise {e : Event} (h : Carries a s) : Carries a (raise e s) :=
  h.frame (by simp) (by simp) (by simp) (by simp) (by simp)

theorem raiseRefused {p : Port} (h : Carries a s) : Carries a (raiseRefused p s) :=
  h.frame (by simp) (by simp) (by simp) (by simp) (by simp)

theorem handZone (h : Carries a s) : Carries a (handZone s) :=
  h.step rfl rfl rfl rfl fun hp => ⟨hp.1, rfl⟩

theorem changeTable {entries : List ZoneEntry} (h : Carries a s) : Carries a (changeTable entries s) := by
  unfold Machine.changeTable
  dsimp only
  (repeat' split)
  · exact handZone (raise (h.frame rfl rfl rfl rfl rfl))
  · exact handZone (h.frame rfl rfl rfl rfl rfl)
  · exact h.frame rfl rfl rfl rfl rfl

theorem reevaluate (h : Carries a s) : Carries a (reevaluate s) :=
  h.frame (by simp) (by simp) (by simp) (by simp) (by simp)

theorem changeReturn {st : ReturnState} (h : Carries a s) : Carries a (changeReturn st s) :=
  h.step (by simp) (by simp) (by simp) (by simp) fun hp => feedPublished_changeReturn hp.1

/-- A change of the return that its state, its settling flow and its feed limit do not see. -/
theorem setRc {r : Rc} (h : Carries a s) (hq : r.qSettle = s.rc.qSettle) (ht : r.transport = s.rc.transport)
    (hs : r.state = s.rc.state) (hf : r.feedLimit = s.rc.feedLimit) (hc : feedComputed r = feedComputed s.rc) :
    Carries a { s with rc := r } := by
  refine h.step rfl rfl rfl rfl fun hp => feedPublished_iff.2 ⟨by rw [hq, ht]; exact hp.1, ?_⟩
  have hn : feedNow { s with rc := r } = feedNow s := feedNow_congr rfl rfl hs rfl rfl hc
  rw [hn]
  exact hf.trans (feedPublished_iff.1 hp).2

theorem testPlant (h : Carries a s) : Carries a (testPlant s) := by
  unfold Machine.testPlant
  split
  · exact changeReturn (h.setRc rfl rfl rfl rfl rfl)
  · exact h.changeReturn

theorem returnOff (h : Carries a s) : Carries a (returnOff s) := changeReturn (h.setRc rfl rfl rfl rfl rfl)

theorem setDemand {qc : Nat} (h : Carries a s) :
    Carries a (rejudgeShort { s with rc := recomputeDemand { s.rc with qc := qc } }) := by
  unfold rejudgeShort
  dsimp only
  split
  · exact raise (h.setRc rfl rfl rfl rfl rfl)
  · exact h.setRc rfl rfl rfl rfl rfl

/-! ## A posted request applied (R185) -/

theorem applied {p : Port} {r : Posted} (h : Carries a s) (ht : applyPosted p r s = .ok t) : Carries a t := by
  cases r
  case setScaler scaler n r od =>
    simp only [applyPosted, applySetScaler] at ht
    (repeat' split at ht) <;> cases ht
    exact h.frame (by dsimp only; unfold replaceScaler; split <;> rfl) rfl rfl rfl rfl
  case setPortTimeout =>
    simp only [applyPosted, applySetPortTimeout] at ht
    (repeat' split at ht) <;> cases ht
    exact h.setPort rfl
  case ackEvents | setEventEnables | setAlertLine | setMarkWidth =>
    simp only [applyPosted, applyAckEvents, applySetEventEnables, applySetAlertLine, applySetMarkWidth] at ht
    (repeat' split at ht) <;> cases ht
    exact h.frame rfl rfl rfl rfl rfl
  case loadZone =>
    simp only [applyPosted, applyLoadZone] at ht
    (repeat' split at ht) <;> cases ht
    exact h.changeTable
  case dropZone =>
    simp only [applyPosted, applyDropZone] at ht
    (repeat' split at ht) <;> cases ht
    · exact h.changeTable
    · exact h
  case clearJam =>
    simp only [applyPosted, applyClearJam] at ht
    split at ht <;> cases ht
    exact h.step (by simp) (by simp [clearJamTaken]) (by simp [clearJamTaken]) (by simp [clearJamTaken])
      fun hp => feedPublished_handWheels hp rfl rfl rfl
  case setSteerMode =>
    simp only [applyPosted, applySetSteerMode] at ht
    split at ht <;> cases ht
    · exact reevaluate (h.frame rfl rfl rfl rfl rfl)
    · exact reevaluate (h.frame rfl rfl rfl rfl rfl)
  case setSteerGains =>
    simp only [applyPosted, applySetSteerGains] at ht
    split at ht <;> cases ht
    split
    · exact h.frame rfl rfl rfl rfl rfl
    · exact reevaluate (h.frame rfl rfl rfl rfl rfl)
  case setPlate =>
    simp only [applyPosted, applySetPlate] at ht
    (repeat' split at ht) <;> cases ht
    · exact h.frame (by simp) (by simp) (by simp) (by simp) (by simp)
    · exact h.frame rfl rfl rfl rfl rfl
  case clearPlate =>
    simp only [applyPosted, applyClearPlate] at ht
    (repeat' split at ht) <;> cases ht
    exact h.frame (by simp) (by simp) (by simp) (by simp) (by simp)
  case setPumpDemand =>
    simp only [applyPosted, applySetPumpDemand] at ht
    (repeat' split at ht) <;> cases ht
    · exact h
    · exact h.setDemand
    · exact h.setDemand.testPlant
    · exact h.setDemand.returnOff
    · exact h.setDemand
  case setTransport =>
    simp only [applyPosted, applySetTransport] at ht
    split at ht <;> cases ht
    exact h.step (by simp) (by simp) (by simp) (by simp)
      fun _ => feedPublished_recomputeFeed (by rw [recomputeFloor_eq]; rfl)
  case setFallbackSpeed =>
    simp only [applyPosted, applySetFallbackSpeed] at ht
    split at ht <;> cases ht
    exact h.step rfl rfl rfl rfl fun hp => hp.congr rfl rfl rfl rfl rfl
  case setDepthCheck | setRecovery =>
    simp only [applyPosted, applySetDepthCheck, applySetRecovery] at ht
    split at ht <;> cases ht
    exact h.frame rfl rfl rfl rfl rfl
  case setWheelDemand | setRamp =>
    cases ht
    exact h.step rfl rfl rfl rfl fun hp => hp.congr rfl rfl rfl rfl rfl
  case setTrimManual => cases ht; exact h.frame rfl rfl rfl rfl rfl

theorem recordRefusal {p : Port} {e : Entry} {code : Status} (h : Carries a s) : Carries a (recordRefusal p e code s) :=
  raiseRefused (h.setPort rfl)

theorem applyEntry {p : Port} {e : Entry} (h : Carries a s) : Carries a (applyEntry p e s) := by
  unfold Machine.applyEntry
  split
  · next ht => exact h.applied ht
  · exact h.recordRefusal

theorem drainList {p : Port} {es : List Entry} (h : Carries a s) : Carries a (drainList p es s) := by
  induction es generalizing s with
  | nil => exact h.setPort rfl
  | cons e es ih =>
    unfold Machine.drainList
    split
    · exact h.setPort rfl
    · exact ih h.applyEntry

theorem releaseHead {concerns : Posted → Bool} (h : Carries a s) : Carries a (releaseHead concerns s) := by
  unfold Machine.releaseHead
  (repeat' split)
  · exact h.drainList
  all_goals exact h

/-! ## The end of a recovery (R81, R82, R84) -/

/-- The record cleared, a held head released, the outcome kept and the event raised. -/
theorem closeRecovery {how : RecoveryEnd} {r : Recovery} {e : Event} (h : Carries a s) :
    Carries a (Machine.raise e (setOutcome how r (releaseRecovery (clearRecord s)))) := by
  have hclear : Carries a (clearRecord s) := h.frame (by simp) (by simp) (by simp) (by simp) (by simp)
  have hrelease : Carries a (releaseRecovery (clearRecord s)) := hclear.releaseHead
  exact raise (hrelease.frame (by simp) (by simp) (by simp) (by simp) (by simp))

/-- A change of the wheels handed to RC. -/
theorem changeWheels {wheels : PerWheel WheelRec} (h : Carries a s) :
    Carries a (recomputeFeed { s with wg := { s.wg with wheels := wheels } }) :=
  h.step rfl rfl rfl rfl fun hp => feedPublished_recomputeFeed hp.1

theorem endRecovered {r : Recovery} (h : Carries a s) : Carries a (endRecovered r s) := closeRecovery h.changeWheels

theorem endJammed {r : Recovery} (h : Carries a s) : Carries a (endJammed r s) := closeRecovery h.changeWheels

theorem failBurst {r : Recovery} (h : Carries a s) : Carries a (failBurst r s) := by
  unfold Machine.failBurst
  split
  · exact h.frame rfl rfl rfl rfl rfl
  · exact h.endJammed

end Carries

end Sys2Proof.Machine
end

section
/-! SUPPORT. The wheels at a governor update: each wheel in each state, the stall that is taken, and a HALTING wheel
come to rest (R53 to R59, R64). -/

namespace Sys2Proof.Machine

/-! ## The references -/

theorem present_eq_zero {w : WheelRec} : w.present = 0 ↔ w.acc.natAbs < 10 := by
  rw [present_eq]
  split <;> omega

theorem twenty_le_present_natAbs {w : WheelRec} : 20 ≤ w.present.natAbs ↔ 200 ≤ w.acc.natAbs := by
  rw [present_eq]
  split <;> omega

theorem moveToward_zero (v : Int) :
    moveToward v 0 haltRamp = if v.natAbs ≤ 100 then 0 else if v < 0 then v + 100 else v - 100 := by
  rw [moveToward, haltRamp, zero_sub, Int.natAbs_neg]
  rfl

theorem readingOf_eq (v : Int) (hi : Nat) :
    readingOf v hi = { value := (max 0 (min v hi)).toNat, saturated := decide ((hi : Int) < v) } := by
  rw [readingOf, clampNat_eq]

/-! ## One wheel (R54 to R58) -/

theorem settleWheel_still {w : WheelRec} (h : w.state ≠ .stopped) (h' : w.state ≠ .running) : settleWheel w = w := by
  unfold settleWheel
  split
  case h_1 hs => exact absurd hs h
  case h_2 hs => exact absurd hs h'
  all_goals rfl

/-- R57: a wheel of the normal law is STOPPED with no target and no reference. -/
theorem settleWheel_atRest {w : WheelRec} (h : w.state = .stopped ∨ w.state = .running)
    (h0 : w.target = 0 ∧ w.acc.natAbs < 10) :
    settleWheel w = { w with state := .stopped, stallTimer := none, zeroGates := 0 } := by
  have hno : ¬ (w.target ≠ 0 ∨ w.present ≠ 0) := by
    rw [ne_eq, ne_eq, present_eq_zero]
    tauto
  unfold settleWheel
  rcases h with h | h <;> simp only [h, if_neg hno]

/-- R57: a wheel of the normal law is RUNNING otherwise; a wheel that becomes so starts its run anew. -/
theorem settleWheel_turning {w : WheelRec} (h : w.state = .stopped ∨ w.state = .running)
    (h0 : ¬ (w.target = 0 ∧ w.acc.natAbs < 10)) :
    settleWheel w = { w with state := .running, stallTimer := if w.state = .running then w.stallTimer else none
                             zeroGates := if w.state = .running then w.zeroGates else 0 } := by
  have hyes : w.target ≠ 0 ∨ w.present ≠ 0 := by
    rw [ne_eq, ne_eq, present_eq_zero]
    tauto
  unfold settleWheel
  rcases h with h | h <;> simp [h, if_pos hyes]
  rw [← h]

theorem settleWheel_normal {w : WheelRec} (h : w.state = .stopped ∨ w.state = .running) :
    ((settleWheel w).state = .stopped ∧ (settleWheel w).stallTimer = none) ∨ (settleWheel w).state = .running := by
  by_cases h0 : w.target = 0 ∧ w.acc.natAbs < 10
  · rw [settleWheel_atRest h h0]
    exact .inl ⟨rfl, rfl⟩
  · rw [settleWheel_turning h h0]
    exact .inr rfl

theorem stallWheel_state (p k : Nat) (v : Int) (w : WheelRec) : (stallWheel p k v w).state = w.state := by
  unfold stallWheel
  split <;> rfl

theorem stallWheel_still {w : WheelRec} {p k : Nat} {v : Int} (h : w.state ≠ .running) : stallWheel p k v w = w :=
  if_neg h

theorem stallCondition_iff {w : WheelRec} {p k : Nat} {v : Int} :
    stallCondition w p k v = true ↔ 200 ≤ w.acc ∧ k ≤ p ∧ v < 10 := by
  simp only [stallCondition, Bool.and_eq_true, decide_eq_true_eq, twenty_le_present, and_assoc]

theorem runTimer_eq (b : Bool) (t : Option Nat) :
    runTimer b t = if b = true then some ((t.map (· + 100)).getD 0) else none := by
  cases t <;> rfl

section
variable {s : State} {id : Wheel} {w : WheelRec}

/-- R53 to R58: a wheel of the normal law. -/
theorem governWheel_normal {p : Nat} {target acc : Int} (hw : w = s.wg.wheels.get id)
    (hp : p = (s.mfe.gearbox.get id).value) (h : w.state = .stopped ∨ w.state = .running)
    (ht : target = normalTarget id s.wg.ceiling s.wg.sEff s.wg.trim)
    (ha : acc = if s.wg.zoneHold ≤ p ∧ w.acc < 10 * target then w.acc else moveToward w.acc (10 * target) s.wg.ramp) :
    governWheel s id =
      (if target = 0 ∧ acc.natAbs < 10
       then { state := .stopped, target := target, acc := acc, torqueHold := decide (s.wg.zoneHold ≤ p)
              stallTimer := none, zeroGates := 0 }
       else { state := .running, target := target, acc := acc, torqueHold := decide (s.wg.zoneHold ≤ p)
              zeroGates := if w.state = .running then w.zeroGates else 0
              stallTimer :=
                if 200 ≤ acc ∧ s.wg.zoneStall ≤ p ∧ (s.mfe.tach.get id).speed < 10
                then some (if w.state = .running then (w.stallTimer.map (· + 100)).getD 0 else 0)
                else none }) := by
  have hmove : moveWheel s.wg p id w =
      { w with target := target, torqueHold := decide (s.wg.zoneHold ≤ p), acc := acc } := by
    have hramp : moveWheel s.wg p id w = rampWheel target s.wg.ramp s.wg.zoneHold p w := by
      unfold moveWheel
      rw [← ht]
      rcases h with h | h <;> simp only [h]
    rw [hramp, ha]
    simp [rampWheel]
  rw [governWheel, ← hw, ← hp, hmove]
  split
  · next h0 =>
    rw [settleWheel_atRest (by exact h) (by exact h0)]
    exact stallWheel_still (by simp)
  · next h0 =>
    rw [settleWheel_turning (by exact h) (by exact h0), stallWheel, if_pos rfl, runTimer_eq]
    simp only [stallCondition_iff]
    rcases h with h | h <;> simp [h]

/-- R55, R63: a wheel on the halt ramp. -/
theorem governWheel_slowing {acc : Int} (hw : w = s.wg.wheels.get id) (h : w.state = .halting ∨ w.state = .standby)
    (ha : acc = if w.acc.natAbs ≤ 100 then 0 else if w.acc < 0 then w.acc + 100 else w.acc - 100) :
    governWheel s id = { w with target := 0, torqueHold := false, acc := acc } := by
  have hmove (p : Nat) : moveWheel s.wg p id w = { w with target := 0, torqueHold := false, acc := acc } := by
    rw [ha, ← moveToward_zero]
    unfold moveWheel
    rcases h with h | h <;> simp only [h]
  rw [governWheel, ← hw, hmove, settleWheel_still, stallWheel_still] <;> rcases h with h | h <;> simp [h]

/-- R54: a wheel that stands, or that SRU moves. -/
theorem governWheel_standing (hw : w = s.wg.wheels.get id)
    (h : w.state = .halted ∨ w.state = .jammed ∨ w.state = .tachFault ∨ w.state = .recovering) :
    governWheel s id = { w with target := 0, torqueHold := false } := by
  have hmove (p : Nat) : moveWheel s.wg p id w = { w with target := 0, torqueHold := false } := by
    unfold moveWheel
    rcases h with h | h | h | h <;> simp only [h]
  rw [governWheel, ← hw, hmove, settleWheel_still, stallWheel_still] <;> rcases h with h | h | h | h <;> simp [h]

/-- R57, R58: a wheel of the normal law ends STOPPED without a stall run, or RUNNING. -/
theorem governWheel_normal_state (h : (s.wg.wheels.get id).state = .stopped ∨ (s.wg.wheels.get id).state = .running) :
    ((governWheel s id).state = .stopped ∧ (governWheel s id).stallTimer = none) ∨
    (governWheel s id).state = .running := by
  have hm : (moveWheel s.wg (s.mfe.gearbox.get id).value id (s.wg.wheels.get id)).state =
      (s.wg.wheels.get id).state := by
    unfold moveWheel
    split <;> rfl
  rw [← hm] at h
  rw [governWheel]
  rcases settleWheel_normal h with ⟨hs, ht⟩ | hr
  · left
    rw [stallWheel_still (by rw [hs]; decide)]
    exact ⟨hs, ht⟩
  · right
    rw [stallWheel_state]
    exact hr

/-- R57: an update moves a wheel between STOPPED and RUNNING, and leaves every other state. -/
theorem governWheel_state (hw : w = s.wg.wheels.get id) :
    ((w.state = .stopped ∨ w.state = .running) ∧
      ((governWheel s id).state = .stopped ∨ (governWheel s id).state = .running)) ∨
    ((w.state ≠ .stopped ∧ w.state ≠ .running) ∧ (governWheel s id).state = w.state ∧
      (governWheel s id).stallTimer = w.stallTimer) := by
  cases h : w.state
  case stopped | running =>
    have hn := governWheel_normal_state (s := s) (id := id) (by simp [← hw, h])
    exact .inl ⟨by simp, hn.imp And.left fun hr => hr⟩
  case halting | standby =>
    right
    rw [governWheel_slowing hw (by simp [h]) rfl]
    simp [h]
  case halted | jammed | tachFault | recovering =>
    right
    rw [governWheel_standing hw (by simp [h])]
    simp [h]

theorem governWheel_halted_iff : (governWheel s id).state = .halted ↔ (s.wg.wheels.get id).state = .halted := by
  rcases governWheel_state (s := s) (id := id) rfl with ⟨h, h'⟩ | ⟨_, h, _⟩
  · rcases h with h | h <;> rcases h' with h' | h' <;> simp [h, h']
  · rw [h]

/-- R58: a stall timer runs only for a wheel of the normal law, in RUNNING. -/
theorem governWheel_stall (hq : (s.wg.wheels.get id).state ≠ .running → (s.wg.wheels.get id).stallTimer = none)
    (h : 1000 ≤ timeOf (governWheel s id).stallTimer) :
    (governWheel s id).state = .running ∧
      ((s.wg.wheels.get id).state = .stopped ∨ (s.wg.wheels.get id).state = .running) := by
  rcases governWheel_state (s := s) (id := id) rfl with ⟨hs, _⟩ | ⟨⟨_, hr⟩, _, ht⟩
  · rcases governWheel_normal_state hs with ⟨_, hn⟩ | hr
    · rw [hn] at h
      simp [timeOf] at h
    · exact ⟨hr, hs⟩
  · rw [ht, hq hr] at h
    simp [timeOf] at h

end

/-! ## A HALTING wheel come to rest (R64) -/

theorem restWheel_eq (w : WheelRec) :
    restWheel w = if w.state = .halting ∧ w.acc.natAbs < 10 then { w with state := .halted, acc := 0 } else w :=
  if_congr (by rw [present_eq_zero]) rfl rfl

theorem restWheel_still {w : WheelRec} (h : w.state ≠ .halting) : restWheel w = w := if_neg fun hh => h hh.1

theorem restWheel_stallTimer (w : WheelRec) : (restWheel w).stallTimer = w.stallTimer := by
  unfold restWheel
  split <;> rfl

/-- The wheels of an update once a HALTING wheel has come to rest. -/
def rested (s : State) : State :=
  { s with wg := { s.wg with wheels := { a := restWheel s.wg.wheels.a, b := restWheel s.wg.wheels.b } } }

theorem rested_wheel (s : State) (id : Wheel) : (rested s).wg.wheels.get id = restWheel (s.wg.wheels.get id) := by
  cases id <;> rfl

theorem restWheels_eq (s : State) : restWheels s = raiseHalted s.wg.wheels (rested s) := rfl

theorem raiseHalted_fresh {before : PerWheel WheelRec} {s : State}
    (h : ∃ w, (s.wg.wheels.get w).state = .halted ∧ (before.get w).state ≠ .halted) :
    raiseHalted before s = raise .halted s := by
  obtain ⟨w, hs, hb⟩ := h
  refine if_pos ?_
  cases w <;> simp [hs, hb]

theorem raiseHalted_same {before : PerWheel WheelRec} {s : State}
    (h : ∀ w, (s.wg.wheels.get w).state = .halted → (before.get w).state = .halted) :
    raiseHalted before s = s := by
  refine if_neg ?_
  have ha := h .a
  have hb := h .b
  simp only [Bool.or_eq_true, Bool.and_eq_true, bne_iff_ne, decide_eq_true_eq]
  tauto

theorem raiseHalted_eu (before : PerWheel WheelRec) (s : State) :
    raiseHalted before s = { s with eu := (raiseHalted before s).eu } := by
  unfold raiseHalted
  dsimp only
  split <;> rfl

theorem rested_still {s : State} (h : ∀ w, (s.wg.wheels.get w).state ≠ .halting) : rested s = s := by
  have ha : restWheel s.wg.wheels.a = s.wg.wheels.a := restWheel_still (h .a)
  have hb : restWheel s.wg.wheels.b = s.wg.wheels.b := restWheel_still (h .b)
  rw [rested, ha, hb]

/-- With no HALTING wheel nothing comes to rest and nothing is raised. -/
theorem restWheels_still {s : State} (h : ∀ w, (s.wg.wheels.get w).state ≠ .halting) : restWheels s = s := by
  rw [restWheels_eq, rested_still h]
  exact raiseHalted_same fun _ => id

/-! ## The stall taken (R59) -/

theorem stallReached_iff {w : WheelRec} : stallReached w = true ↔ w.state = .running ∧ 1000 ≤ timeOf w.stallTimer := by
  simp [stallReached]

theorem takeStalls_none {s : State} (h : ∀ w, timeOf (s.wg.wheels.get w).stallTimer < 1000) : takeStalls s = s := by
  have hno (w : Wheel) : stallReached (s.wg.wheels.get w) = false := by
    have := h w
    simp [stallReached]
    omega
  have ha : stallReached s.wg.wheels.a = false := hno .a
  have hb : stallReached s.wg.wheels.b = false := hno .b
  have hs : stalledWheel s = none := by rw [stalledWheel, ha, hb]
  rw [takeStalls, hs]
  split
  · next h' => cases h'
  · rfl

theorem takeStalls_recovering {s : State} {r : Recovery} (h : s.sru.record = some r) : takeStalls s = s := by
  rw [takeStalls, h]

/-- R59: of two stalls the one with the higher pressure is taken, A's on a tie. -/
theorem stalledWheel_eq {s : State} {w : Wheel} (h : stallReached (s.wg.wheels.get w) = true)
    (ho : stallReached (s.wg.wheels.get (other w)) = false ∨
      (w = .a ∧ s.mfe.gearbox.b.value ≤ s.mfe.gearbox.a.value) ∨
      (w = .b ∧ s.mfe.gearbox.a.value < s.mfe.gearbox.b.value)) : stalledWheel s = some w := by
  cases w with
  | a =>
    have ha : stallReached s.wg.wheels.a = true := h
    cases hb : stallReached s.wg.wheels.b with
    | false => simp only [stalledWheel, ha, hb]
    | true =>
      rcases ho with ho | ⟨_, hp⟩ | ⟨hw, _⟩
      · exact absurd (hb.symm.trans ho) (by decide)
      · simp [stalledWheel, ha, hb, hp]
      · cases hw
  | b =>
    have hb : stallReached s.wg.wheels.b = true := h
    cases ha : stallReached s.wg.wheels.a with
    | false => simp only [stalledWheel, ha, hb]
    | true =>
      rcases ho with ho | ⟨hw, _⟩ | ⟨_, hp⟩
      · exact absurd (ha.symm.trans ho) (by decide)
      · cases hw
      · simp [stalledWheel, ha, hb, hp]

end Sys2Proof.Machine
end

section
/-! SUPPORT. The governor update, whole: the stall it takes, the step of a recovery, and the feed limit handed on
(O55). -/

namespace Sys2Proof.Machine

/-! ## The update before a stall is taken and SRU steps (R54, steps 1 to 5) -/

/-- The pressures sampled, the targets computed and each wheel moved. -/
def governed (pa pb : Int) (s : State) : State := governWheels (retarget (samplePressures pa pb s))

theorem governorStep_eq (pa pb : Int) (s : State) :
    governorStep pa pb s =
      handWheels s.wg.wheels (stepSru s (restWheels (takeStalls (governed pa pb s)))) := rfl

theorem governed_wheel (pa pb : Int) (s : State) (id : Wheel) :
    (governed pa pb s).wg.wheels.get id = governWheel (retarget (samplePressures pa pb s)) id := by
  cases id <;> rfl

section
variable {pa pb : Int} {s : State}

theorem governed_gearbox :
    (governed pa pb s).mfe.gearbox =
      { a := { value := (max 0 (min pa 4500)).toNat, saturated := decide (4500 < pa) }
        b := { value := (max 0 (min pb 4500)).toNat, saturated := decide (4500 < pb) } } := by
  have he : (governed pa pb s).mfe.gearbox = { a := readingOf pa 4500, b := readingOf pb 4500 } := rfl
  rw [he, readingOf_eq, readingOf_eq]
  rfl

/-- R53, step 3: the trim applied in each mode. -/
theorem governed_trim :
    (s.slu.actual = .off ∨ s.slu.actual = .frozen → (governed pa pb s).wg.trim = 0) ∧
    (∀ lim : Int, s.slu.actual = .auto ∨ s.slu.actual = .manual →
      lim = (min s.slu.settings.trimLimit ((governed pa pb s).wg.sEff / 4) : Nat) →
      (governed pa pb s).wg.trim = max (-lim) (min s.slu.offeredTrim lim)) := by
  have he : (governed pa pb s).wg.trim = appliedTrim s (governed pa pb s).wg.sEff := rfl
  rw [he]
  refine ⟨fun h => ?_, fun lim h hl => ?_⟩
  · unfold appliedTrim
    rcases h with h | h <;> simp only [h]
  · unfold appliedTrim
    rcases h with h | h <;> (simp only [h]; rw [hl]; rfl)

theorem governed_record : (governed pa pb s).sru.record = s.sru.record := rfl

/-- R57: the states that the update leaves, before a stall is taken. -/
theorem governed_state (id : Wheel) :
    (((s.wg.wheels.get id).state = .stopped ∨ (s.wg.wheels.get id).state = .running) ∧
      (((governed pa pb s).wg.wheels.get id).state = .stopped ∨
       ((governed pa pb s).wg.wheels.get id).state = .running)) ∨
    (((s.wg.wheels.get id).state ≠ .stopped ∧ (s.wg.wheels.get id).state ≠ .running) ∧
      ((governed pa pb s).wg.wheels.get id).state = (s.wg.wheels.get id).state ∧
      ((governed pa pb s).wg.wheels.get id).stallTimer = (s.wg.wheels.get id).stallTimer) := by
  rw [governed_wheel]
  exact governWheel_state (s := retarget (samplePressures pa pb s)) rfl

theorem governed_halted_iff (id : Wheel) :
    ((governed pa pb s).wg.wheels.get id).state = .halted ↔ (s.wg.wheels.get id).state = .halted := by
  rw [governed_wheel]
  exact governWheel_halted_iff

end

/-! ## What SRU and the queue leave of the update -/

namespace Carries

variable {a s : State}

theorem setWheel {w : Wheel} {v : WheelRec} (h : Carries a s) (hv : v.state = (s.wg.wheels.get w).state) :
    Carries a (s.setWheel w v) :=
  h.step rfl rfl rfl rfl fun hp => hp.congr (by cases w; exact hv; rfl) (by cases w; rfl; exact hv) rfl rfl rfl

theorem driveRecovery {r : Recovery} (h : Carries a s) : Carries a (driveRecovery r s) := by
  have hset {w : Wheel} {n : Int} {r' : Option Recovery} :
      Carries a ((s.setWheel w { s.wg.wheels.get w with acc := n }).setRecord r') := by
    have hw : Carries a (s.setWheel w { s.wg.wheels.get w with acc := n }) := h.setWheel rfl
    exact hw.frame rfl rfl rfl rfl rfl
  unfold Machine.driveRecovery
  dsimp only
  (repeat' split)
  case isTrue.isTrue | isFalse.isTrue => exact failBurst hset
  all_goals exact hset

theorem stepRecovery {r : Recovery} (h : Carries a s) : Carries a (stepRecovery r s) := by
  unfold Machine.stepRecovery
  dsimp only
  (repeat' split)
  · exact h.driveRecovery
  · exact h.endRecovered
  · exact h.driveRecovery

end Carries

/-- The pressures, the ceiling, S_eff and the trim stand. -/
structure SameValues (s t : State) : Prop where
  gearbox : t.mfe.gearbox = s.mfe.gearbox
  ceiling : t.wg.ceiling = s.wg.ceiling
  sEff : t.wg.sEff = s.wg.sEff
  trim : t.wg.trim = s.wg.trim

theorem SameValues.trans {s t u : State} (h : SameValues s t) (h' : SameValues t u) : SameValues s u :=
  ⟨h'.gearbox.trans h.gearbox, h'.ceiling.trans h.ceiling, h'.sEff.trans h.sEff, h'.trim.trans h.trim⟩

theorem Carries.same {s t : State} (h : Carries s t) : SameValues s t := ⟨h.gearbox, h.ceiling, h.sEff, h.trim⟩

theorem takeStalls_same (s : State) : SameValues s (takeStalls s) := by
  unfold takeStalls
  split
  · exact ⟨by simp, by simp [takeStall, State.setWheel], by simp [takeStall, State.setWheel],
      by simp [takeStall, State.setWheel]⟩
  · exact (Carries.refl s).same

theorem restWheels_same (s : State) : SameValues s (restWheels s) := by
  rw [restWheels_eq]
  exact ⟨by simp [rested], by simp [rested], by simp [rested], by simp [rested]⟩

theorem stepSru_same (s u : State) : SameValues u (stepSru s u) := by
  unfold stepSru
  (repeat' split)
  · exact (Carries.refl u).same
  · exact (Carries.refl u).stepRecovery.same
  · exact (Carries.refl u).same

theorem handWheels_same (before : PerWheel WheelRec) (s : State) : SameValues s (handWheels before s) :=
  ⟨by simp, by simp, by simp, by simp⟩

theorem governorStep_same (pa pb : Int) (s : State) : SameValues (governed pa pb s) (governorStep pa pb s) :=
  (takeStalls_same _).trans ((restWheels_same _).trans ((stepSru_same s _).trans (handWheels_same _ _)))

/-! ## The update without a recovery (R54, R59, R64) -/

theorem stepSru_none {s u : State} (h : s.sru.record = none) : stepSru s u = u := by
  rw [stepSru, h]

section
variable {pa pb : Int} {s : State}

/-- No stall run at its time: the wheels that come to rest are HALTED, and a change of state is handed to RC. -/
theorem governorStep_quiet (hr : s.sru.record = none)
    (h : ∀ w, timeOf ((rested (governed pa pb s)).wg.wheels.get w).stallTimer < 1000) :
    governorStep pa pb s =
      handWheels s.wg.wheels (raiseHalted (governed pa pb s).wg.wheels (rested (governed pa pb s))) := by
  have hn : takeStalls (governed pa pb s) = governed pa pb s := takeStalls_none fun w => by
    have := h w
    rwa [rested_wheel, restWheel_stallTimer] at this
  rw [governorStep_eq, stepSru_none hr, hn, restWheels_eq]

theorem handWheels_feed (before : PerWheel WheelRec) (s : State) :
    handWheels before s = { s with rc := { s.rc with feedLimit := (handWheels before s).rc.feedLimit } } := by
  unfold handWheels
  split <;> rfl

theorem handWheels_unchanged {before : PerWheel WheelRec} {s : State}
    (h : ∀ w, (s.wg.wheels.get w).state = (before.get w).state) : handWheels before s = s := if_pos ⟨h .a, h .b⟩

theorem handWheels_changed {before : PerWheel WheelRec} {s : State}
    (h : ∃ w, (s.wg.wheels.get w).state ≠ (before.get w).state) : handWheels before s = recomputeFeed s := by
  obtain ⟨w, hw⟩ := h
  refine if_neg ?_
  rintro ⟨ha, hb⟩
  cases w
  · exact hw ha
  · exact hw hb

theorem handWheels_recomputeFeed (before : PerWheel WheelRec) (s : State) :
    handWheels before (recomputeFeed s) = recomputeFeed s := by
  unfold handWheels
  split <;> rfl

theorem wheel_or_other (w v : Wheel) : v = w ∨ v = other w := by
  cases w <;> cases v <;> simp [other]

/-- R59: the wheel that stalled is RECOVERING and the other STANDBY, and the change is handed to RC. -/
theorem takeStall_eq {w : Wheel} (h : (s.wg.wheels.get w).state = .running) :
    ∃ u, takeStall w s = recomputeFeed u ∧
      (u.wg.wheels.get w).state = .recovering ∧ (u.wg.wheels.get (other w)).state = .standby := by
  unfold takeStall
  dsimp only
  refine ⟨_, if_neg ?_, ?_⟩
  · cases w
    · rintro ⟨ha, _⟩
      have ha' : WheelState.recovering = s.wg.wheels.a.state := by simpa [PerWheel.set, other, quietWheel] using ha
      exact absurd (ha'.trans h) (by decide)
    · rintro ⟨_, hb⟩
      have hb' : WheelState.recovering = s.wg.wheels.b.state := by simpa [PerWheel.set, other, quietWheel] using hb
      exact absurd (hb'.trans h) (by decide)
  · cases w <;> simp [quietWheel] <;> rfl

theorem legalPair_normal (hpair : legalPair s.wg.wheels.a.state s.wg.wheels.b.state = true) {w : Wheel}
    (h : (s.wg.wheels.get w).state = .stopped ∨ (s.wg.wheels.get w).state = .running) (v : Wheel) :
    (s.wg.wheels.get v).state = .stopped ∨ (s.wg.wheels.get v).state = .running := by
  have hboth : (s.wg.wheels.a.state = .stopped ∨ s.wg.wheels.a.state = .running) ↔
      (s.wg.wheels.b.state = .stopped ∨ s.wg.wheels.b.state = .running) := by
    revert hpair
    generalize s.wg.wheels.a.state = a
    generalize s.wg.wheels.b.state = b
    cases a <;> cases b <;> decide
  cases w <;> cases v
  · exact h
  · exact hboth.1 h
  · exact hboth.2 h
  · exact h

theorem isSome_of_timeOf {t : Option Nat} (h : 0 < timeOf t) : t.isSome = true := by
  cases t with
  | none => exact absurd h (by decide)
  | some _ => rfl

/-- R59: a stall run at its time is taken at the update, from the wheels as it left them. -/
theorem governorStep_stall (hs : WheelsLegal s) (hr : s.sru.record = none) {w : Wheel}
    (h : 1000 ≤ timeOf ((rested (governed pa pb s)).wg.wheels.get w).stallTimer)
    (ho : timeOf ((rested (governed pa pb s)).wg.wheels.get (other w)).stallTimer < 1000 ∨
      (w = .a ∧ (governed pa pb s).mfe.gearbox.b.value ≤ (governed pa pb s).mfe.gearbox.a.value) ∨
      (w = .b ∧ (governed pa pb s).mfe.gearbox.a.value < (governed pa pb s).mfe.gearbox.b.value)) :
    exec (.governorUpdate pa pb) s = exec (.stallTimerExpiry w) (rested (governed pa pb s)) := by
  obtain ⟨hpair, hqa, hqb, _⟩ := hs
  have hquiet (v : Wheel) : (s.wg.wheels.get v).state ≠ .running → (s.wg.wheels.get v).stallTimer = none := fun hn => by
    cases v
    · exact (hqa.2.1 hn).1
    · exact (hqb.2.1 hn).1
  have hreached (v : Wheel) (hv : 1000 ≤ timeOf ((rested (governed pa pb s)).wg.wheels.get v).stallTimer) :
      ((governed pa pb s).wg.wheels.get v).state = .running ∧
        ((s.wg.wheels.get v).state = .stopped ∨ (s.wg.wheels.get v).state = .running) := by
    rw [rested_wheel, restWheel_stallTimer, governed_wheel] at hv
    rw [governed_wheel]
    exact governWheel_stall (s := retarget (samplePressures pa pb s)) (hquiet v) hv
  obtain ⟨hrun, hnormal⟩ := hreached w h
  have hmoving (v : Wheel) : ((governed pa pb s).wg.wheels.get v).state ≠ .halting := by
    rcases governed_state (pa := pa) (pb := pb) (s := s) v with ⟨_, h' | h'⟩ | ⟨⟨hns, hnr⟩, _⟩
    · simp [h']
    · simp [h']
    · exact absurd (legalPair_normal hpair hnormal v) (by tauto)
  rw [rested_still hmoving] at h ho ⊢
  have htake : takeStalls (governed pa pb s) = takeStall w (governed pa pb s) := by
    rw [takeStalls, governed_record, hr, stalledWheel_eq (stallReached_iff.2 ⟨hrun, h⟩) (ho.imp_left fun hlow => ?_)]
    rw [← Bool.not_eq_true, stallReached_iff]
    omega
  obtain ⟨u, hu, hrec, hstand⟩ := takeStall_eq hrun
  have hrest : restWheels (recomputeFeed u) = recomputeFeed u := restWheels_still fun v => by
    have hw : (recomputeFeed u).wg = u.wg := rfl
    rcases wheel_or_other w v with rfl | rfl
    · rw [hw, hrec]; decide
    · rw [hw, hstand]; decide
  have hstep : governorStep pa pb s = takeStall w (governed pa pb s) := by
    rw [governorStep_eq, stepSru_none hr, htake, hu, hrest, handWheels_recomputeFeed]
  have hsome : ((governed pa pb s).wg.wheels.get w).stallTimer.isSome = true := isSome_of_timeOf (by omega)
  have hexec : exec (.governorUpdate pa pb) s = .next (governorStep pa pb s) := rfl
  rw [hexec, hstep]
  exact (congrArg _ (if_pos ⟨hrun, hsome, by rw [governed_record, hr]; rfl⟩)).symm

/-- What an update that takes no stall hands on: the feed limit on a change of state, HALTED for a wheel come to
rest. -/
theorem governorStep_quiet_clauses {t x : State} (hr : s.sru.record = none) (hx : x = rested (governed pa pb s))
    (ht : t = governorStep pa pb s) (h : ∀ w, timeOf (x.wg.wheels.get w).stallTimer < 1000) :
    t = { x with rc := { s.rc with feedLimit := t.rc.feedLimit }, eu := t.eu } ∧
    ((∀ w, (t.wg.wheels.get w).state = (s.wg.wheels.get w).state) → t.rc.feedLimit = s.rc.feedLimit) ∧
    ((∃ w, (t.wg.wheels.get w).state ≠ (s.wg.wheels.get w).state) → t.rc.feedLimit = feedNow t) ∧
    ((∃ w, (t.wg.wheels.get w).state = .halted ∧ (s.wg.wheels.get w).state ≠ .halted) →
      t.eu = latchAll .halted s.eu) ∧
    ((∀ w, (t.wg.wheels.get w).state = .halted → (s.wg.wheels.get w).state = .halted) → t.eu = s.eu) := by
  have hq : t = handWheels s.wg.wheels (raiseHalted (governed pa pb s).wg.wheels x) := by
    rw [ht, hx]
    exact governorStep_quiet hr (hx ▸ h)
  have hwg : t.wg = x.wg := by rw [hq]; simp
  have heu : t.eu = (raiseHalted (governed pa pb s).wg.wheels x).eu := by rw [hq]; simp
  have hxrc : x.rc = s.rc := by rw [hx]; rfl
  have hxeu : x.eu = s.eu := by rw [hx]; rfl
  generalize hu : raiseHalted (governed pa pb s).wg.wheels x = u at hq heu
  have hux : u = { x with eu := u.eu } := by rw [← hu]; exact raiseHalted_eu ..
  have hurc : u.rc = s.rc := by rw [hux, ← hxrc]
  have huwg : u.wg = t.wg := by rw [hux, hwg]
  have hfeed : t = { x with rc := { s.rc with feedLimit := t.rc.feedLimit }, eu := t.eu } := by
    have ht' : t = { u with rc := { u.rc with feedLimit := t.rc.feedLimit } } := by rw [hq]; exact handWheels_feed ..
    refine ht'.trans ?_
    rw [heu, ← hxrc, hux]
  refine ⟨hfeed, fun hsame => ?_, fun hdiff => ?_, fun ⟨w, hw, hw'⟩ => ?_, fun hsame => ?_⟩
  · rw [hq, handWheels_unchanged (by rw [huwg]; exact hsame), hurc]
  · rw [hq, handWheels_changed (by rw [huwg]; exact hdiff)]
    rfl
  · rw [heu, ← hu, raiseHalted_fresh ⟨w, by rwa [← hwg], by rwa [ne_eq, governed_halted_iff]⟩,
      raise_eq (by decide), hxeu]
  · rw [heu, ← hu, raiseHalted_same fun w hw => (governed_halted_iff w).2 (hsame w (by rwa [hwg])), hxeu]

end

/-! ## The update with a recovery (R75, R80 to R82) -/

theorem arrive_eq (r : Recovery) :
    arrive r =
      if r.phase = .stopping then { r with phase := .reversing, phaseTimer := none, burstTimer := none }
      else { r with phaseTimer := some (r.phaseTimer.getD 0) } := by
  obtain ⟨w, p, n, t, u⟩ := r
  cases p <;> cases t <;> rfl

theorem phaseStep_eq (ramp : Nat) (p : Phase) : phaseStep ramp p = if p = .probe then ramp else 100 := by
  cases p <;> rfl

theorem burstStallCondition_eq (p : Phase) (w : WheelRec) (pressure stall : Nat) (v : Int) :
    burstStallCondition p w pressure stall v =
      decide (200 ≤ w.acc.natAbs ∧ stall ≤ pressure ∧ ((p = .reversing ∧ v.natAbs < 10) ∨ (p = .probe ∧ v < 10))) := by
  have hslow : slowInPhase p v = decide ((p = .reversing ∧ v.natAbs < 10) ∨ (p = .probe ∧ v < 10)) := by
    cases p <;> simp [slowInPhase]
  rw [burstStallCondition, hslow, decide_eq_decide.2 twenty_le_present_natAbs, Bool.decide_and, Bool.decide_and,
    Bool.and_assoc]

/-- R75, steps 2 to 4: the wheel moved, its arrival, and the burst stall run. -/
theorem driveRecovery_eq {r r3 r4 : Recovery} {s z : State} {id : Wheel} {w w' : WheelRec} {target v : Int}
    {stride p : Nat} {holds : Bool} (hid : r.wheel = id) (hw : w = s.wg.wheels.get id)
    (hp : p = (s.mfe.gearbox.get id).value) (hv : v = (s.mfe.tach.get id).speed)
    (ht : target = phaseTarget s.sru.settings s.wg.ceiling r.phase)
    (hstride : stride = if r.phase = .probe then s.wg.ramp else 100)
    (hw' : w' = { w with acc := if (10 * target - w.acc).natAbs ≤ stride then 10 * target
                                else if w.acc < 10 * target then w.acc + stride else w.acc - stride })
    (h3 : r3 = if w'.acc ≠ 10 * target then r
               else if r.phase = .stopping then { r with phase := .reversing, phaseTimer := none, burstTimer := none }
               else { r with phaseTimer := some (r.phaseTimer.getD 0) })
    (hholds : holds = decide (200 ≤ w'.acc.natAbs ∧ s.wg.zoneStall ≤ p ∧
      ((r3.phase = .reversing ∧ v.natAbs < 10) ∨ (r3.phase = .probe ∧ v < 10))))
    (h4 : r4 = { r3 with burstTimer := if holds then some ((r3.burstTimer.map (· + 100)).getD 0) else none })
    (hz : z = { s with wg := { s.wg with wheels := s.wg.wheels.set id w' }, sru := { s.sru with record := some r4 } }) :
    driveRecovery r s = if 1000 ≤ timeOf r4.burstTimer then failBurst r4 z else z := by
  have hacc : moveToward w.acc (10 * target) (phaseStep s.wg.ramp r.phase) = w'.acc := by
    rw [phaseStep_eq, ← hstride, hw']
    rfl
  have hwheel : { w with acc := w'.acc } = w' := by rw [hw']
  have harrive : (if w'.acc = 10 * target then arrive r else r) = r3 := by
    rw [h3, arrive_eq]
    split <;> simp_all
  have hburst : burstStallCondition r3.phase w' p s.wg.zoneStall v = holds := by rw [burstStallCondition_eq, hholds]
  have htimer : runTimer holds r3.burstTimer = r4.burstTimer := by rw [h4, runTimer_eq]
  have hr4 : { r3 with burstTimer := r4.burstTimer } = r4 := by rw [h4]
  have hz' : (s.setWheel id w').setRecord (some r4) = z := by rw [hz]; rfl
  unfold driveRecovery
  dsimp only
  rw [hid, ← hw, ← hp, ← hv, ← ht, hacc, harrive, hwheel, hburst, htimer]
  simp only [hr4, hz']

section
variable {pa pb : Int} {s : State} {r : Recovery}

/-- R47, R73: while a recovery exists one wheel is RECOVERING and the other STANDBY. -/
theorem recovering_states (hs : WheelsLegal s) (hr : s.sru.record = some r) :
    (s.wg.wheels.get r.wheel).state = .recovering ∧ (s.wg.wheels.get (other r.wheel)).state = .standby := by
  obtain ⟨hpair, _, _, _, hmatch⟩ := hs
  have hw : (s.wg.wheels.get r.wheel).state = .recovering := hmatch r hr
  refine ⟨hw, ?_⟩
  revert hpair hw
  cases r.wheel <;> intro hpair hw
  · have ha : s.wg.wheels.a.state = .recovering := hw
    rw [ha] at hpair
    revert hpair
    change _ → s.wg.wheels.b.state = .standby
    cases s.wg.wheels.b.state <;> decide
  · have hb : s.wg.wheels.b.state = .recovering := hw
    rw [hb] at hpair
    revert hpair
    change _ → s.wg.wheels.a.state = .standby
    cases s.wg.wheels.a.state <;> decide

theorem governed_states_recovering (hs : WheelsLegal s) (hr : s.sru.record = some r) (w : Wheel) :
    ((governed pa pb s).wg.wheels.get w).state = (s.wg.wheels.get w).state ∧
      (s.wg.wheels.get w).state ≠ .halting := by
  obtain ⟨hrec, hstand⟩ := recovering_states hs hr
  have hw : (s.wg.wheels.get w).state = .recovering ∨ (s.wg.wheels.get w).state = .standby := by
    rcases wheel_or_other r.wheel w with rfl | rfl
    · exact .inl hrec
    · exact .inr hstand
  rcases governed_state (pa := pa) (pb := pb) (s := s) w with ⟨hn, _⟩ | ⟨_, hk, _⟩
  · rcases hw with h | h <;> rw [h] at hn <;> simp at hn
  · refine ⟨hk, ?_⟩
    rcases hw with h | h <;> rw [h] <;> decide

theorem rested_recovering (hs : WheelsLegal s) (hr : s.sru.record = some r) :
    rested (governed pa pb s) = governed pa pb s := rested_still fun w => by
  obtain ⟨hk, hh⟩ := governed_states_recovering (pa := pa) (pb := pb) hs hr w
  rwa [hk]

/-- R54: with a recovery, an update is the step of SRU on the wheels it moved. -/
theorem governorStep_recovering (hs : WheelsLegal s) (hr : s.sru.record = some r) :
    governorStep pa pb s = handWheels s.wg.wheels (stepRecovery r (governed pa pb s)) := by
  have hrest : restWheels (governed pa pb s) = governed pa pb s := restWheels_still fun w => by
    obtain ⟨hk, hh⟩ := governed_states_recovering (pa := pa) (pb := pb) hs hr w
    rwa [hk]
  obtain ⟨hrec, _⟩ := recovering_states hs hr
  rw [governorStep_eq, takeStalls_recovering (governed_record.trans hr), hrest, stepSru, hr]
  dsimp only
  rw [if_pos hrec]

/-- R171: the feed limit that SRU leaves is the one that follows, so that handing it on changes nothing. -/
theorem governorStep_published (hs : WheelsLegal s) (hr : s.sru.record = some r) (hp : FeedPublished s) :
    governorStep pa pb s = stepRecovery r (governed pa pb s) := by
  have hstate (w : Wheel) := (governed_states_recovering (pa := pa) (pb := pb) hs hr w).1
  have hg : FeedPublished (governed pa pb s) := hp.congr (hstate .a) (hstate .b) rfl rfl rfl
  rw [governorStep_recovering hs hr, handWheels_published ((Carries.refl _).stepRecovery.feed hg)]

end

/-- R75, step 1: PROBE served ends the recovery. -/
theorem stepRecovery_probe {s : State} {r : Recovery} (h : phaseServed s.sru.settings (advanceTimer r) = true)
    (hp : r.phase = .probe) : stepRecovery r s = endRecovered r s := by
  unfold stepRecovery
  dsimp only
  have hn : nextPhase (advanceTimer r).phase = none := by
    have : (advanceTimer r).phase = r.phase := rfl
    rw [this, hp]
    rfl
  rw [if_pos h, hn]
  rfl

/-- R75, step 1: another phase served gives the next; the wheel in recovery is then moved. -/
theorem stepRecovery_drive {s : State} {r r1 r2 : Recovery} {served : Bool} (h1 : r1 = advanceTimer r)
    (h : served = phaseServed s.sru.settings r1) (hp : ¬ (served = true ∧ r.phase = .probe))
    (h2 : r2 = if served then { r with phase := if r.phase = .reversing then .rest else .probe, phaseTimer := none
                                       burstTimer := none } else r1) :
    stepRecovery r s = driveRecovery r2 s := by
  unfold stepRecovery
  dsimp only
  rw [← h1, ← h, h2]
  cases served with
  | false => rfl
  | true =>
    obtain ⟨w, phase, n, t, b⟩ := r
    subst h1
    cases phase with
    | stopping => cases t <;> cases h
    | reversing | rest => rfl
    | probe => exact absurd ⟨rfl, rfl⟩ hp

theorem exec_phaseTimerExpiry_probe {s : State} {r : Recovery} (hr : s.sru.record = some r)
    (ht : r.phaseTimer.isSome = true) (hp : r.phase = .probe) :
    exec .phaseTimerExpiry s = .next (endRecovered r s) := by
  have he : exec .phaseTimerExpiry s = execPhaseTimerExpiry s := rfl
  rw [he, execPhaseTimerExpiry, hr]
  dsimp only
  rw [if_pos ht, hp]
  rfl

theorem exec_burstStallTimerExpiry {s : State} {r : Recovery} (hr : s.sru.record = some r)
    (ht : r.burstTimer.isSome = true) : exec .burstStallTimerExpiry s = .next (failBurst r s) := by
  have he : exec .burstStallTimerExpiry s = execBurstStallTimerExpiry s := rfl
  rw [he, execBurstStallTimerExpiry, hr]
  dsimp only
  rw [if_pos ht]

/-- Settles O55: the wheels by `governWheel_normal`, `governWheel_slowing` and `governWheel_standing`, an update without
a recovery by `governorStep_quiet_clauses` and `governorStep_stall`, and one with a recovery by `stepRecovery_probe`,
`stepRecovery_drive` and `driveRecovery_eq`. -/
theorem governorUpdate : Obligations.GovernorUpdate := by
  intro pa pb s
  obtain ⟨hgear, hceil, heff, htrim⟩ := governorStep_same pa pb s
  refine ⟨governorStep pa pb s, rested (governed pa pb s), rfl, ?_⟩
  rw [hgear, hceil, heff, htrim]
  refine ⟨rfl, governed_gearbox, rfl, ?_, rfl, governed_trim.1, governed_trim.2, fun id w p hw hp => ⟨?_, ?_, ?_⟩,
    ?_, ?_⟩
  · have hf : (rested (governed pa pb s)).wg.fallbackFlag = fallbackNow s := rfl
    rw [hf, fallbackNow]
    cases s.rc.state <;> rfl
  · intro target acc hn ht ha
    have hstate : (governWheel (retarget (samplePressures pa pb s)) id).state ≠ .halting := by
      rcases governWheel_normal_state (s := retarget (samplePressures pa pb s)) (id := id) (hw ▸ hn) with ⟨h, _⟩ | h <;>
        rw [h] <;> decide
    rw [rested_wheel, governed_wheel, restWheel_still hstate]
    exact governWheel_normal (s := retarget (samplePressures pa pb s)) hw hp hn (ht.trans (by cases id <;> rfl)) ha
  · intro acc hn ha
    rw [rested_wheel, governed_wheel, governWheel_slowing (s := retarget (samplePressures pa pb s)) hw hn ha,
      restWheel_eq]
  · intro hn
    rw [rested_wheel, governed_wheel, governWheel_standing (s := retarget (samplePressures pa pb s)) hw hn]
    exact restWheel_still (by rcases hn with h | h | h | h <;> simp [h])
  · exact fun hs hr => ⟨governorStep_quiet_clauses hr rfl rfl, fun w => governorStep_stall hs hr⟩
  · intro r r1 served hs hr h1 hserved
    have hphase : served = phaseServed s.sru.settings r1 := by
      rw [hserved, h1]
      obtain ⟨w, phase, n, t, b⟩ := r
      cases phase <;> cases t <;> rfl
    have hexec : exec (.governorUpdate pa pb) s = .next (governorStep pa pb s) := rfl
    rw [rested_recovering hs hr]
    refine ⟨fun hp hsv hprobe => ?_, fun r2 r3 r4 w w' target stride p v holds z hno h2 hw hp hv ht hstride hw' h3
      hholds h4 hz => ?_⟩
    · have htimer : r.phaseTimer.isSome = true := by
        rw [hsv, hprobe] at hserved
        exact (Bool.and_eq_true_iff.1 hserved.symm).1
      have hstep : stepRecovery r (governed pa pb s) = endRecovered r (governed pa pb s) :=
        stepRecovery_probe (by rw [← hsv, hphase, h1]; rfl) hprobe
      rw [hexec, governorStep_published hs hr hp, hstep]
      exact (exec_phaseTimerExpiry_probe (governed_record.trans hr) htimer hprobe).symm
    · have hid : r2.wheel = r.wheel := by
        rw [h2, h1]
        split <;> rfl
      have hdrive : stepRecovery r (governed pa pb s) = if 1000 ≤ timeOf r4.burstTimer then failBurst r4 z else z := by
        rw [stepRecovery_drive (s := governed pa pb s) h1 hphase hno h2]
        exact driveRecovery_eq hid hw hp hv (ht.trans (by cases r2.phase <;> rfl)) hstride hw' h3 hholds h4 hz
      have hzwheels : z.wg.wheels = (governed pa pb s).wg.wheels.set r.wheel w' := by rw [hz]
      have hzrecord : z.sru.record = some r4 := by rw [hz]
      have hstate (v : Wheel) : (z.wg.wheels.get v).state = (s.wg.wheels.get v).state := by
        rw [← (governed_states_recovering (pa := pa) (pb := pb) hs hr v).1, hzwheels]
        rcases wheel_or_other r.wheel v with rfl | rfl
        · rw [PerWheel.get_set_same, hw', hw]
        · rw [PerWheel.get_set_other]
      refine ⟨fun hlow => ?_, fun hpub htime => ?_⟩
      · rw [governorStep_recovering hs hr, hdrive, if_neg (by omega), handWheels_unchanged hstate]
      · rw [hexec, governorStep_published hs hr hpub, hdrive, if_pos htime]
        exact (exec_burstStallTimerExpiry hzrecord (isSome_of_timeOf (by omega))).symm

end Sys2Proof.Machine
end

section
/-! SUPPORT. A valid frame, whole (O9), and the candidates that are no request (O7). -/

namespace Sys2Proof.Machine

/-- R172: the feed limit is computed afresh, whatever stands. -/
@[simp] theorem feedNow_recomputeFeed (s : State) : feedNow (recomputeFeed s) = feedNow s := rfl

/-- R171: the cabin's link is handed to RC. -/
theorem hear_rc_eq (p : Port) (s : State) :
    (hear p s).rc = { s.rc with
      feedLimit := if p = .cabin ∧ (s.port p).link ≠ .active then feedNow (hear p s) else s.rc.feedLimit } := by
  unfold hear
  dsimp only
  split
  · next h => rw [if_neg fun hc => hc.2 h]; rfl
  · next h =>
    cases p
    · rw [if_pos ⟨rfl, h⟩]; rfl
    · rw [if_neg fun hc => nomatch hc.1]; simp
    · rw [if_neg fun hc => nomatch hc.1]; rfl

/-- R29: the plant's link is handed to DR. -/
theorem hear_dr_eq (p : Port) (s : State) :
    (hear p s).dr = { s.dr with
      crossCheck := if p = .plant ∧ (s.port p).link ≠ .active ∧ s.rc.densityReported = true then .comparing
                    else s.dr.crossCheck } := by
  unfold hear
  dsimp only
  split
  · next h => rw [if_neg fun hc => hc.2.1 h]; rfl
  · next h =>
    cases p
    · rw [if_neg fun hc => nomatch hc.1]; rfl
    · dsimp only [resumeCrossCheck]
      split
      · next hd => rw [if_pos ⟨rfl, h, hd⟩]; rfl
      · next hd => rw [if_neg fun hc => hd hc.2.2]; rfl
    · rw [if_neg fun hc => nomatch hc.1]; rfl

/-- R29, R171, R187: what a valid frame does before anything else. -/
theorem hear_eq (p : Port) (s : State) :
    hear p s = { s with
      pi := { s.pi with ports := (hear p s).pi.ports }
      rc := { s.rc with feedLimit := if p = .cabin ∧ (s.port p).link ≠ .active then feedNow (hear p s)
                                     else s.rc.feedLimit }
      dr := { s.dr with crossCheck := if p = .plant ∧ (s.port p).link ≠ .active ∧ s.rc.densityReported = true
                                      then .comparing else s.dr.crossCheck } } := by
  have hpi : (hear p s).pi = { s.pi with ports := (hear p s).pi.ports } := by rw [hear_pi]; rfl
  rw [← hpi, ← hear_rc_eq, ← hear_dr_eq]
  obtain ⟨hm, hz, hw, hr, hl, hv, hu, he, hp, hf⟩ := hear_keeps p s
  rw [← hm, ← hz, ← hw, ← hr, ← hl, ← hv, ← hu, ← he, ← hp, ← hf]

/-- Settles O9: each port's link is handed to the block that reads it. -/
theorem linkChangeHandedOn : Obligations.LinkChangeHandedOn :=
  fun p s => ⟨hear_port p s, fun _ h => hear_port_ne s h, hear_eq p s⟩

/-- A port that is ACTIVE already hands nothing on. -/
theorem hear_of_active {p : Port} {s : State} (h : (s.port p).link = .active) :
    (hear p s).rc = s.rc ∧ (hear p s).dr = s.dr := by
  rw [hear_eq]
  simp [h]

/-- R178, R187, R192: the record of the port on which a frame has been heard and answered. -/
theorem sendReply_hear (p : Port) (kind tag : Byte) (st : Status) (d : List Byte) (s : State) :
    sendReply p kind tag st d (hear p s) = (hear p s).setPort p { s.port p with
      link := .active, silence := some (s.port p).timeout
      injection := if injected (s.port p) kind then (s.port p).injection - 1 else (s.port p).injection
      lastReply := some { kind := kind, tag := tag, status := st, payload := d
                          check := if injected (s.port p) kind then ~~~(replyCheck kind tag st d)
                                   else replyCheck kind tag st d } } := by
  simp [sendReply, hear_port, injected]

/-- Settles O7: a bad candidate is counted; an unknown kind is heard and answered, and its kind byte is not that of
TEST_INJECT, so that test injection acts on the reply. -/
theorem framesNotTaken : Obligations.FramesNotTaken := by
  refine ⟨fun p candidate s hn => ?_, ?_⟩
  · exact congrArg _ (if_pos (by rw [hn]; rfl))
  · rintro p kind tag s _ _ hk rfl rfl
    have hi : injected (s.port p) kind = decide (0 < (s.port p).injection) := by
      have : kind ≠ kindByte .testInject := by
        rintro rfl
        exact absurd hk (by decide)
      simp [injected, this]
    refine ⟨rfl, congrArg _ ((sendReply_hear ..).trans ?_), hear_of_active⟩
    rcases Nat.eq_zero_or_pos (s.port p).injection with h0 | hpos
    · simp [hi, h0]
    · simp [hi, hpos]

end Sys2Proof.Machine
end

section
/-! SUPPORT. The depth, its toe history and the run counters of the cross-check (O21). `SameDepth s t` says that what
`DepthLegal` reads is in `t` as it is in `s`; the commands that change it are judged one by one. -/

namespace Sys2Proof.Machine

/-! ## A density reported (R157) -/

@[simp] theorem rejudgeShort_reported (s : State) :
    (rejudgeShort s).rc.densityReported = s.rc.densityReported := by
  unfold rejudgeShort; dsimp only; split <;> simp

@[simp] theorem recomputeFloor_reported (s : State) :
    (recomputeFloor s).rc.densityReported = s.rc.densityReported := by
  rw [recomputeFloor_eq]; rfl

@[simp] theorem recomputeFeed_reported (s : State) :
    (recomputeFeed s).rc.densityReported = s.rc.densityReported := rfl

@[simp] theorem changeReturn_reported (st : ReturnState) (s : State) :
    (changeReturn st s).rc.densityReported = s.rc.densityReported := by
  cases st <;> rfl

@[simp] theorem startPriming_reported (s : State) :
    (startPriming s).rc.densityReported = s.rc.densityReported := changeReturn_reported ..

@[simp] theorem testPlant_reported (s : State) : (testPlant s).rc.densityReported = s.rc.densityReported := by
  unfold testPlant; split <;> simp

@[simp] theorem leaveHold_reported (s : State) : (leaveHold s).rc.densityReported = s.rc.densityReported :=
  testPlant_reported _

@[simp] theorem starve_reported (s : State) : (starve s).rc.densityReported = s.rc.densityReported :=
  changeReturn_reported ..

@[simp] theorem returnOff_reported (s : State) : (returnOff s).rc.densityReported = s.rc.densityReported :=
  changeReturn_reported ..

@[simp] theorem handZone_reported (s : State) : (handZone s).rc.densityReported = s.rc.densityReported := rfl

@[simp] theorem selectZone_reported (x : Nat) (s : State) :
    (selectZone x s).rc.densityReported = s.rc.densityReported := by
  unfold selectZone; dsimp only; split <;> simp

@[simp] theorem changeTable_reported (es : List ZoneEntry) (s : State) :
    (changeTable es s).rc.densityReported = s.rc.densityReported := by
  unfold changeTable; dsimp only; (repeat' split) <;> simp

@[simp] theorem handDepth_reported (s : State) : (handDepth s).rc.densityReported = s.rc.densityReported := by
  unfold handDepth; simp

@[simp] theorem setFeedRate_reported (v : Nat) (s : State) :
    (setFeedRate v s).rc.densityReported = s.rc.densityReported := by
  unfold setFeedRate; split <;> simp

@[simp] theorem handWheels_reported (before : PerWheel WheelRec) (s : State) :
    (handWheels before s).rc.densityReported = s.rc.densityReported := by
  unfold handWheels; split <;> simp

@[simp] theorem haltWheels_reported (s : State) : (haltWheels s).rc.densityReported = s.rc.densityReported := by
  unfold haltWheels; simp

@[simp] theorem takeStall_reported (w : Wheel) (s : State) :
    (takeStall w s).rc.densityReported = s.rc.densityReported := by
  unfold takeStall; simp

@[simp] theorem takeTachFault_reported (w : Wheel) (s : State) :
    (takeTachFault w s).rc.densityReported = s.rc.densityReported := by
  unfold takeTachFault; simp

@[simp] theorem clearJamTaken_reported (s : State) :
    (clearJamTaken s).rc.densityReported = s.rc.densityReported := by
  unfold clearJamTaken; simp

@[simp] theorem hear_reported (p : Port) (s : State) : (hear p s).rc.densityReported = s.rc.densityReported := by
  rw [hear_rc]

/-! ## A port that becomes LOST (R189) -/

/-- R189, step 2: the queue of the port is discarded LINK_LOST. -/
def lostPort (q : PortRec) : PortRec :=
  { q with
    link := .lost, silence := none, hold := none, queue := [], refused := min 255 (q.refused + q.queue.length)
    rejection := match q.queue.getLast? with
      | some e => some { kind := e.request.kind, tag := e.tag, code := .linkLost }
      | none => q.rejection }

theorem losePort_eq (p : Port) (s : State) :
    losePort p s = if (s.port p).queue.isEmpty then s.setPort p (lostPort (s.port p))
      else raiseRefused p (s.setPort p (lostPort (s.port p))) := rfl

@[simp] theorem losePort_keeps (p : Port) (s : State) :
    (losePort p s).mfe = s.mfe ∧ (losePort p s).dr = s.dr ∧ (losePort p s).zt = s.zt ∧ (losePort p s).wg = s.wg ∧
    (losePort p s).sru = s.sru ∧ (losePort p s).slu = s.slu ∧ (losePort p s).psv = s.psv ∧
    (losePort p s).su = s.su ∧ (losePort p s).rc = s.rc ∧ (losePort p s).pending = s.pending ∧
    (losePort p s).free = s.free := by
  rw [losePort_eq]; split <;> simp

theorem losePort_pi (p : Port) (s : State) : (losePort p s).pi = (s.setPort p (lostPort (s.port p))).pi := by
  rw [losePort_eq]; split <;> simp

/-! ## What stays -/

/-- DR as `DepthLegal` reads it, the density reported and the plant's link: as they were. The settings of R32, the counts
received, the time left of the snapshot interval and the pressure depth are not read there. -/
structure SameDepth (s t : State) : Prop where
  dr : t.dr = { s.dr with
    offset := t.dr.offset, band := t.dr.band, snapshotLeft := t.dr.snapshotLeft, hp := t.dr.hp, rho := t.dr.rho
    countReceived := t.dr.countReceived, lastCount := t.dr.lastCount }
  reported : t.rc.densityReported = s.rc.densityReported
  link : t.pi.ports.plant.link = s.pi.ports.plant.link

theorem DepthLegal.same {s t : State} (h : DepthLegal s) (hs : SameDepth s t) : DepthLegal t := by
  obtain ⟨hd, hr, hl⟩ := hs
  unfold DepthLegal
  rw [hd, hr, hl]
  exact h

namespace SameDepth

variable {a s t : State}

theorem refl (s : State) : SameDepth s s := ⟨rfl, rfl, rfl⟩

/-- A change that DR does not take part in. -/
theorem frame (h : SameDepth a s) (hd : t.dr = s.dr) (hr : t.rc.densityReported = s.rc.densityReported)
    (hl : t.pi.ports.plant.link = s.pi.ports.plant.link) : SameDepth a t :=
  ⟨by rw [hd]; exact h.dr, hr.trans h.reported, hl.trans h.link⟩

theorem ite {c : Prop} [Decidable c] {u : State} (ht : c → SameDepth a t) (hu : ¬ c → SameDepth a u) :
    SameDepth a (if c then t else u) := by
  split
  · next hc => exact ht hc
  · next hc => exact hu hc

theorem setPort {p : Port} {q : PortRec} (h : SameDepth a s) (hq : q.link = (s.port p).link) :
    SameDepth a (s.setPort p q) := by
  refine h.frame rfl rfl ?_
  cases p
  · rfl
  · exact hq
  · rfl

theorem reply {k : Kind} {p : Port} {tag : Byte} {st : Status} {d : List Byte} (h : SameDepth a s) :
    SameDepth a (reply k p tag st d s) := h.setPort rfl

/-- A demand or a ceiling taken: Qeff, the pump command and TRANSPORT_SHORT follow. -/
theorem setDemand {r : Rc} (h : SameDepth a s) (hr : r.densityReported = s.rc.densityReported) :
    SameDepth a (rejudgeShort { s with rc := recomputeDemand r }) :=
  h.frame (by simp) ((rejudgeShort_reported _).trans hr) (by simp)

theorem raiseRefused {p : Port} (h : SameDepth a s) : SameDepth a (raiseRefused p s) := h.frame rfl rfl rfl

theorem testPlant (h : SameDepth a s) : SameDepth a (testPlant s) := h.frame (by simp) (by simp) (by simp)

theorem returnOff (h : SameDepth a s) : SameDepth a (returnOff s) := h.frame (by simp) (by simp) (by simp)

theorem changeTable {es : List ZoneEntry} (h : SameDepth a s) : SameDepth a (changeTable es s) :=
  h.frame (by simp) (by simp) (by simp)

/-! ## The posted queues (R184 to R186) -/

/-- A posted request that is taken leaves the depth as it was. -/
theorem applied {p : Port} {r : Posted} (h : SameDepth a s) (ht : applyPosted p r s = .ok t) : SameDepth a t := by
  cases r
  case setPortTimeout =>
    simp only [applyPosted, applySetPortTimeout] at ht
    (repeat' split at ht) <;> cases ht
    exact h.setPort rfl
  case setDepthCheck =>
    simp only [applyPosted, applySetDepthCheck] at ht
    split at ht <;> cases ht
    exact ⟨by rw [h.dr], h.reported, h.link⟩
  case setScaler | setFallbackSpeed | setRecovery | ackEvents | setEventEnables | setAlertLine | setMarkWidth =>
    simp only [applyPosted, applySetScaler, applySetFallbackSpeed, applySetRecovery, applyAckEvents,
      applySetEventEnables, applySetAlertLine, applySetMarkWidth] at ht
    (repeat' split at ht) <;> cases ht
    exact h.frame rfl rfl rfl
  case setWheelDemand | setRamp | setTrimManual => cases ht; exact h.frame rfl rfl rfl
  case loadZone =>
    simp only [applyPosted, applyLoadZone] at ht
    (repeat' split at ht) <;> cases ht
    exact h.changeTable
  case dropZone =>
    simp only [applyPosted, applyDropZone] at ht
    (repeat' split at ht) <;> cases ht
    · exact h.changeTable
    · exact h
  case clearJam =>
    simp only [applyPosted, applyClearJam] at ht
    split at ht <;> cases ht
    exact h.frame (by simp) (by simp) (by simp)
  case setSteerMode | setSteerGains | setPlate | clearPlate =>
    simp only [applyPosted, applySetSteerMode, applySetSteerGains, applySetPlate, applyClearPlate] at ht
    (repeat' split at ht) <;> cases ht <;> exact h.frame (by simp) (by simp) (by simp)
  case setPumpDemand =>
    simp only [applyPosted, applySetPumpDemand] at ht
    (repeat' split at ht) <;> cases ht
    · exact h
    · exact h.setDemand rfl
    · exact testPlant (h.setDemand (by rfl))
    · exact returnOff (h.setDemand (by rfl))
    · exact h.setDemand rfl
  case setTransport =>
    simp only [applyPosted, applySetTransport] at ht
    split at ht <;> cases ht
    exact h.frame (by simp) (by simp) (by simp)

theorem recordRefusal {p : Port} {e : Entry} {code : Status} (h : SameDepth a s) :
    SameDepth a (recordRefusal p e code s) :=
  raiseRefused (h.setPort rfl)

theorem applyEntry {p : Port} {e : Entry} (h : SameDepth a s) : SameDepth a (applyEntry p e s) := by
  unfold Machine.applyEntry
  split
  · next ht => exact h.applied ht
  · exact h.recordRefusal

theorem drainList {p : Port} {es : List Entry} (h : SameDepth a s) : SameDepth a (drainList p es s) := by
  induction es generalizing s with
  | nil => exact h.setPort rfl
  | cons e es ih =>
    unfold Machine.drainList
    split
    · exact h.setPort rfl
    · exact ih h.applyEntry

theorem joinQueue {p : Port} {e : Entry} (h : SameDepth a s) : SameDepth a (joinQueue p e s) :=
  .ite (fun _ => h.drainList) fun _ => h.setPort rfl

theorem releaseHead {concerns : Posted → Bool} (h : SameDepth a s) : SameDepth a (releaseHead concerns s) := by
  unfold Machine.releaseHead
  (repeat' split)
  · exact h.drainList
  all_goals exact h

/-! ## The recovery and the governor update (R54, R75) -/

/-- The record cleared, a held head released, the outcome kept and the event raised. -/
theorem closeRecovery {how : RecoveryEnd} {r : Recovery} {e : Event} (h : SameDepth a s) :
    SameDepth a (raise e (setOutcome how r (releaseRecovery (clearRecord s)))) := by
  have hclear : SameDepth a (clearRecord s) := h.frame (by simp) (by simp) (by simp)
  exact hclear.releaseHead.frame rfl rfl rfl

theorem endRecovered {r : Recovery} (h : SameDepth a s) : SameDepth a (endRecovered r s) :=
  closeRecovery (h.frame rfl rfl rfl)

theorem failBurst {r : Recovery} (h : SameDepth a s) : SameDepth a (failBurst r s) :=
  .ite (fun _ => h.frame rfl rfl rfl) fun _ => closeRecovery (h.frame rfl rfl rfl)

theorem driveRecovery {r : Recovery} (h : SameDepth a s) : SameDepth a (driveRecovery r s) :=
  .ite (fun _ => failBurst (h.frame rfl rfl rfl)) fun _ => h.frame rfl rfl rfl

theorem stepRecovery {r : Recovery} (h : SameDepth a s) : SameDepth a (stepRecovery r s) := by
  unfold Machine.stepRecovery
  dsimp only
  (repeat' split)
  · exact h.driveRecovery
  · exact h.endRecovered
  · exact h.driveRecovery

theorem takeStalls (h : SameDepth a s) : SameDepth a (takeStalls s) := by
  unfold Machine.takeStalls
  split
  · exact h.frame (by simp) (by simp) (by simp)
  · exact h

theorem restWheels (h : SameDepth a s) : SameDepth a (restWheels s) := by
  unfold Machine.restWheels
  exact h.frame (by simp) (by simp) (by simp)

theorem handWheels {before : PerWheel WheelRec} (h : SameDepth a s) : SameDepth a (handWheels before s) :=
  h.frame (by simp) (by simp) (by simp)

theorem stepSru {before : State} (h : SameDepth a s) : SameDepth a (stepSru before s) := by
  unfold Machine.stepSru
  (repeat' split)
  · exact h
  · exact h.stepRecovery
  · exact h

theorem governorStep {pa pb : Int} (h : SameDepth a s) : SameDepth a (governorStep pa pb s) :=
  handWheels (stepSru (restWheels (takeStalls (h.frame rfl rfl rfl))))

/-! ## The measurements, the plates, the return and the survey -/

theorem loseSensor (h : SameDepth a s) : SameDepth a (loseSensor s) :=
  h.frame (by simp [Machine.loseSensor]) (by simp [Machine.loseSensor]) (by simp [Machine.loseSensor])

theorem takeInvalid (h : SameDepth a s) : SameDepth a (takeInvalid s) :=
  .ite (fun _ => loseSensor (h.frame rfl rfl rfl)) fun _ => h.frame rfl rfl rfl

theorem takeValid {x y psi : Int} (h : SameDepth a s) : SameDepth a (takeValid x y psi s) :=
  .ite (fun _ => h.frame (by simp) (by simp) (by simp)) fun _ =>
    h.frame (by simp [endStarting]) (by simp [endStarting]) (by simp [endStarting])

theorem judgeGate {w : Wheel} {pulses : Nat} (h : SameDepth a s) : SameDepth a (judgeGate w pulses s) := by
  unfold Machine.judgeGate
  dsimp only
  (repeat' split)
  · exact h.frame (by simp) (by simp) (by simp)
  all_goals exact h.frame rfl rfl rfl

theorem changeReturn {st : ReturnState} (h : SameDepth a s) : SameDepth a (changeReturn st s) :=
  h.frame (by simp) (by simp) (by simp)

theorem judgeFlow (h : SameDepth a s) : SameDepth a (judgeFlow s) := by
  unfold Machine.judgeFlow
  (repeat' split)
  · exact changeReturn (h.frame rfl rfl rfl)
  · exact h
  · exact changeReturn (h.frame rfl rfl rfl)
  all_goals exact h.frame rfl rfl rfl

theorem resetReturn (h : SameDepth a s) : SameDepth a (resetReturn s) := by
  unfold Machine.resetReturn
  split
  · exact h.testPlant
  · exact testPlant (h.frame rfl rfl rfl)
  all_goals exact h

theorem takeRise {low : Nat} (h : SameDepth a s) : SameDepth a (takeRise low s) := by
  unfold Machine.takeRise riseInHold
  (repeat' split)
  · exact changeReturn (h.frame rfl rfl rfl)
  · exact h
  · exact testPlant (h.frame rfl rfl rfl)
  all_goals exact h

theorem takeFall (h : SameDepth a s) : SameDepth a (takeFall s) := by
  unfold Machine.takeFall
  split
  case h_1 | h_2 | h_3 => exact changeReturn (h.frame rfl rfl rfl)
  all_goals exact h.frame rfl rfl rfl

theorem ceilingIntoState (h : SameDepth a s) : SameDepth a (ceilingIntoState s) := by
  unfold Machine.ceilingIntoState
  (repeat' split)
  · exact changeReturn (h.frame rfl rfl rfl)
  · exact h
  · exact changeReturn (h.frame rfl rfl rfl)
  · exact h
  · exact changeReturn (h.frame rfl rfl rfl)
  all_goals exact h

theorem takeCeiling {qp : Nat} (h : SameDepth a s) : SameDepth a (takeCeiling qp s) := by
  refine ceilingIntoState ?_
  exact (h.setDemand (r := { s.rc with qp := qp }) rfl).frame rfl rfl rfl

theorem handEnd {q : PlateId} {before : PerPlate Plate} (h : SameDepth a s) : SameDepth a (handEnd q before s) :=
  .ite (fun _ => h.releaseHead) fun _ => h

theorem plateStep {n1 n2 s1 s2 : Int} (h : SameDepth a s) : SameDepth a (plateStep n1 n2 s1 s2 s) :=
  handEnd (handEnd (handEnd (handEnd (h.frame rfl rfl rfl))))

theorem stopSurvey (h : SameDepth a s) : SameDepth a (stopSurvey s) := by
  unfold Machine.stopSurvey
  split
  all_goals exact h.frame (by simp) (by simp) (by simp)

theorem startCheck (h : SameDepth a s) : SameDepth a (startCheck s) :=
  .ite (fun _ => h.frame (by simp) (by simp) (by simp)) fun _ => h.frame (by simp) (by simp) (by simp)

theorem tick (s : State) : SameDepth s (tick s) := ⟨rfl, rfl, rfl⟩

end SameDepth

/-! ## The commands that change the depth -/

theorem emptyHistory_dr (s : State) :
    (emptyHistory s).dr = { s.dr with history := [], snapshotLeft := 5000, fMeas := 0 } := by
  rw [emptyHistory, setFeedRate_eq]

@[simp] theorem emptyHistory_reported (s : State) :
    (emptyHistory s).rc.densityReported = s.rc.densityReported := setFeedRate_reported ..

theorem takeCount_dr (count : Int) (s : State) :
    (takeCount count s).dr = { s.dr with
      depth := clampNat (rawDepth s count) maxDepth, aboveDatum := decide (rawDepth s count < 0)
      range := decide ((maxDepth : Int) < rawDepth s count)
      toe := max s.dr.toe (clampNat (rawDepth s count) maxDepth) } := by
  unfold takeCount
  dsimp only
  split <;> rfl

theorem setDisagree_dr (d : Bool) (s : State) : (setDisagree d s).dr = { s.dr with disagree := d } := by
  unfold setDisagree
  split
  · next h => rw [h]
  · simp

theorem suspendCrossCheck_dr (s : State) :
    (suspendCrossCheck s).dr = { s.dr with crossCheck := .noDensity, disagree := false, outRun := 0, inRun := 0 } :=
  setDisagree_dr ..

theorem raiseDisagree_dr (s : State) : (raiseDisagree s).dr = { s.dr with disagree := true } := by
  rw [raiseDisagree, setDisagree_dr]
  rfl

theorem pairwise_le_append {l : List Nat} {x : Nat} (hp : l.Pairwise (· ≤ ·)) (hx : ∀ y ∈ l, y ≤ x) :
    (l ++ [x]).Pairwise (· ≤ ·) :=
  List.pairwise_append.2 ⟨hp, List.pairwise_singleton .., fun y hy _ hz => List.mem_singleton.1 hz ▸ hx y hy⟩

/-- R27: the snapshots that stay when one joins. -/
theorem pushToe_eq (toe : Nat) (h : List Nat) :
    pushToe toe h = (if h.length < 12 then h else h.drop (h.length - 11)) ++ [toe] := by
  unfold pushToe
  split
  · rw [if_neg (by omega)]
  · rw [if_pos (by omega)]

/-- R27: the snapshots that stay are among those there were, in their order, and leave room for one more. -/
theorem keptToes {h : List Nat} {k : List Nat} (hk : k = if h.length < 12 then h else h.drop (h.length - 11)) :
    k.Sublist h ∧ k.length ≤ 11 := by
  subst hk
  split
  · exact ⟨List.Sublist.refl _, by omega⟩
  · exact ⟨List.drop_sublist .., by rw [List.length_drop]; omega⟩

namespace DepthLegal

variable {s t : State}

/-- R29: a change of whether a comparison can be made. -/
theorem setCrossCheck {c : CrossCheck} {rho : Nat} (h : DepthLegal s) (hd : t.dr = { s.dr with crossCheck := c, rho := rho })
    (hn : c = .noDensity → s.dr.crossCheck = .noDensity)
    (hc : c = .comparing ↔ t.rc.densityReported = true ∧ t.pi.ports.plant.link = .active) : DepthLegal t := by
  obtain ⟨hu, hdt, htm, hab, hra, hlen, hpw, hle, hf, ho, hi, hoi, hrun, hdis, _⟩ := h
  unfold DepthLegal
  rw [hd]
  exact ⟨hu, hdt, htm, hab, hra, hlen, hpw, hle, hf, ho, hi, hoi, fun hx => hrun (hx.imp_left hn), fun hx => hdis (hn hx),
    hc⟩

/-- R187: a plant that returns resumes the cross-check when a density has been handed. -/
theorem hear (h : DepthLegal s) (p : Port) : DepthLegal (hear p s) := by
  obtain ⟨_, _, _, _, _, _, _, _, _, _, _, _, _, _, hc⟩ := id h
  refine h.setCrossCheck (hear_dr_eq p s) (fun hn => ?_) ?_
  · split at hn
    · cases hn
    · exact hn
  · have hlink : (Machine.hear p s).pi.ports.plant.link = if p = .plant then .active else s.pi.ports.plant.link := by
      rw [hear_pi]; cases p <;> rfl
    rw [hear_reported, hlink]
    by_cases hp : p = .plant
    · subst hp
      cases hr : s.rc.densityReported <;> simp_all [State.port, PerPort.get]
    · simpa [hp] using hc

/-- R157: a density from the plant starts the cross-check. -/
theorem takeDensity (h : DepthLegal s) (hl : s.pi.ports.plant.link = .active) (rhoS rhoR : Nat) :
    DepthLegal (takeDensity rhoS rhoR s) :=
  h.setCrossCheck (c := .comparing) rfl (fun hn => nomatch hn) (by simpa [Machine.takeDensity] using hl)

/-- R21, R26: a count brings the depth within its range, and the toe along with it. -/
theorem takeCount (h : DepthLegal s) (hv : s.dr.state ≠ .unset) (count : Int) : DepthLegal (takeCount count s) := by
  obtain ⟨_, _, htm, _, _, hlen, hpw, hle, hrest⟩ := h
  have hraw : clampNat (rawDepth s count) maxDepth ≤ maxDepth ∧
      (rawDepth s count < 0 → clampNat (rawDepth s count) maxDepth = 0 ∧ ¬ (maxDepth : Int) < rawDepth s count) ∧
      ((maxDepth : Int) < rawDepth s count → clampNat (rawDepth s count) maxDepth = maxDepth) := by
    unfold clampNat; omega
  obtain ⟨hmax, hlow, hhigh⟩ := hraw
  unfold DepthLegal
  rw [takeCount_dr]
  refine ⟨fun hx => absurd hx hv, le_max_right .., max_le htm hmax, ?_, ?_, hlen, hpw,
    fun x hx => (hle x hx).trans (le_max_left ..), ?_⟩
  · simpa using hlow
  · simpa using hhigh
  · simpa using hrest

/-- A depth that becomes VALID with an empty history and no run. -/
theorem validDepth (h : DepthLegal s) {d : Dr} (hd : t.dr = { d with history := [], fMeas := 0, outRun := 0, inRun := 0 })
    (hs : d.state = .valid) (hrange : d.depth ≤ d.toe ∧ d.toe ≤ maxDepth)
    (hflags : (d.aboveDatum = true → d.depth = 0 ∧ d.range = false) ∧ (d.range = true → d.depth = maxDepth))
    (hdis : d.disagree = s.dr.disagree) (hcc : d.crossCheck = s.dr.crossCheck)
    (hr : t.rc.densityReported = s.rc.densityReported) (hl : t.pi.ports.plant.link = s.pi.ports.plant.link) :
    DepthLegal t := by
  obtain ⟨_, _, _, _, _, _, _, _, _, _, _, _, _, hsdis, hscc⟩ := h
  unfold DepthLegal
  rw [hd, hr, hl]
  refine ⟨fun hx => ?_, hrange.1, hrange.2, hflags.1, hflags.2, by simp, by simp, by simp, rfl, by simp, by simp,
    by simp, fun _ => ⟨rfl, rfl⟩, ?_, ?_⟩
  · rw [show d.state = .unset from hx] at hs; cases hs
  · simpa [hdis, hcc] using hsdis
  · simpa [hcc] using hscc

theorem handDepth (h : DepthLegal s) : DepthLegal (handDepth s) :=
  h.same ((SameDepth.refl s).frame (by simp) (by simp) (by simp))

/-- R20: a count reported in each depth state. -/
theorem reportCount (h : DepthLegal s) (count : Int) : DepthLegal (reportCount count s) := by
  unfold Machine.reportCount
  dsimp only
  split
  · exact h.same ⟨rfl, rfl, rfl⟩
  · next hs =>
    have hc : DepthLegal { s with dr := { s.dr with lastCount := count, countReceived := true } } :=
      h.same ⟨rfl, rfl, rfl⟩
    exact (hc.takeCount (by simp [hs]) count).handDepth
  · next hs =>
    obtain ⟨_, hdt, htm, hab, hra, _, _, _, _, _, _, _, hrun, _⟩ := id h
    obtain ⟨hout, hin⟩ := hrun (.inr (by simp [hs]))
    refine handDepth (takeCount (h.validDepth
      (d := { s.dr with lastCount := count, countReceived := true, state := .valid, snapshotLeft := 5000 })
      ?_ rfl ⟨hdt, htm⟩ ⟨hab, hra⟩ rfl rfl (by simp) (by simp)) ?_ count)
    · rw [emptyHistory_dr]; simp [hout, hin]
    · simp [emptyHistory_dr]

/-- R24: a datum within its range of R23. -/
theorem takeDatum (h : DepthLegal s) {v : Nat} (hv : v ≤ maxDepth) : DepthLegal (takeDatum v s) :=
  handDepth (h.validDepth
    (d := { s.dr with
      c0 := s.dr.lastCount, datum := v, depth := v, state := .valid, aboveDatum := false, range := false, toe := v
      snapshotLeft := 5000 })
    (emptyHistory_dr _) rfl ⟨le_refl v, hv⟩ ⟨by simp, by simp⟩ rfl rfl (by simp) (by simp))

/-- R25, R31: a VALID depth that becomes STALE ends the runs. -/
theorem goStale (h : DepthLegal s) : DepthLegal (goStale s) := by
  unfold Machine.goStale
  split
  · obtain ⟨_, hdt, htm, hab, hra, hlen, hpw, hle, hf, _, _, _, _, hdis, hcc⟩ := h
    exact handDepth ⟨by simp, hdt, htm, hab, hra, hlen, hpw, hle, hf, by simp, by simp, by simp, fun _ => ⟨rfl, rfl⟩, hdis,
      hcc⟩
  · exact h

/-- R31: the run counters and DISAGREE where a comparison is made. -/
theorem setRuns (h : DepthLegal s) (hc : s.dr.crossCheck = .comparing ∧ s.dr.state = .valid) {d : Bool} {o i n : Nat}
    (hd : t.dr = { s.dr with disagree := d, outRun := o, inRun := i, hp := n }) (ho : o ≤ 255) (hi : i ≤ 255)
    (h0 : o = 0 ∨ i = 0) (hr : t.rc.densityReported = s.rc.densityReported)
    (hl : t.pi.ports.plant.link = s.pi.ports.plant.link) : DepthLegal t := by
  obtain ⟨_, hdt, htm, hab, hra, hlen, hpw, hle, hf, _, _, _, _, _, hcc⟩ := h
  obtain ⟨hcmp, hval⟩ := hc
  unfold DepthLegal
  rw [hd, hr, hl]
  refine ⟨?_, hdt, htm, hab, hra, hlen, hpw, hle, hf, ho, hi, h0, ?_, ?_, hcc⟩ <;> simp [hcmp, hval]

theorem takeHeadPressure (h : DepthLegal s) (r : Reading) : DepthLegal (takeHeadPressure r s) := by
  unfold Machine.takeHeadPressure
  dsimp only
  split
  · next hc =>
    have hc : s.dr.crossCheck = .comparing ∧ s.dr.state = .valid := by
      simp only [compared, Bool.and_eq_true, decide_eq_true_eq] at hc
      exact hc.1
    have hn (n : Nat) : count255 n ≤ 255 := Nat.min_le_left ..
    unfold compareDepth
    dsimp only
    (repeat' split)
    · exact h.setRuns hc (raiseDisagree_dr _) (hn _) (Nat.zero_le _) (.inr rfl) (by simp) (by simp)
    · exact h.setRuns hc rfl (hn _) (Nat.zero_le _) (.inr rfl) rfl rfl
    · exact h.setRuns hc (setDisagree_dr ..) (Nat.zero_le _) (hn _) (.inl rfl) (by simp) (by simp)
    · exact h.setRuns hc rfl (Nat.zero_le _) (hn _) (.inl rfl) rfl rfl
  · exact h.same ⟨rfl, rfl, rfl⟩

theorem depthDisagree (h : DepthLegal s) : ∃ t, execDepthDisagree s = .next t ∧ DepthLegal t := by
  refine ⟨_, rfl, ?_⟩
  split
  · next hc =>
    obtain ⟨_, _, _, _, _, _, _, _, _, ho, _⟩ := id h
    exact h.setRuns ((canCompare_iff s).1 (Bool.and_eq_true_iff.1 hc).1) (raiseDisagree_dr _)
      (max_le (by decide) ho) (Nat.zero_le _) (.inr rfl) (by simp) (by simp)
  · exact h

theorem disagreeClear (h : DepthLegal s) : ∃ t, execDisagreeClear s = .next t ∧ DepthLegal t := by
  refine ⟨_, rfl, ?_⟩
  split
  · next hc =>
    obtain ⟨_, _, _, _, _, _, _, _, _, _, hi, _⟩ := id h
    exact h.setRuns ((canCompare_iff s).1 (Bool.and_eq_true_iff.1 hc).1) (setDisagree_dr ..) (Nat.zero_le _)
      (max_le (by decide) hi) (.inl rfl) (by simp) (by simp)
  · exact h

/-- R27, R28: the toe joins the history. -/
theorem pushSnapshot (h : DepthLegal s) (hv : s.dr.state = .valid) : DepthLegal (pushSnapshot s) := by
  obtain ⟨_, hdt, htm, hab, hra, _, hpw, hle, _, ho, hi, h0, hrun, hdis, hcc⟩ := h
  obtain ⟨hsub, hlen⟩ := keptToes (h := s.dr.history) rfl
  have hle' := fun x hx => hle x (hsub.subset hx)
  have hd : (Machine.pushSnapshot s).dr = { s.dr with
      history := pushToe s.dr.toe s.dr.history, fMeas := measuredFeed (pushToe s.dr.toe s.dr.history) } := by
    rw [Machine.pushSnapshot, setFeedRate_eq]
  have hr : (Machine.pushSnapshot s).rc.densityReported = s.rc.densityReported := setFeedRate_reported ..
  have hp : (Machine.pushSnapshot s).pi = s.pi := (setFeedRate_keeps ..).2.2.2.2.2.2.2.1
  unfold DepthLegal
  rw [hd, hr, hp, pushToe_eq]
  refine ⟨fun hu => ?_, hdt, htm, hab, hra, ?_, pairwise_le_append (hpw.sublist hsub) hle', ?_, rfl, ho, hi, h0, hrun,
    hdis, hcc⟩
  · cases hv.symm.trans hu
  · rw [List.length_append, List.length_singleton]; omega
  · simpa [or_imp, forall_and] using hle'

/-- R25, R29: the loss of a port. The plant's ends the cross-check with its runs. -/
theorem silence (h : DepthLegal s) (p : Port) : ∃ t, execSilenceTimerExpiry p s = .next t ∧ DepthLegal t := by
  refine ⟨_, rfl, ?_⟩
  split
  · have lost (hp : p ≠ .plant) : DepthLegal (raisePortLost p (losePort p s)) := by
      refine h.same ((SameDepth.refl s).frame (by simp) (by simp) ?_)
      cases p
      · simp [losePort_pi, State.setPort, PerPort.set]
      · exact absurd rfl hp
      · simp [losePort_pi, State.setPort, PerPort.set]
    cases p with
    | cabin => exact (lost (by decide)).same ((SameDepth.refl _).frame (by simp [handLoss]) (by simp [handLoss])
        (by simp [handLoss]))
    | plant =>
      obtain ⟨hu, hdt, htm, hab, hra, hlen, hpw, hle, hf, _⟩ := h
      have hd : (surveyLoss .plant (handLoss .plant (raisePortLost .plant (losePort .plant s)))).dr =
          { s.dr with crossCheck := .noDensity, disagree := false, outRun := 0, inRun := 0 } := by
        simp [handLoss, suspendCrossCheck_dr]
      have hl : (surveyLoss .plant (handLoss .plant (raisePortLost .plant (losePort .plant s)))).pi.ports.plant.link
          = .lost := by
        simp [handLoss, losePort_pi, State.setPort, PerPort.set, lostPort]
      unfold DepthLegal
      rw [hd, hl]
      refine ⟨fun hx => ?_, hdt, htm, hab, hra, hlen, hpw, hle, hf, by simp, by simp, by simp, by simp, by simp,
        by simp⟩
      obtain ⟨hd0, ht0, ha0, hr0, _, hh0⟩ := hu hx
      exact ⟨hd0, ht0, ha0, hr0, rfl, hh0⟩
    | hoist => exact ((lost (by decide)).goStale).same ((SameDepth.refl _).frame (by simp [handLoss])
        (by simp [handLoss]) (by simp [handLoss]))
  · exact h

theorem restartHub (h : DepthLegal s) : DepthLegal (restartHub s) := by
  obtain ⟨hu, hdt, htm, hab, hra, hlen, hpw, hle, hf, _, _, _, _, hdis, hcc⟩ := h
  have hs : DepthLegal (restartDr (restartRc (restartWg (restartSru (restartPi s))))) := by
    unfold restartSru
    split <;> exact ⟨hu, hdt, htm, hab, hra, hlen, hpw, hle, hf, Nat.zero_le _, Nat.zero_le _, .inl rfl,
      fun _ => ⟨rfl, rfl⟩, hdis, hcc⟩
  have hr := (SameDepth.refl (restartDr (restartRc (restartWg (restartSru (restartPi s)))))).stopSurvey
  exact hs.same (hr.frame rfl rfl rfl)

theorem receive {k : Kind} {p : Port} {tag : Byte} {d : List Byte} {body : State → State} (h : DepthLegal s)
    (hb : permitted k p = true → DepthLegal (Machine.hear p s) → DepthLegal (body (Machine.hear p s))) :
    DepthLegal (receive k p tag d body s) := by
  have hr {st : Status} : DepthLegal (reply k p tag st [] (Machine.hear p s)) := (h.hear p).same (SameDepth.refl _).reply
  unfold Machine.receive
  dsimp only
  (repeat' split)
  · exact hr
  · exact hr
  · exact hr
  · next hp _ _ => exact hb (by simpa using hp) (h.hear p)

end DepthLegal

/-! ## Every command -/

/-- A request whose effect leaves the depth as it was. -/
theorem DepthLegal.receive_same {s : State} {k : Kind} {p : Port} {tag : Byte} {d : List Byte} {body : State → State}
    (h : DepthLegal s) (hb : ∀ t, SameDepth t (body t)) : DepthLegal (Machine.receive k p tag d body s) :=
  h.receive fun _ ht => ht.same (hb _)

theorem DepthLegal.post {s : State} {k : Kind} {p : Port} {tag : Byte} {d : List Byte} {make : State → Posted × Bool}
    (h : DepthLegal s) : DepthLegal (post k p tag d make s) :=
  h.receive_same fun t => .ite (fun _ => (SameDepth.refl t).reply) fun _ => (SameDepth.refl t).reply.joinQueue

theorem DepthLegal.runRequest {s : State} {k : Kind} {p : Port} {tag : Byte} {d : List Byte}
    {refusal : State → Option Status} {effect : State → State} (h : DepthLegal s)
    (he : ∀ t, SameDepth t (effect t)) : DepthLegal (runRequest k p tag d refusal effect s) := by
  refine h.receive_same fun t => ?_
  (repeat' split)
  · exact (SameDepth.refl t).reply
  · exact (SameDepth.refl t).reply
  · exact (he t).reply

/-- R23: a datum that is not refused lies within the range of the depth. -/
theorem datum_le_maxDepth {v : Nat} {s : State} (h : datumRefusal v s = none) : v ≤ maxDepth := by
  unfold datumRefusal at h
  split at h
  · cases h
  · unfold maxDepth; omega

theorem depthLegal_reset : DepthLegal State.reset := by decide

/-- What a command answers keeps the depth consistent. -/
theorem exec_depthLegal (c : Instr) {s : State} (h : DepthLegal s) : ∃ t, exec c s = .next t ∧ DepthLegal t := by
  have r := SameDepth.refl s
  cases c with
  | powerOn ready => exact ⟨_, rfl, depthLegal_reset.same ⟨rfl, rfl, rfl⟩⟩
  | badFrame p candidate => exact ⟨_, rfl, h.same (.ite (fun _ => r.setPort rfl) fun _ => r)⟩
  | unknownKind p kind tag => exact ⟨_, rfl, (h.hear p).same ((SameDepth.refl _).setPort rfl)⟩
  | setScaler | setDepthCheck | loadZone | dropZone | setWheelDemand | setRamp | setFallbackSpeed | clearJam
  | setRecovery | setSteerMode | setTrimManual | setSteerGains | setPlate | clearPlate | setPumpDemand
  | setTransport | setPortTimeout | ackEvents | setEventEnables | setAlertLine | setMarkWidth =>
    exact ⟨_, rfl, h.post⟩
  | queryMeasurements | queryDepth | queryDemand | queryWheels | queryRecovery | querySteering | queryPlates
  | querySurvey | queryStatus | queryEvents => exact ⟨_, rfl, h.receive_same fun t => (SameDepth.refl t).reply⟩
  | queryZone =>
    exact ⟨_, rfl, h.receive_same fun t => .ite (fun _ => (SameDepth.refl t).reply) fun _ =>
      .reply (.ite (fun _ => .frame (.refl t) rfl rfl rfl) fun _ => .refl t)⟩
  | queryPort =>
    refine ⟨_, rfl, h.receive_same fun t => ?_⟩
    split
    · exact (SameDepth.refl t).reply
    · exact .reply (.ite (fun _ => .frame (.refl t) rfl rfl rfl) fun _ => .refl t)
  | queryCheck =>
    exact ⟨_, rfl, h.receive_same fun t => .reply (.ite (fun _ => .frame (.refl t) rfl rfl rfl) fun _ => .refl t)⟩
  | queryReturn =>
    exact ⟨_, rfl, h.receive_same fun t => .reply (.ite (fun _ => .refl t) fun _ => .frame (.refl t) rfl rfl rfl)⟩
  | reportRopeCount =>
    exact ⟨_, rfl, h.receive fun _ ht => (ht.reportCount _).same (SameDepth.refl _).reply⟩
  | setDatum p tag d =>
    refine ⟨_, rfl, h.receive fun _ ht => ?_⟩
    split
    · exact ht.same (SameDepth.refl _).reply
    · next hd => exact (ht.takeDatum (datum_le_maxDepth hd)).same (SameDepth.refl _).reply
  | halt =>
    refine ⟨_, rfl, h.receive_same fun t => .reply ?_⟩
    have hw : SameDepth t (haltWheels t) := (SameDepth.refl t).frame (by simp) (by simp) (by simp)
    exact .ite (fun _ => hw.releaseHead) fun _ => hw
  | releaseHalt =>
    exact ⟨_, rfl, h.receive_same fun t => .ite (fun _ => (SameDepth.refl t).reply) fun _ =>
      .reply (.handWheels (.frame (.refl t) rfl rfl rfl))⟩
  | surveyClaim =>
    exact ⟨_, rfl, h.receive_same fun t => .ite (fun _ => .reply (.frame (.refl t) rfl rfl rfl)) fun _ =>
      (SameDepth.refl t).reply⟩
  | surveyRelease =>
    refine ⟨_, rfl, h.receive_same fun t => ?_⟩
    split
    · exact (SameDepth.refl t).reply
    · exact .reply (.frame (.refl t) rfl rfl rfl)
  | surveyConfig | surveyClear | surveySetPointer =>
    exact ⟨_, rfl, h.runRequest fun t => .frame (.refl t) rfl rfl rfl⟩
  | surveyStart =>
    exact ⟨_, rfl, h.runRequest fun t => .frame (.refl t) (by simp [startSurvey]) (by simp [startSurvey])
      (by simp [startSurvey])⟩
  | surveyStop => exact ⟨_, rfl, h.runRequest fun t => (SameDepth.refl t).stopSurvey⟩
  | surveyCheck => exact ⟨_, rfl, h.runRequest fun t => (SameDepth.refl t).startCheck⟩
  | surveyWindow =>
    exact ⟨_, rfl, h.receive_same fun t => .ite (fun _ => .reply (.setPort (.refl t) rfl)) fun _ =>
      (SameDepth.refl t).reply⟩
  | readNext =>
    refine ⟨_, rfl, h.receive_same fun t => ?_⟩
    dsimp only
    split
    · exact .reply (.setPort (.refl t) rfl)
    · exact (SameDepth.refl t).reply
  | setPlantCeiling => exact ⟨_, rfl, h.receive_same fun t => (SameDepth.refl t).takeCeiling.reply⟩
  | reportDensity p =>
    refine ⟨_, rfl, h.receive fun hp ht => ?_⟩
    dsimp only
    split
    · have hp : p = .plant := by simpa [permitted] using hp
      subst hp
      have hl : (hear .plant s).pi.ports.plant.link = .active := by rw [hear_pi]; rfl
      exact (ht.takeDensity hl ..).same (SameDepth.refl _).reply
    · exact ht.same (SameDepth.refl _).reply
  | resetReturn =>
    exact ⟨_, rfl, h.receive_same fun t => .ite (fun _ => (SameDepth.refl t).reply) fun _ =>
      (SameDepth.refl t).resetReturn.reply⟩
  | headRestart => exact ⟨_, rfl, h.receive fun _ ht => (ht.same (SameDepth.refl _).reply).restartHub⟩
  | testInject =>
    refine ⟨_, rfl, h.receive_same fun t => ?_⟩
    split
    · exact (SameDepth.refl t).reply
    · exact .ite (fun _ => .reply (.setPort (.refl t) rfl)) fun _ => (SameDepth.refl t).reply
  | postedHeadApply =>
    refine ⟨_, rfl, h.same ?_⟩
    split
    · exact r
    · exact .ite (fun _ => r) fun _ => r.drainList
  | holdTimerExpiry =>
    refine ⟨_, rfl, h.same ?_⟩
    split
    · exact r.recordRefusal.drainList
    · exact r
  | sampleSlot =>
    refine ⟨_, rfl, h.same ?_⟩
    split
    · exact r.takeInvalid
    · exact r.takeInvalid
    · exact r.takeInvalid
    · exact r.takeValid
  | sensorLost => exact ⟨_, rfl, h.same (.ite (fun _ => .loseSensor (r.frame rfl rfl rfl)) fun _ => r)⟩
  | tachGateEnd => exact ⟨_, rfl, h.same (.judgeGate (r.frame rfl rfl rfl))⟩
  | flowGateEnd => exact ⟨_, rfl, h.same (.judgeFlow (r.frame rfl rfl rfl))⟩
  | governorUpdate => exact ⟨_, rfl, h.same r.governorStep⟩
  | headPressureSample => exact ⟨_, rfl, h.takeHeadPressure _⟩
  | plateSample => exact ⟨_, rfl, h.same r.plateStep⟩
  | snapshotIntervalExpiry =>
    refine ⟨_, rfl, ?_⟩
    have hs : DepthLegal { s with dr := { s.dr with snapshotLeft := 5000 } } := h.same ⟨rfl, rfl, rfl⟩
    dsimp only
    split
    · next hv => exact hs.pushSnapshot hv
    · exact hs
  | stallTimerExpiry =>
    exact ⟨_, rfl, h.same (.ite (fun _ => r.frame (by simp) (by simp) (by simp)) fun _ => r)⟩
  | tachFault => exact ⟨_, rfl, h.same (.ite (fun _ => r.frame (by simp) (by simp) (by simp)) fun _ => r)⟩
  | depthDisagree => exact h.depthDisagree
  | disagreeClear => exact h.disagreeClear
  | phaseTimerExpiry =>
    refine ⟨_, rfl, h.same ?_⟩
    (repeat' split)
    · exact r
    · exact r.frame rfl rfl rfl
    · exact r.endRecovered
    · exact r
  | burstStallTimerExpiry =>
    refine ⟨_, rfl, h.same ?_⟩
    split
    · exact r
    · exact .ite (fun _ => r.failBurst) fun _ => r
  | settleTimerExpiry => exact ⟨_, rfl, h.same (.ite (fun _ => .releaseHead (r.frame rfl rfl rfl)) fun _ => r)⟩
  | moveTimerExpiry => exact ⟨_, rfl, h.same (.ite (fun _ => .releaseHead (r.frame rfl rfl rfl)) fun _ => r)⟩
  | primingTimerExpiry | starvationCountExpiry =>
    exact ⟨_, rfl, h.same (.ite (fun _ => .changeReturn (r.frame rfl rfl rfl)) fun _ => r)⟩
  | plantReadyRise => exact ⟨_, rfl, h.same (.ite (fun _ => r) fun _ => .takeRise (r.frame rfl rfl rfl))⟩
  | plantReadyFall => exact ⟨_, rfl, h.same (.ite (fun _ => .takeFall (r.frame rfl rfl rfl)) fun _ => r)⟩
  | silenceTimerExpiry p => exact h.silence p
  | startUpTimerExpiry => exact ⟨_, rfl, h.same (.ite (fun _ => r.frame rfl rfl rfl) fun _ => r)⟩
  | widthTimerExpiry => exact ⟨_, rfl, h.same (r.frame rfl rfl rfl)⟩

/-- Settles O21: a millisecond leaves the depth as it was, and every command that changes it keeps it consistent. -/
theorem depthLegalKept : Obligations.DepthLegalKept := by
  intro s t hs h
  unfold step at h
  split at h
  · cases h; exact hs.same (SameDepth.tick s)
  · next c rest _ =>
    have hr : DepthLegal { s with pending := rest } := hs.same ⟨rfl, rfl, rfl⟩
    obtain ⟨u, hu, hk⟩ := exec_depthLegal c hr
    cases hu.symm.trans h
    exact hk

end Sys2Proof.Machine
end

section
/-! SUPPORT. The state after reset (O12) and the millisecond of an idle step (O2). -/

namespace Sys2Proof.Machine

/-- Settles O12: each invariant, decided on the state of R2 to R201 as reset gives it. -/
theorem resetMeetsInvariants : Obligations.ResetMeetsInvariants := by
  have hmode : ModeFollows State.reset := rfl
  have hplates : PlatesLegal State.reset := by decide
  have hwheels : WheelsLegal State.reset := by decide
  have hreferences : ReferencesLegal State.reset := by decide
  have hrecovery : RecoveryLegal State.reset := by decide
  have hzones : ZonesLegal State.reset := by decide
  have hreturn : ReturnLegal State.reset := by decide
  have hfeed : FeedPublished State.reset := by decide
  have hheads : HeadsHeld State.reset := by decide
  have hsurvey : SurveyLegal State.reset := by decide
  have hmeasurements : MeasurementsLegal State.reset := by decide
  have hports : PortsLegal State.reset := by decide
  have hevents : EventsLegal State.reset := by decide
  exact ⟨hmode, hplates, hwheels, hreferences, hrecovery, hzones, hreturn, hfeed, depthLegal_reset, hheads, hsurvey,
    hmeasurements, hports, hevents⟩

/-! ## One millisecond (log entry 1) -/

theorem mem_expiry {c i : Instr} {t : Option Nat} : c ∈ expiry t i ↔ c = i ∧ t = some 0 := by
  unfold expiry
  split <;> simp_all

theorem expiry_sublist (t : Option Nat) (i : Instr) : (expiry t i).Sublist [i] := by
  unfold expiry
  split <;> simp

/-- The commands of the timers in the order of log entry 1. -/
def expiryOrder : List Instr :=
  [.startUpTimerExpiry, .widthTimerExpiry, .primingTimerExpiry, .snapshotIntervalExpiry, .holdTimerExpiry .cabin,
   .holdTimerExpiry .plant, .holdTimerExpiry .hoist, .moveTimerExpiry .n1, .moveTimerExpiry .n2, .moveTimerExpiry .s1,
   .moveTimerExpiry .s2, .silenceTimerExpiry .cabin, .silenceTimerExpiry .plant, .silenceTimerExpiry .hoist]

theorem ite_singleton_sublist (c : Prop) [Decidable c] (i : Instr) : (if c then [i] else []).Sublist [i] := by
  split <;> simp

/-- Each expiry that joins the queue joins it once, in that order. -/
theorem expired_sublist (s : State) : (expired s).Sublist expiryOrder := by
  unfold expired
  exact (((((((((((((ite_singleton_sublist ..).append (expiry_sublist ..)).append (expiry_sublist ..)).append
    (ite_singleton_sublist ..)).append (expiry_sublist ..)).append (expiry_sublist ..)).append
    (expiry_sublist ..)).append (expiry_sublist ..)).append (expiry_sublist ..)).append (expiry_sublist ..)).append
    (expiry_sublist ..)).append (expiry_sublist ..)).append (expiry_sublist ..)).append (expiry_sublist ..)

/-- Every command of a timer is one of the kinds that O2 names. -/
theorem expiryOrder_kinds {c : Instr} (h : c ∈ expiryOrder) :
    c ∈ [Instr.startUpTimerExpiry, .widthTimerExpiry, .primingTimerExpiry, .snapshotIntervalExpiry] ∨
      (∃ p, c = .holdTimerExpiry p ∨ c = .silenceTimerExpiry p) ∨ ∃ q, c = .moveTimerExpiry q := by
  simp only [expiryOrder, List.mem_cons, List.not_mem_nil, or_false] at h
  rcases h with rfl | rfl | rfl | rfl | rfl | rfl | rfl | rfl | rfl | rfl | rfl | rfl | rfl | rfl <;> simp

section
variable {s : State}

theorem silenceTimerExpiry_mem_expired {p : Port} :
    .silenceTimerExpiry p ∈ expired s ↔ (s.port p).silence = some 0 := by
  cases p <;> simp [expired, mem_expiry, State.port, PerPort.get]

theorem holdTimerExpiry_mem_expired {p : Port} : .holdTimerExpiry p ∈ expired s ↔ (s.port p).hold = some 0 := by
  cases p <;> simp [expired, mem_expiry, State.port, PerPort.get]

theorem moveTimerExpiry_mem_expired {q : PlateId} :
    .moveTimerExpiry q ∈ expired s ↔ (s.psv.get q).moveTimer = some 0 := by
  cases q <;> simp [expired, mem_expiry, PerPlate.get]

/-- The timers that the hub has one of. -/
theorem hubTimers_mem_expired :
    (.primingTimerExpiry ∈ expired s ↔ s.rc.primingTimer = some 0) ∧
    (.snapshotIntervalExpiry ∈ expired s ↔ s.dr.snapshotLeft = 0) ∧
    (.widthTimerExpiry ∈ expired s ↔ s.eu.mark = some 0) ∧
    (.startUpTimerExpiry ∈ expired s ↔ s.pi.hub = .starting ∧ s.pi.startUpLeft = 0) := by
  simp [expired, mem_expiry]

end

/-- Settles O2: the timers lose 1 ms, and the queue is `expired` of the state they leave, some of `expiryOrder` in that
order. -/
theorem idleMillisecond : Obligations.IdleMillisecond := by
  intro s hs
  have hstep : step s = .next (tick s) := by unfold step; rw [hs]
  have hsub : (tick s).pending.Sublist expiryOrder := expired_sublist (tickTimers s)
  have hpending : (tick s).pending = expired (tick s) := rfl
  refine ⟨tick s, hstep, ?_, fun q => by cases q <;> rfl, fun p => by cases p <;> rfl, rfl, rfl, hpending,
    hsub.nodup (by decide), fun c hc => expiryOrder_kinds (hsub.subset hc), ?_⟩
  · simp [tick, tickTimers, tickRc, runDown]
  · rw [hpending]
    exact ⟨fun _ => silenceTimerExpiry_mem_expired, fun _ => holdTimerExpiry_mem_expired,
      fun _ => moveTimerExpiry_mem_expired, hubTimers_mem_expired⟩

end Sys2Proof.Machine
end

section
/-! SUPPORT. The settings that a request replaces when each value is in its range (O30). -/

namespace Sys2Proof.Machine

section
variable {k : Kind} {p : Port} {tag : Byte} {d : List Byte} {make : State → Posted × Bool} {r : Posted} {c : Bool}
  {s a t : State} {code : Status}

/-- R185: a request posted at a clear queue that its block judges by one condition. -/
theorem post_judged {ok : Prop} [Decidable ok] (hq : QueueClear p s) (hp : permitted k p = true)
    (hl : d.length = payloadLength k) (hm : make (hear p s) = (r, c))
    (ha : a = answered k p tag (if c then .takenClamped else .taken) [] s) (hn : held r a = false)
    (ht : applyPosted p r a = if ok then .ok t else .error code)
    (hport : (t.port p).queue = (a.port p).queue ∧ (t.port p).hold = (a.port p).hold) :
    post k p tag d make s = if ok then t else refusedAt r.kind p tag code a := by
  split
  · next h =>
    rw [if_pos h] at ht
    obtain ⟨he, hh⟩ := answered_clear hq k tag (if c then .takenClamped else .taken) []
    rw [← ha] at he hh
    rw [post_clear hq hp hl, hm, ← ha, drain_taken hn ht, setQueue_clear]
    · exact hport.1.trans he
    · exact hport.2.trans hh
  · next h =>
    rw [if_neg h] at ht
    exact post_refused hq hp hl hm ha hn ht

end

theorem inRange_iff {v lo hi : Nat} : inRange v lo hi = true ↔ lo ≤ v ∧ v ≤ hi := by simp [inRange]

theorem recoveryOk_iff (k : RecoverySettings) : recoveryOk k = true ↔
    (1 ≤ k.bursts ∧ k.bursts ≤ 8) ∧ (20 ≤ k.reverseSpeed ∧ k.reverseSpeed ≤ 100) ∧
    (500 ≤ k.reverseTime ∧ k.reverseTime ≤ 5000) ∧ (500 ≤ k.restTime ∧ k.restTime ≤ 5000) ∧
    (20 ≤ k.probeSpeed ∧ k.probeSpeed ≤ 150) ∧ (1000 ≤ k.probeTime ∧ k.probeTime ≤ 10000) := by
  simp only [recoveryOk, Bool.and_eq_true, inRange_iff, and_assoc]

/-- R188. -/
theorem timeoutOk_iff (p : Port) (ms : Nat) : timeoutOk p ms = true ↔
    (p = .cabin ∧ 500 ≤ ms ∧ ms ≤ 10000) ∨ (p = .plant ∧ 1000 ≤ ms ∧ ms ≤ 60000) ∨
    (p = .hoist ∧ 200 ≤ ms ∧ ms ≤ 5000) := by
  cases p <;> simp [timeoutOk, inRange_iff]

section
variable {p : Port} {a : State} {v w : Nat}

theorem applySetDepthCheck_eq : applySetDepthCheck v w a =
    if v ≤ 50000 ∧ 1000 ≤ w ∧ w ≤ 50000 then .ok { a with dr := { a.dr with offset := v, band := w } }
    else .error .outOfRange :=
  if_congr (by simp [inRange_iff]) rfl rfl

theorem applySetFallbackSpeed_eq : applySetFallbackSpeed v a =
    if v ≤ 150 then .ok { a with wg := { a.wg with
      fallback := v, fallbackFlag := decide (a.rc.state ≠ .pumping) && decide (v < a.wg.zoneCeiling) } }
    else .error .outOfRange :=
  if_congr (by simp [inRange_iff]) (by simp [judgeFallback_eq, fallbackNow, bne, beq_eq_decide]) rfl

theorem applySetPortTimeout_eq {n ms : Nat} (h : portNamed n = some p) : applySetPortTimeout n ms a =
    if timeoutOk p ms then .ok (a.setPort p { a.port p with timeout := ms }) else .error .outOfRange := by
  simp [applySetPortTimeout, h]

end

/-- Settles O30: each request is posted at a clear queue, and its block judges it by the ranges of its rule. -/
theorem configurationSet : Obligations.ConfigurationSet := by
  intro tag d s hq
  refine ⟨?_, ?_, ?_, ?_, ?_⟩
  · rintro hl a ha
    exact congrArg _ (post_judged (r := .setDepthCheck (natAt d 0) (natAt d 4)) (c := false) hq rfl hl rfl ha rfl
      applySetDepthCheck_eq ⟨rfl, rfl⟩)
  · rintro hl a ha
    have hr : a.rc.state = s.rc.state := by simp [ha]
    have hw : a.wg = s.wg := by simp [ha]
    rw [← hr, ← hw]
    exact congrArg _ (post_judged (r := .setFallbackSpeed (natAt d 0)) (c := false) hq rfl hl rfl ha rfl
      applySetFallbackSpeed_eq ⟨rfl, rfl⟩)
  · rintro hl hr a ha
    have hn : held (.setRecovery (recoveryAt d)) a = false := by simp [held, ha, hr]
    exact congrArg _ (post_judged (r := .setRecovery (recoveryAt d)) (c := false) hq rfl hl rfl ha hn
      (if_congr (recoveryOk_iff (recoveryAt d)) rfl rfl) ⟨rfl, rfl⟩)
  · rintro hl a ha
    refine ⟨fun p hp => ?_, fun hn => ?_⟩
    · refine congrArg _ (post_judged (r := .setPortTimeout (nameAt d 0) (natAt d 1)) (c := false) hq rfl hl rfl ha rfl
        ((applySetPortTimeout_eq hp).trans (if_congr (timeoutOk_iff p _) rfl rfl)) ?_)
      cases p <;> exact ⟨rfl, rfl⟩
    · refine congrArg _ (post_refused (r := .setPortTimeout (nameAt d 0) (natAt d 1)) (c := false) hq rfl hl rfl ha rfl
        ?_)
      simp [applyPosted, applySetPortTimeout, nameAt, portNamed_eq_none hn]
  · rintro hl a ha
    exact congrArg _ (post_judged (r := .setMarkWidth (natAt d 0)) (c := false) hq rfl hl rfl ha rfl
      (if_congr inRange_iff rfl rfl) ⟨rfl, rfl⟩)

end Sys2Proof.Machine
end

section
/-! SUPPORT. The measured feed rate and what the transport floor follows from it (O26). -/

namespace Sys2Proof.Machine

/-! ## The feed rate of a history (R28) -/

theorem measuredFeed_eq {h : List Nat} {oldest newest : Nat} (hl : 2 ≤ h.length) (ho : h.head? = some oldest)
    (hn : h.getLast? = some newest) : measuredFeed h = (newest - oldest) * 12 / (10 * (h.length - 1)) := by
  match h, hl with
  | first :: next :: rest, _ =>
    rw [List.getLast?_cons_cons] at hn
    cases ho
    simp [measuredFeed, hn]

theorem measuredFeed_short {h : List Nat} (hl : h.length < 2) : measuredFeed h = 0 := by
  match h, hl with
  | [], _ => rfl
  | [_], _ => rfl

theorem head_le_getLast {h : List Nat} {oldest newest : Nat} (hp : h.Pairwise (· ≤ ·)) (ho : h.head? = some oldest)
    (hn : h.getLast? = some newest) : oldest ≤ newest := by
  cases h with
  | nil => cases ho
  | cons first rest =>
    cases ho
    rcases List.mem_cons.1 (List.mem_of_getLast? hn) with rfl | hm
    · exact le_refl _
    · exact (List.pairwise_cons.1 hp).1 _ hm

/-! ## The floor (R159 to R161) -/

theorem ceilDiv_eq (n d : Nat) : ceilDiv n d = (n + (d - 1)) / d := by
  unfold ceilDiv
  rcases Nat.eq_zero_or_pos d with rfl | hd
  · simp
  · rw [Nat.add_sub_assoc hd]

theorem effectiveDemand_eq (qc floor qp : Nat) :
    effectiveDemand qc floor qp = if qc = 0 then 0 else min (max qc floor) qp := by
  unfold effectiveDemand
  split <;> split <;> omega

theorem pumpOn_iff (st : ReturnState) : pumpOn st = true ↔ st = .priming ∨ st = .pumping ∨ st = .starved := by
  cases st <;> simp [pumpOn]

/-- R159 to R161: the floor, Qeff, the pump command and TRANSPORT_SHORT by their formulas. -/
theorem flooredRc_formulas (f : Nat) (r : Rc) {u : Rc} (hu : u = flooredRc f r) :
    u = { r with qSettle := u.qSettle, qConc := u.qConc, qFloor := u.qFloor, qEff := u.qEff, pump := u.pump
                 short := u.short } ∧
    u.qSettle = (r.transport.velocity * hoseArea r.transport * 36 + 9999) / 10000 ∧
    u.qConc = (6 * f * r.transport.cutLength * r.transport.thickness + (1000 * r.transport.c100 - 1)) /
      (1000 * r.transport.c100) ∧
    u.qFloor = max u.qSettle u.qConc ∧ u.qEff = (if r.qc = 0 then 0 else min (max r.qc u.qFloor) r.qp) ∧
    u.pump = (if r.state = .priming ∨ r.state = .pumping ∨ r.state = .starved then u.qEff else 0) ∧
    (u.short = true ↔ 0 < r.qc ∧ r.qp < u.qFloor) := by
  subst hu
  exact ⟨rfl, ceilDiv_eq .., ceilDiv_eq .., rfl, effectiveDemand_eq .., if_congr (pumpOn_iff _) rfl rfl,
    by simp [flooredRc]⟩

/-! ## The snapshot (R27, R28) -/

theorem exec_snapshotIntervalExpiry_valid {s : State} {h : List Nat} (hv : s.dr.state = .valid)
    (hh : h = pushToe s.dr.toe s.dr.history) :
    exec .snapshotIntervalExpiry s = .next
      { s with dr := { s.dr with snapshotLeft := 5000, history := h, fMeas := measuredFeed h }
               rc := if measuredFeed h = s.dr.fMeas then s.rc else flooredRc (measuredFeed h) s.rc
               eu := if measuredFeed h = s.dr.fMeas then s.eu
                     else shortRaised s.rc (flooredRc (measuredFeed h) s.rc) s.eu } := by
  subst hh
  exact congrArg Host.Outcome.next ((if_pos hv).trans (setFeedRate_eq ..))

/-- Settles O26: `setFeedRate_eq` hands a changed feed rate to RC, whose floor is `flooredRc`. -/
theorem feedRate : Obligations.FeedRate := by
  refine ⟨fun h oldest newest => measuredFeed_eq, fun h => measuredFeed_short, fun s oldest newest hs => ?_,
    fun s hv => congrArg _ (if_neg hv), fun s hv => ?_, fun s => ?_, fun f r u => flooredRc_formulas f r⟩
  · obtain ⟨_, _, _, _, _, _, hpw, _⟩ := hs
    exact head_le_getLast hpw
  · refine ⟨_, _, exec_snapshotIntervalExpiry_valid hv rfl, pushToe_eq .., ?_⟩
    by_cases hf : measuredFeed (pushToe s.dr.toe s.dr.history) = s.dr.fMeas
    · simp only [if_pos hf]
    · simp only [if_neg hf]
  · rw [emptyHistory, setFeedRate_eq]
    simp only [eq_comm]

end Sys2Proof.Machine
end

section
/-! SUPPORT. The plant's inputs: the ceiling and the densities (O49). -/

namespace Sys2Proof.Machine

/-- R161. -/
theorem rejudgeShort_eq (s : State) :
    rejudgeShort s = { s with rc := { s.rc with short := shortHolds s.rc }
                              eu := if shortHolds s.rc && !s.rc.short then latchAll .transportShort s.eu else s.eu } := by
  unfold rejudgeShort
  dsimp only
  split
  · exact raise_eq (by decide) _
  · rfl

/-! ## The ceiling (R156, R164, R167) -/

/-- R156, R160, R161, R171: a ceiling before it is taken into the return state. -/
def ceilingTaken (qp : Nat) (s : State) : State :=
  recomputeFeed (rejudgeShort { s with rc := recomputeDemand { s.rc with qp := qp } })

theorem takeCeiling_eq (qp : Nat) (s : State) : takeCeiling qp s = ceilingIntoState (ceilingTaken qp s) := rfl

theorem ceilingTaken_eq (qp : Nat) (s : State) :
    ceilingTaken qp s = { s with
      rc := { s.rc with
        qp := qp, qEff := effectiveDemand s.rc.qc s.rc.qFloor qp
        short := decide (0 < s.rc.qc) && decide (qp < s.rc.qFloor), feedLimit := feedNow (ceilingTaken qp s)
        pump := if pumpOn s.rc.state then effectiveDemand s.rc.qc s.rc.qFloor qp else 0 }
      eu := if (decide (0 < s.rc.qc) && decide (qp < s.rc.qFloor)) && !s.rc.short then latchAll .transportShort s.eu
            else s.eu } := by
  have he := rejudgeShort_eq { s with rc := recomputeDemand { s.rc with qp := qp } }
  unfold ceilingTaken
  rw [feedNow_recomputeFeed, recomputeFeed_eq]
  generalize feedNow _ = f
  rw [he]
  rfl

section
variable {s : State}

/-- R167: a ceiling of 0 stops a return that primes or pumps. -/
theorem ceilingIntoState_stops (h : s.rc.qp = 0 ∧ (s.rc.state = .priming ∨ s.rc.state = .pumping)) :
    ceilingIntoState s =
      changeReturn .waitingPlant { s with rc := { s.rc with primingTimer := none, starvation := 0 } } := by
  obtain ⟨h0, hs | hs⟩ := h <;> simp [ceilingIntoState, hs, h0]

/-- R164: a return that waits for the plant starts. -/
theorem ceilingIntoState_starts (h : s.rc.state = .waitingPlant ∧ s.rc.ready = true ∧ 0 < s.rc.qp) :
    ceilingIntoState s = startPriming s := by
  obtain ⟨hs, hr, h0⟩ := h
  simp [ceilingIntoState, hs, hr, h0]

theorem ceilingIntoState_still (h : ¬ (s.rc.qp = 0 ∧ (s.rc.state = .priming ∨ s.rc.state = .pumping)))
    (h' : ¬ (s.rc.state = .waitingPlant ∧ s.rc.ready = true ∧ 0 < s.rc.qp)) : ceilingIntoState s = s := by
  unfold ceilingIntoState
  cases hs : s.rc.state <;> simp_all

/-- R160, R162: a change of return state that raises no event. -/
theorem changeReturn_quiet {st : ReturnState} {t : State} (h : st = .waitingPlant ∨ st = .priming)
    (ht : t = changeReturn st s) :
    t = { s with rc := { s.rc with state := st, pump := if pumpOn st then s.rc.qEff else 0, feedLimit := feedNow t }
                 wg := { s.wg with fallbackFlag := fallbackNow t } } := by
  subst ht
  rcases h with rfl | rfl <;> rfl

end

/-- R156: what a ceiling does, whole. -/
theorem takeCeiling_closed (qp : Nat) {s t : State} (ht : t = takeCeiling qp s) :
    t = { s with
      rc := { s.rc with
        qp := qp, qEff := if s.rc.qc = 0 then 0 else min (max s.rc.qc s.rc.qFloor) qp
        short := decide (0 < s.rc.qc) && decide (qp < s.rc.qFloor), feedLimit := feedNow t
        state :=
          if qp = 0 ∧ (s.rc.state = .priming ∨ s.rc.state = .pumping) then .waitingPlant
          else if s.rc.state = .waitingPlant ∧ s.rc.ready = true ∧ 0 < qp then .priming else s.rc.state
        pump := if t.rc.state = .priming ∨ t.rc.state = .pumping ∨ t.rc.state = .starved then t.rc.qEff else 0
        primingTimer := if t.rc.state = s.rc.state then s.rc.primingTimer
                        else if t.rc.state = .priming then some s.rc.transport.primingTime else none
        starvation := if t.rc.state = s.rc.state then s.rc.starvation else 0 }
      wg := { s.wg with fallbackFlag := if t.rc.state = s.rc.state then s.wg.fallbackFlag else fallbackNow t }
      eu := if t.rc.short && !s.rc.short then latchAll .transportShort s.eu else s.eu } := by
  have hy := ceilingTaken_eq qp s
  rw [takeCeiling_eq] at ht
  generalize ceilingTaken qp s = y at ht hy
  have hyrc := congrArg State.rc hy
  have hqp : y.rc.qp = qp := by rw [hyrc]
  have hst : y.rc.state = s.rc.state := by rw [hyrc]
  have hrd : y.rc.ready = s.rc.ready := by rw [hyrc]
  have hsh : y.rc.short = (decide (0 < s.rc.qc) && decide (qp < s.rc.qFloor)) := by rw [hyrc]
  have hq : y.rc.qEff = effectiveDemand s.rc.qc s.rc.qFloor qp := by rw [hyrc]
  simp only [← effectiveDemand_eq, ← pumpOn_iff]
  by_cases hstop : qp = 0 ∧ (s.rc.state = .priming ∨ s.rc.state = .pumping)
  · have h1 := changeReturn_quiet (.inl rfl) (ht.trans (ceilingIntoState_stops (by rw [hqp, hst]; exact hstop)))
    have htrc := congrArg State.rc h1
    have hne : ReturnState.waitingPlant ≠ s.rc.state := by rcases hstop.2 with h | h <;> rw [h] <;> decide
    have hts : t.rc.state = .waitingPlant := by rw [htrc]
    have htsh : t.rc.short = y.rc.short := by rw [htrc]
    rw [if_pos hstop, hts, if_neg hne, if_neg hne, if_neg hne, htsh, hsh]
    conv_lhs => rw [h1, hy]
    rfl
  by_cases hstart : s.rc.state = .waitingPlant ∧ s.rc.ready = true ∧ 0 < qp
  · have h1 := changeReturn_quiet (.inr rfl) (ht.trans (ceilingIntoState_starts (by rw [hqp, hst, hrd]; exact hstart)))
    have htrc := congrArg State.rc h1
    have hne : ReturnState.priming ≠ s.rc.state := by rw [hstart.1]; decide
    have hts : t.rc.state = .priming := by rw [htrc]
    have htsh : t.rc.short = y.rc.short := by rw [htrc]
    have htq : t.rc.qEff = y.rc.qEff := by rw [htrc]
    rw [if_neg hstop, if_pos hstart, hts, if_neg hne, if_neg hne, if_neg hne, htsh, hsh, htq, hq]
    conv_lhs => rw [h1, hy]
    rfl
  · have h1 := ht.trans (ceilingIntoState_still (by rwa [hqp, hst]) (by rwa [hqp, hst, hrd]))
    rw [h1, if_neg hstop, if_neg hstart, hst, if_pos rfl, if_pos rfl, if_pos rfl, hsh, hq]
    exact hy

/-- R187: a frame of the plant leaves the return, as a frame of the hoist does. -/
theorem hear_rc_of_ne_cabin {p : Port} (hp : p ≠ .cabin) (s : State) : (hear p s).rc = s.rc := by
  rw [hear_rc_eq, if_neg fun h => hp h.1]

/-! ## The densities (R157) -/

theorem exec_reportDensity {tag : Byte} {d : List Byte} {s : State} (hr : s.pi.hub = .ready) (hl : d.length = 8) :
    exec (.reportDensity .plant tag d) s = .next
      (if (1000 ≤ natAt d 0 ∧ natAt d 0 ≤ 1600) ∧ 1000 ≤ natAt d 4 ∧ natAt d 4 ≤ 1600 then
        reply .reportDensity .plant tag .done [] (takeDensity (natAt d 0) (natAt d 4) (hear .plant s))
      else answered .reportDensity .plant tag .outOfRange [] s) := by
  refine congrArg _ ((receive_ready rfl hl hr _).trans ?_)
  simp only [Bool.and_eq_true, inRange_iff, answered]

/-- Settles O49: a ceiling is `takeCeiling_closed` on the state that has heard the frame; the densities go to RC and to
DR, whose frame has left the port ACTIVE. -/
theorem plantInputs : Obligations.PlantInputs := by
  refine ⟨?_, ?_⟩
  · rintro tag d s _ _ hr hl rfl rfl
    have ht := takeCeiling_closed (min (natAt d 0) 7000) (s := hear .plant s) rfl
    obtain ⟨_, _, hwg, _, _, _, _, heu, _⟩ := hear_keeps .plant s
    rw [hear_rc_of_ne_cabin (by decide), hwg, heu] at ht
    refine ⟨_, congrArg _ ((receive_ready rfl hl hr _).trans ?_), ht⟩
    have hq : (takeCeiling (min (natAt d 0) 7000) (hear .plant s)).rc.qp = min (natAt d 0) 7000 := by rw [ht]
    simp only [ceilingBytes, hq]
  · rintro tag d s a _ _ hr hl rfl rfl
    refine ⟨fun h1 h2 h3 h4 ha => ⟨_, exec_reportDensity hr hl, ?_⟩, fun hout => ?_⟩
    · have hd : { s.dr with rho := natAt d 0, crossCheck := .comparing } =
          { (hear .plant s).dr with rho := natAt d 0, crossCheck := .comparing } := by rw [hear_dr_eq]
      rw [if_pos ⟨⟨h1, h2⟩, h3, h4⟩, ha, hd, ← hear_rc_of_ne_cabin (p := .plant) (by decide) s]
      rfl
    · rw [exec_reportDensity hr hl, if_neg (by omega)]

end Sys2Proof.Machine
end

section
/-! SUPPORT. What SU does not read: SLU, the plates and the return. A survey operation on a state with those replaced is the
operation on the state, with those replaced. -/

namespace Sys2Proof.Machine

/-- The blocks that SU neither reads nor writes, replaced. -/
def State.beside (u : Slu) (p : PerPlate Plate) (r : Rc) (s : State) : State := { s with slu := u, psv := p, rc := r }

section
variable (u : Slu) (p : PerPlate Plate) (r : Rc) (s : State)

@[simp] theorem beside_setSu (x : Su) : (s.beside u p r).setSu x = (s.setSu x).beside u p r := rfl

@[simp] theorem beside_su : (s.beside u p r).su = s.su := rfl

@[simp] theorem beside_dr : (s.beside u p r).dr = s.dr := rfl

@[simp] theorem beside_mfe : (s.beside u p r).mfe = s.mfe := rfl

@[simp] theorem beside_eu : (s.beside u p r).eu = s.eu := rfl

@[simp] theorem beside_accumulateOk : accumulateOk (s.beside u p r) = accumulateOk s := rfl

@[simp] theorem beside_checkOk : checkOk (s.beside u p r) = checkOk s := rfl

@[simp] theorem beside_aboveTable : aboveTable (s.beside u p r) = aboveTable s := rfl

@[simp] theorem beside_raise (e : Event) : raise e (s.beside u p r) = (raise e s).beside u p r := rfl

@[simp] theorem beside_refreshLive : refreshLive (s.beside u p r) = (refreshLive s).beside u p r := by
  simp only [refreshLive_eq]; rfl

@[simp] theorem beside_judgeAccumulate : judgeAccumulate (s.beside u p r) = (judgeAccumulate s).beside u p r := by
  simp only [judgeAccumulate_eq]; rfl

@[simp] theorem beside_judgeCheck : judgeCheck (s.beside u p r) = (judgeCheck s).beside u p r := by
  unfold judgeCheck
  simp only [beside_su, beside_checkOk, beside_setSu]
  (repeat' split) <;> simp_all

@[simp] theorem beside_openSegment (top : Nat) :
    openSegment top (s.beside u p r) = (openSegment top s).beside u p r := rfl

@[simp] theorem beside_writeRecord (g : Segment) (bottom : Nat) (short : Bool) :
    writeRecord g bottom short (s.beside u p r) = (writeRecord g bottom short s).beside u p r := rfl

@[simp] theorem beside_fillTable : fillTable (s.beside u p r) = (fillTable s).beside u p r := rfl

@[simp] theorem beside_closePassed (n : Nat) : closePassed n (s.beside u p r) = (closePassed n s).beside u p r := by
  induction n generalizing s with
  | zero => rfl
  | succ n ih =>
    unfold closePassed
    simp only [beside_su, beside_dr, beside_writeRecord, beside_fillTable, beside_openSegment, ih]
    (repeat' split) <;> simp_all

@[simp] theorem beside_judgeArming : judgeArming (s.beside u p r) = (judgeArming s).beside u p r := by
  by_cases h : s.su.nextTop ≤ s.dr.depth
  · have hb : (s.beside u p r).su.nextTop ≤ (s.beside u p r).dr.depth := h
    rw [judgeArming, if_pos hb, judgeArming, if_pos h, ← beside_refreshLive, ← beside_closePassed]
    rfl
  · have hb : ¬ (s.beside u p r).su.nextTop ≤ (s.beside u p r).dr.depth := h
    rw [judgeArming, if_neg hb, judgeArming, if_neg h]

@[simp] theorem beside_writeCheck (i : Nat) : writeCheck i (s.beside u p r) = (writeCheck i s).beside u p r := by
  unfold writeCheck
  simp only [beside_su, beside_setSu]
  split <;> simp_all

@[simp] theorem beside_endCheck : endCheck (s.beside u p r) = (endCheck s).beside u p r := rfl

@[simp] theorem beside_moveTarget (bound : Nat) :
    moveTarget bound (s.beside u p r) = (moveTarget bound s).beside u p r := by
  unfold moveTarget
  simp only [beside_su, beside_dr, beside_setSu, beside_aboveTable, beside_endCheck]
  split <;> simp_all

@[simp] theorem beside_advanceCheck : advanceCheck (s.beside u p r) = (advanceCheck s).beside u p r := by
  unfold advanceCheck
  simp only [beside_su, beside_dr, beside_writeCheck, beside_moveTarget]
  (repeat' split) <;> simp_all

@[simp] theorem beside_stopRun : stopRun (s.beside u p r) = (stopRun s).beside u p r := by
  unfold stopRun
  simp only [beside_su, beside_dr, beside_setSu, beside_writeRecord, beside_fillTable, beside_refreshLive]
  (repeat' split) <;> simp_all

@[simp] theorem beside_stopCheck : stopCheck (s.beside u p r) = (stopCheck s).beside u p r := by
  unfold stopCheck
  simp only [beside_su, beside_writeCheck, beside_endCheck]
  (repeat' split) <;> simp_all

/-- R127, R151. -/
@[simp] theorem beside_stopSurvey : stopSurvey (s.beside u p r) = (stopSurvey s).beside u p r := by
  unfold stopSurvey
  simp only [beside_su, beside_stopRun, beside_stopCheck]
  split <;> simp_all

/-- R22. -/
@[simp] theorem beside_surveyDepth : surveyDepth (s.beside u p r) = (surveyDepth s).beside u p r := by
  unfold surveyDepth
  simp only [beside_su, beside_dr, beside_setSu, beside_judgeArming, beside_judgeAccumulate, beside_closePassed,
    beside_advanceCheck, beside_judgeCheck]
  split <;> (try split) <;> simp only [beside_refreshLive]

end

end Sys2Proof.Machine
end

section
/-! SUPPORT. A depth update handed on (R22): ZT selects the zone, SU takes the update, SLU re-evaluates its mode and RC
publishes the feed limit. -/

namespace Sys2Proof.Machine

/-- R41, R43: the current zone re-selected, and its values handed on when it becomes another slot. -/
theorem selectZone_eq {x : Nat} {s z : State} (hz : z = selectZone x s) :
    z = { s with
      zt := { s.zt with current := zoneIndexAt s.zt.entries x, selectionDepth := x }
      wg := if z.zt.current = s.zt.current then s.wg else
        { s.wg with zoneCeiling := (zoneOf s.zt.entries z.zt.current).speedCeiling
                    zoneHold := (zoneOf s.zt.entries z.zt.current).holdPressure
                    zoneStall := (zoneOf s.zt.entries z.zt.current).stallPressure
                    fallbackFlag := fallbackNow z }
      rc := { s.rc with
        feedLimit := z.rc.feedLimit
        feedCeiling := if z.zt.current = s.zt.current then s.rc.feedCeiling
                       else (zoneOf s.zt.entries z.zt.current).feedCeiling }
      eu := if z.zt.current = s.zt.current then s.eu else latchAll .zoneChange s.eu } := by
  have hc : z.zt.current = zoneIndexAt s.zt.entries x := by
    rw [hz]; unfold selectZone; dsimp only; split <;> simp
  rw [hc]
  by_cases h : zoneIndexAt s.zt.entries x = s.zt.current
  · have hs : z = { s with zt := { s.zt with current := zoneIndexAt s.zt.entries x, selectionDepth := x } } :=
      hz.trans (if_pos h)
    simp only [if_pos h]
    rw [hs]
  · have hs : z = handZone (raise .zoneChange
        { s with zt := { s.zt with current := zoneIndexAt s.zt.entries x, selectionDepth := x } }) := hz.trans (if_neg h)
    simp only [if_neg h]
    rw [hs]
    rfl

/-- The actual mode follows from the depth, the sensor, the record and SLU itself. -/
theorem steeredSlu_congr {s t : State} (hd : s.dr = t.dr) (hm : s.mfe = t.mfe) (hr : s.sru = t.sru)
    (hl : s.slu = t.slu) : steeredSlu s = steeredSlu t := by
  unfold steeredSlu modeNow
  rw [hd, hm, hr, hl]

theorem surveyDepth_eq (s : State) : surveyDepth s = { s with su := (surveyDepth s).su, eu := (surveyDepth s).eu } := by
  obtain ⟨hm, hd, hz, hw, hr, hl, hv, hc, hi, hp, hf⟩ := surveyDepth_keeps s
  rw [← hm, ← hd, ← hz, ← hw, ← hr, ← hl, ← hv, ← hc, ← hi, ← hp, ← hf]

/-- What a depth update is once it has been handed on, but for the survey. -/
theorem handDepth_eq {s t : State} (ht : t = handDepth s) :
    t = { s with
      zt := { s.zt with current := zoneIndexAt s.zt.entries s.dr.depth, selectionDepth := s.dr.depth }
      wg := if t.zt.current = s.zt.current then s.wg else
        { s.wg with zoneCeiling := (zoneOf s.zt.entries t.zt.current).speedCeiling
                    zoneHold := (zoneOf s.zt.entries t.zt.current).holdPressure
                    zoneStall := (zoneOf s.zt.entries t.zt.current).stallPressure
                    fallbackFlag := fallbackNow t }
      rc := { s.rc with
        feedLimit := feedNow t
        feedCeiling := if t.zt.current = s.zt.current then s.rc.feedCeiling
                       else (zoneOf s.zt.entries t.zt.current).feedCeiling }
      su := t.su, slu := t.slu, psv := t.psv, eu := t.eu } ∧
    t.slu = steeredSlu { t with slu := s.slu } ∧ t.psv = handedPlates s.slu.commands t.slu.commands s.psv ∧
    ∀ e y, e = (if t.zt.current = s.zt.current then s.eu else latchAll .zoneChange s.eu) →
      y = { t with su := s.su, eu := e } → t.su = (surveyDepth y).su ∧ t.eu = (surveyDepth y).eu := by
  have hz := selectZone_eq (x := s.dr.depth) (s := s) rfl
  have hd : handDepth s = recomputeFeed (steered (surveyDepth (selectZone s.dr.depth s))) := by
    rw [handDepth, reevaluate_eq]
  generalize selectZone s.dr.depth s = z at hz hd
  have hsurvey := surveyDepth_eq z
  have htz : t = { z with
      su := (surveyDepth z).su, eu := (surveyDepth z).eu, slu := steeredSlu (surveyDepth z)
      psv := handedPlates s.slu.commands (steeredSlu (surveyDepth z)).commands s.psv
      rc := { z.rc with feedLimit := feedNow t } } := by
    have hf : feedNow t = feedNow (steered (surveyDepth z)) := by rw [ht, hd, feedNow_recomputeFeed]
    have hslu : (surveyDepth z).slu.commands = s.slu.commands := by rw [hsurvey, hz]
    have hpsv : (surveyDepth z).psv = s.psv := by rw [hsurvey, hz]
    rw [hf, ht, hd, recomputeFeed_eq, ← hslu, ← hpsv]
    generalize feedNow _ = f
    conv_lhs => rw [steered, hsurvey]
    rw [hsurvey]
  have hcur : t.zt.current = z.zt.current := by rw [htz]
  have hback : fallbackNow t = fallbackNow z := by rw [htz]; rfl
  have hsu : t.su = (surveyDepth z).su := by rw [htz]
  have heu : t.eu = (surveyDepth z).eu := by rw [htz]
  have hslu : t.slu = steeredSlu (surveyDepth z) := by rw [htz]
  have hpsv : t.psv = handedPlates s.slu.commands t.slu.commands s.psv := by rw [htz]
  rw [hcur, hback]
  refine ⟨?_, ?_, hpsv, ?_⟩
  · rw [hpsv, hsu, heu, hslu]
    conv_lhs => rw [htz]
    generalize surveyDepth z = w
    conv_lhs => rw [hz]
  · rw [hslu]
    refine steeredSlu_congr ?_ ?_ ?_ ?_ <;> rw [htz, hsurvey, hz]
  · rintro e y he hy
    have hzsu : z.su = s.su := by rw [hz]
    have hzeu : z.eu = e := (congrArg State.eu hz).trans he.symm
    have hbeside : ∀ a b u p r, t = { z with su := a, eu := b, slu := u, psv := p, rc := r } →
        { t with su := z.su, eu := z.eu } = z.beside t.slu t.psv t.rc := by
      rintro a b u p r rfl
      rfl
    have hyz : y = z.beside t.slu t.psv t.rc := by rw [hy, ← hzsu, ← hzeu, hbeside _ _ _ _ _ htz]
    rw [hyz, beside_surveyDepth]
    exact ⟨hsu, heu⟩

end Sys2Proof.Machine
end

section
/-! SUPPORT. SET_DATUM (O42). -/

namespace Sys2Proof.Machine

/-- R128: a depth update with no run and no check pass in progress leaves the survey. -/
theorem surveyDepth_idle {s : State} (h : s.su.state.running = false) : surveyDepth s = s := by
  unfold surveyDepth
  cases hs : s.su.state <;> rw [hs] at h
  case armed | accumulating | holding | checking | checkHolding => cases h

/-- R28, R159: the history emptied. -/
theorem emptyHistory_eq (s : State) :
    emptyHistory s = { s with
      dr := { s.dr with history := [], snapshotLeft := 5000, fMeas := 0 }
      rc := if s.dr.fMeas = 0 then s.rc else flooredRc 0 s.rc
      eu := if s.dr.fMeas = 0 then s.eu else shortRaised s.rc (flooredRc 0 s.rc) s.eu } := by
  rw [emptyHistory, setFeedRate_eq]
  simp only [eq_comm]

section
variable {v : Nat} {s : State}

theorem datumRefusal_outOfRange (h : 200000 < v) : datumRefusal v s = some .outOfRange := if_pos h

theorem datumRefusal_wrongState (h : v ≤ 200000)
    (hw : s.dr.countReceived = false ∨ s.dr.state = .stale ∨ s.su.state.running = true) :
    datumRefusal v s = some .wrongState := by
  unfold datumRefusal
  rw [if_neg (by omega)]
  rcases hw with hc | hst | hrun
  · rw [if_pos hc]
  · rw [if_pos hst, ite_self]
  · rw [if_pos hrun, ite_self, ite_self]

theorem datumRefusal_none (h : v ≤ 200000) (hc : s.dr.countReceived = true) (hst : s.dr.state ≠ .stale)
    (hrun : s.su.state.running = false) : datumRefusal v s = none := by
  simp [datumRefusal, Nat.not_lt.2 h, hc, hst, hrun]

theorem datumRefusal_hear (v : Nat) (p : Port) (s : State) : datumRefusal v (hear p s) = datumRefusal v s := by
  obtain ⟨_, _, _, _, _, _, hsu, _⟩ := hear_keeps p s
  unfold datumRefusal
  rw [hear_dr_eq, hsu]

theorem exec_setDatum {p : Port} {tag : Byte} {d : List Byte} (hp : p = .hoist ∨ p = .cabin)
    (hr : s.pi.hub = .ready) (hl : d.length = 4) :
    exec (.setDatum p tag d) s = .next
      (match datumRefusal (natAt d 0) s with
       | some code => answered .setDatum p tag code [] s
       | none => reply .setDatum p tag .done (datumBytes (takeDatum (natAt d 0) (hear p s)))
           (takeDatum (natAt d 0) (hear p s))) := by
  refine congrArg _ ((receive_ready (by rcases hp with rfl | rfl <;> rfl) hl hr _).trans ?_)
  rw [datumRefusal_hear]
  rfl

end

/-- R22: the update of a depth taken with the return and the events that came of it, handed on. -/
theorem handDepth_of {s t : State} {d : Dr} {r : Rc} {e : Eu} (ht : t = handDepth { s with dr := d, rc := r, eu := e })
    (hr : r.feedCeiling = s.rc.feedCeiling) :
    t = { s with
      dr := d
      zt := { s.zt with current := zoneIndexAt s.zt.entries d.depth, selectionDepth := d.depth }
      wg := if t.zt.current = s.zt.current then s.wg else
        { s.wg with zoneCeiling := (zoneOf s.zt.entries t.zt.current).speedCeiling
                    zoneHold := (zoneOf s.zt.entries t.zt.current).holdPressure
                    zoneStall := (zoneOf s.zt.entries t.zt.current).stallPressure
                    fallbackFlag := fallbackNow t }
      rc := { r with
        feedLimit := feedNow t
        feedCeiling := if t.zt.current = s.zt.current then s.rc.feedCeiling else
          (zoneOf s.zt.entries t.zt.current).feedCeiling }
      su := t.su, slu := t.slu, psv := t.psv, eu := t.eu } ∧
    t.slu = steeredSlu { t with slu := s.slu } ∧ t.psv = handedPlates s.slu.commands t.slu.commands s.psv ∧
    ∀ e3 y, e3 = (if t.zt.current = s.zt.current then e else latchAll .zoneChange e) →
      y = { t with su := s.su, eu := e3 } → t.su = (surveyDepth y).su ∧ t.eu = (surveyDepth y).eu ∧
        (s.su.state.running = false → t.su = s.su ∧ t.eu = e3) := by
  obtain ⟨hc, hslu, hpsv, hsurvey⟩ := handDepth_eq ht
  refine ⟨?_, hslu, hpsv, fun e3 y he hy => ?_⟩
  · rw [← hr]
    exact hc
  · obtain ⟨hsu, heu⟩ := hsurvey e3 y he hy
    refine ⟨hsu, heu, fun hrun => ?_⟩
    rw [surveyDepth_idle (by rw [hy]; exact hrun), hy] at hsu heu
    exact ⟨hsu, heu⟩

/-- R24: the depth state of a datum taken. -/
def datumDr (v : Nat) (d : Dr) : Dr :=
  { d with state := .valid, depth := v, aboveDatum := false, range := false, c0 := d.lastCount, datum := v, toe := v
           history := [], snapshotLeft := 5000, fMeas := 0, outRun := 0, inRun := 0 }

theorem takeDatum_eq (v : Nat) (s : State) :
    takeDatum v s = handDepth { s with
      dr := datumDr v s.dr
      rc := if s.dr.fMeas = 0 then s.rc else flooredRc 0 s.rc
      eu := if s.dr.fMeas = 0 then s.eu else shortRaised s.rc (flooredRc 0 s.rc) s.eu } := by
  rw [takeDatum, emptyHistory_eq]
  rfl

theorem flooredRc_feedCeiling (v : Nat) (r : Rc) : (flooredRc v r).feedCeiling = r.feedCeiling := rfl

/-- Settles O42: a datum is taken outside a run, so `handDepth_of` leaves the survey and its events. -/
theorem datumTaken : Obligations.DatumTaken := by
  rintro p tag d s h v hp hr hl rfl rfl
  have hx := exec_setDatum (s := s) (tag := tag) hp hr hl
  refine ⟨fun hv => ?_, fun hv hw => ?_, fun hv hc hst hrun e1 he => ?_⟩
  · rw [hx, datumRefusal_outOfRange hv]
  · rw [hx, datumRefusal_wrongState hv hw]
  · rw [datumRefusal_none hv hc hst hrun] at hx
    have hdr : (hear p s).dr.lastCount = s.dr.lastCount ∧ (hear p s).dr.fMeas = s.dr.fMeas := by
      rw [hear_dr_eq]; exact ⟨rfl, rfl⟩
    obtain ⟨_, hzt, hwg, _, hslu, hpsv, hsu, heu, _⟩ := hear_keeps p s
    have hrc := hear_rc p s
    have ht := takeDatum_eq (natAt d 0) (hear p s)
    rw [hdr.2, heu] at ht
    generalize takeDatum (natAt d 0) (hear p s) = t at hx ht
    obtain ⟨hcl, htslu, htpsv, hsurvey⟩ := handDepth_of ht (by split <;> rfl)
    have hidle := (hsurvey _ _ rfl rfl).2.2 (by rw [hsu]; exact hrun)
    obtain ⟨htsu, hteu⟩ := hidle
    rw [hzt] at hteu
    rw [hslu] at htslu htpsv
    rw [hpsv] at htpsv
    refine ⟨t, ?_, ?_, htslu, htpsv⟩
    · have hb : datumBytes t = num (natAt d 0) ++ name 1 := by
        rw [hcl]; rfl
      rw [hx, hb]
    · have he' : (if s.dr.fMeas = 0 then s.eu else shortRaised (hear p s).rc (flooredRc 0 (hear p s).rc) s.eu) = e1 := by
        rw [he, hrc]
        rfl
      rw [he'] at hteu
      rw [hzt, hwg, htsu, hteu] at hcl
      by_cases hf : s.dr.fMeas = 0
      · rw [if_pos hf, hrc] at hcl
        rw [if_pos hf, ← hdr.1]
        exact hcl
      · rw [if_neg hf, hrc] at hcl
        rw [if_neg hf, ← hdr.1]
        exact hcl

end Sys2Proof.Machine
end

section
/-! SUPPORT. REPORT_ROPE_COUNT (O41). -/

namespace Sys2Proof.Machine

/-! ## Events raised (R195, R199) -/

@[simp] theorem latchAll_get (e : Event) (u : Eu) (p : Port) :
    (latchAll e u).ports.get p = { u.ports.get p with latched := (u.ports.get p).latched ||| eventBit e } := by
  cases p <;> rfl

@[simp] theorem latchAll_markWidth (e : Event) (u : Eu) : (latchAll e u).markWidth = u.markWidth := rfl

@[simp] theorem shortRaised_markWidth (r r' : Rc) (u : Eu) : (shortRaised r r' u).markWidth = u.markWidth := by
  unfold shortRaised; split <;> rfl

/-- A set to which a bit has been added holds it. -/
theorem bit_of_or {x b : EventSet} (hb : b ≠ 0) : (x ||| b) &&& b ≠ 0 := by
  have h : (x ||| b) &&& b = b := by ext i; simp; tauto
  rwa [h]

/-! ## One bottom passed (R132, R134) -/

section
variable {s : State} {g : Segment} {b : Nat}

/-- R132: one boundary passed closes one segment and opens the next. -/
theorem closePassed_one (n : Nat) (hg : s.su.segment = some g) (hb : b = g.top + g.length) (hle : b ≤ s.dr.depth)
    (hroom : s.su.records.length < 1023) (hnext : s.dr.depth < b + (openedSegment s b).length) :
    closePassed (n + 2) s = openSegment b (writeRecord g b false s) := by
  subst hb
  have hp : ¬ 1024 ≤ (writeRecord g (g.top + g.length) false s).su.pointer := by
    simp [writeRecord, raise, State.setSu, Su.pointer]
    omega
  rw [closePassed, hg]
  simp only [if_pos hle, if_neg hp]
  rw [closePassed]
  exact if_neg (Nat.not_le.2 hnext)

/-- R132, R136: a depth that has passed one bottom while the run accumulates. -/
theorem surveyDepth_one (hst : s.su.state = .accumulating) (hok : accumulateOk s = true)
    (hg : s.su.segment = some g) (hb : b = g.top + g.length) (hle : b ≤ s.dr.depth)
    (hroom : s.su.records.length < 1023) (hnext : s.dr.depth < b + (openedSegment s b).length) :
    surveyDepth s = refreshLive (openSegment b (writeRecord g b false s)) := by
  have hv : s.dr.state = .valid := by
    simp only [accumulateOk, Bool.and_eq_true, decide_eq_true_eq] at hok
    exact hok.1.1.1.1
  have hj : judgeAccumulate s = s := by simp [judgeAccumulate, hst, hok]
  have hc : closePassed tableRoom s = openSegment b (writeRecord g b false s) :=
    closePassed_one 1022 hg hb hle hroom hnext
  rw [← hc]
  simp only [surveyDepth, hst, hj, if_pos hv]

/-- R132, R133: the record of a segment that has counted samples. -/
theorem closedRecord_counted (hc : 1 ≤ g.count) (hb : b = g.top + g.length) :
    closedRecord s g b false =
      { top := g.top, bottom := b, selector := g.selector, cls := g.cls, count := g.count
        meanX := roundDiv g.sumX g.count, meanY := roundDiv g.sumY g.count, meanPsi := roundDiv g.sumPsi g.count
        dx := roundDiv (s.su.rx + roundDiv g.sumX g.count * g.length) 100000
        dy := roundDiv (s.su.ry + roundDiv g.sumY g.count * g.length) 100000
        flags := { g.flags with short := false }, check := none } := by
  have hl : (b : Int) - g.top = g.length := by omega
  rw [closedRecord, recordMeans, if_neg (by omega), hl]

end

/-! ## A count taken (R20 to R26) -/

theorem takeCount_eq (count : Int) (s : State) :
    takeCount count s = { s with
      dr := { s.dr with
        depth := clampNat (rawDepth s count) maxDepth, aboveDatum := decide (rawDepth s count < 0)
        range := decide ((maxDepth : Int) < rawDepth s count)
        toe := max s.dr.toe (clampNat (rawDepth s count) maxDepth) }
      eu := if (maxDepth : Int) < rawDepth s count ∧ s.dr.range = false then latchAll .depthRange s.eu else s.eu } := by
  unfold takeCount
  dsimp only
  by_cases h : (maxDepth : Int) < rawDepth s count ∧ s.dr.range = false
  · rw [if_pos h, if_pos (by simpa using h), raise_eq (by decide)]
  · rw [if_neg h, if_neg (by simpa using h)]

/-- R20, R21, R26, R28: the depth state of a count taken in VALID and in STALE. -/
def countedDr (count : Int) (s : State) : Dr :=
  { s.dr with
    state := .valid, lastCount := count, countReceived := true, depth := clampNat (rawDepth s count) maxDepth
    aboveDatum := decide (rawDepth s count < 0), range := decide ((maxDepth : Int) < rawDepth s count)
    toe := max s.dr.toe (clampNat (rawDepth s count) maxDepth)
    history := if s.dr.state = .stale then [] else s.dr.history
    snapshotLeft := if s.dr.state = .stale then 5000 else s.dr.snapshotLeft
    fMeas := if s.dr.state = .stale then 0 else s.dr.fMeas }

theorem reportCount_eq {count : Int} {s : State} {e1 e2 : Eu} (h : s.dr.state ≠ .unset)
    (he1 : e1 = if s.dr.state = .stale ∧ s.dr.fMeas ≠ 0 then shortRaised s.rc (flooredRc 0 s.rc) s.eu else s.eu)
    (he2 : e2 = if (maxDepth : Int) < rawDepth s count ∧ s.dr.range = false then latchAll .depthRange e1 else e1) :
    reportCount count s = handDepth { s with
      dr := countedDr count s
      rc := if s.dr.state = .stale ∧ s.dr.fMeas ≠ 0 then flooredRc 0 s.rc else s.rc
      eu := e2 } := by
  subst he1 he2
  unfold countedDr
  cases hst : s.dr.state
  case unset => exact absurd hst h
  case valid =>
    simp only [reportCount, hst, takeCount_eq]
    rfl
  case stale =>
    simp only [reportCount, hst, takeCount_eq, emptyHistory_eq]
    by_cases hf : s.dr.fMeas = 0
    · simp only [hf]
      rfl
    · simp only [hf, ne_eq, not_false_eq_true, and_self, reduceIte]
      rfl

theorem exec_reportRopeCount {tag : Byte} {d : List Byte} {s : State} (hr : s.pi.hub = .ready) (hl : d.length = 4) :
    exec (.reportRopeCount .hoist tag d) s = .next
      (reply .reportRopeCount .hoist tag .done (countBytes (reportCount (intAt d 0) (hear .hoist s)))
        (reportCount (intAt d 0) (hear .hoist s))) :=
  congrArg _ (receive_ready rfl hl hr _)

/-- R132, R134, R195, R199: what an accumulating run has kept once one bottom is passed. -/
theorem surveyDepth_one_kept {s : State} {g : Segment} {b len : Nat} {z : ZoneEntry} {mx my : Int}
    (hst : s.su.state = .accumulating) (hok : accumulateOk s = true) (hg : s.su.segment = some g) (hc : 1 ≤ g.count)
    (hb : b = g.top + g.length) (hle : b ≤ s.dr.depth) (hroom : s.su.records.length < 1023) (hz : z = zoneAt s b)
    (hmx : mx = roundDiv g.sumX g.count) (hmy : my = roundDiv g.sumY g.count)
    (hlen : len = if z.selector = .l0 then s.su.l0 else s.su.l1) (hnext : s.dr.depth < b + len) :
    (surveyDepth s).su.records = s.su.records ++
      [{ top := g.top, bottom := b, selector := g.selector, cls := g.cls, count := g.count
         meanX := mx, meanY := my, meanPsi := roundDiv g.sumPsi g.count
         dx := roundDiv (s.su.rx + mx * g.length) 100000, dy := roundDiv (s.su.ry + my * g.length) 100000
         flags := { g.flags with short := false }, check := none }] ∧
    (surveyDepth s).su.rx = s.su.rx + mx * g.length ∧ (surveyDepth s).su.ry = s.su.ry + my * g.length ∧
    (surveyDepth s).su.segment = some { top := b, length := len, selector := z.selector, cls := z.cls, count := 0
                                        sumX := 0, sumY := 0, sumPsi := 0, flags := noFlags } ∧
    (surveyDepth s).eu = startMark (latchAll .segmentClosed s.eu) := by
  have hlen' : (openedSegment s b).length = len := by
    rw [hlen, hz, openedSegment]
    cases (zoneAt s b).selector <;> rfl
  rw [surveyDepth_one hst hok hg hb hle hroom (by rwa [hlen']), refreshLive_eq, liveSu_eq]
  have hl : (b : Int) - g.top = g.length := by omega
  have hseg : openedSegment (writeRecord g b false s) b =
      { top := b, length := len, selector := z.selector, cls := z.cls, count := 0
        sumX := 0, sumY := 0, sumPsi := 0, flags := noFlags } := by
    rw [← hlen', hz, openedSegment, openedSegment]
    simp [writeRecord, raise, State.setSu, zoneAt, hst, noFlags]
  refine ⟨?_, ?_, ?_, congrArg some hseg, rfl⟩
  · rw [hmx, hmy, ← closedRecord_counted hc hb]
    rfl
  · rw [hmx, ← hl]
    exact congrArg (fun r : SurveyRecord => s.su.rx + r.meanX * ((b : Int) - g.top)) (closedRecord_counted (s := s) hc hb)
  · rw [hmy, ← hl]
    exact congrArg (fun r : SurveyRecord => s.su.ry + r.meanY * ((b : Int) - g.top)) (closedRecord_counted (s := s) hc hb)

/-- Settles O41: `reportCount_eq` gives the count taken, `handDepth_of` what is handed on, `surveyDepth_one_kept` the
segment that closes. -/
theorem ropeCountTaken : Obligations.RopeCountTaken := by
  rintro tag d s h count raw e1 e2 hr hl rfl rfl hraw he1 he2
  have hx := exec_reportRopeCount (tag := tag) hr hl
  have hdr : (hear .hoist s).dr = s.dr := by rw [hear_dr_eq, if_neg (by simp)]
  have hrc : (hear .hoist s).rc = s.rc := hear_rc_of_ne_cabin (by decide) s
  obtain ⟨hmfe, hzt, hwg, _, hslu, hpsv, hsu, heu, _⟩ := hear_keeps .hoist s
  have hraw' : rawDepth (hear .hoist s) (intAt d 0) = raw := by
    rw [rawDepth, hdr, hmfe]
    exact hraw.symm
  refine ⟨_, hx, fun hun => ?_, fun hun => ?_⟩
  · simp only [reportCount, hdr, hun]
  · have ht := reportCount_eq (s := hear .hoist s) (count := intAt d 0) (e1 := e1) (e2 := e2) (by rw [hdr]; exact hun)
      (by rw [hdr, hrc, heu]; exact he1) (by rw [hdr, hraw']; exact he2)
    clear hx
    generalize reportCount (intAt d 0) (hear .hoist s) = t at ht ⊢
    obtain ⟨hcl, htslu, htpsv, hsurvey⟩ := handDepth_of ht (by split <;> rfl)
    rw [hzt, hsu] at hsurvey
    rw [hslu] at htslu htpsv
    rw [hpsv] at htpsv
    have hdepth : t.dr.depth = clampNat raw maxDepth := by
      rw [hcl, ← hraw']
      rfl
    refine ⟨?_, ?_, htslu, htpsv, hsurvey, ?_⟩
    · rw [hdepth]
      rw [hzt, hwg] at hcl
      rw [countedDr, hraw', hdr, hrc] at hcl
      exact hcl
    · rw [hdepth, clampNat_eq]
      exact Int.toNat_of_nonneg (le_max_left ..)
    · intro g hst hg hok hc hle hroom z mx my len hz hmx hmy hlen hnext
      obtain ⟨hu, he, _⟩ := hsurvey _ _ rfl rfl
      have hze : t.zt.entries = s.zt.entries := by rw [hcl, hzt]
      obtain ⟨hrec, hrx, hry, hseg, heuS⟩ := surveyDepth_one_kept
        (s := { t with su := s.su, eu := if t.zt.current = s.zt.current then e2 else latchAll .zoneChange e2 })
        hst hok hg hc rfl hle hroom (hz.trans (by rw [zoneAt, zoneAt, hze])) hmx hmy hlen hnext
      rw [hu, he]
      refine ⟨hrec, hrx, hry, hseg, fun p => ?_, ?_⟩
      · rw [heuS]
        exact (latchAll_get ..).symm ▸ bit_of_or (by decide)
      · rw [heuS, he2, he1]
        simp only [startMark]
        split <;> split <;> split <;> simp

end Sys2Proof.Machine
end

section
/-! SUPPORT. TEST_INJECT and HEAD_RESTART (O51). -/

namespace Sys2Proof.Machine

/-! ## TEST_INJECT (R192) -/

theorem injected_testInject (q : PortRec) : injected q (kindByte .testInject) = false := by simp [injected]

/-- R192: the reply to a TEST_INJECT is proper whatever the count, so the count may be set before it or after. -/
theorem reply_testInject_injection (q : Port) (tag : Byte) (st : Status) (d : List Byte) (n : Nat) {s a : State}
    (ha : a = reply .testInject .cabin tag st d s) :
    reply .testInject .cabin tag st d (s.setPort q { s.port q with injection := n }) =
      a.setPort q { a.port q with injection := n } := by
  subst ha
  simp only [reply, sendReply, injected_testInject]
  cases q <;> rfl

section
variable {tag : Byte} {d : List Byte} {s : State}

theorem exec_testInject_unnamed (hr : s.pi.hub = .ready) (hl : d.length = 5) (hq : portNamed (nameAt d 0) = none) :
    exec (.testInject .cabin tag d) s = .next (answered .testInject .cabin tag .outOfRange [] s) := by
  refine congrArg _ ((receive_ready rfl hl hr _).trans ?_)
  simp only [hq, answered]

theorem exec_testInject {q : Port} (hr : s.pi.hub = .ready) (hl : d.length = 5) (hq : portNamed (nameAt d 0) = some q) :
    exec (.testInject .cabin tag d) s = .next
      (if 1 ≤ natAt d 1 ∧ natAt d 1 ≤ 16 then
         reply .testInject .cabin tag .done []
           ((hear .cabin s).setPort q { (hear .cabin s).port q with injection := natAt d 1 })
       else answered .testInject .cabin tag .outOfRange [] s) := by
  refine congrArg _ ((receive_ready rfl hl hr _).trans ?_)
  simp only [inRange_iff, answered, hq]

end

/-! ## A run or a check pass stopped (R127, R151) -/

/-- R195: what raised events leave of the event controller: nothing leaves a latched set, and nothing else of a port
changes. -/
def EventsAdded (u v : Eu) : Prop :=
  v.markWidth = u.markWidth ∧
  ∀ p, ∃ b, v.ports.get p = { u.ports.get p with latched := (u.ports.get p).latched ||| b }

namespace EventsAdded
variable {u v w : Eu}

theorem refl (u : Eu) : EventsAdded u u := ⟨rfl, fun p => ⟨0, by simp⟩⟩

theorem trans (h : EventsAdded u v) (h' : EventsAdded v w) : EventsAdded u w := by
  obtain ⟨hm, hp⟩ := h
  obtain ⟨hm', hp'⟩ := h'
  refine ⟨hm'.trans hm, fun p => ?_⟩
  obtain ⟨b, hb⟩ := hp p
  obtain ⟨b', hb'⟩ := hp' p
  exact ⟨b ||| b', by rw [hb', hb, BitVec.or_assoc]⟩

theorem latchAll (e : Event) (u : Eu) : EventsAdded u (latchAll e u) := ⟨rfl, fun p => ⟨_, latchAll_get e u p⟩⟩

theorem startMark (h : EventsAdded u v) : EventsAdded u (startMark v) := h

theorem bit {b : EventSet} {p : Port} (h : EventsAdded u v) (hb : (u.ports.get p).latched &&& b ≠ 0) :
    (v.ports.get p).latched &&& b ≠ 0 := by
  obtain ⟨c, hc⟩ := h.2 p
  rw [hc]
  intro h0
  apply hb
  have : ((u.ports.get p).latched ||| c) &&& b = 0 := h0
  ext i hi
  have hi' := congrArg (·.getLsbD i) this
  simp at hi' ⊢
  intro hx
  exact hi' (.inl hx)

end EventsAdded

theorem endCheck_eq (s : State) :
    endCheck s = { s with
      su := { s.su with target := none, checkCount := 0, checkSumX := 0, checkSumY := 0, checkFront := 0
                        checkFromFull := false
                        state := if s.su.claimant.isNone then .idle else if s.su.pointer = 1024 then .full else .closed }
      eu := latchAll .checkDone s.eu } :=
  raise_eq (by decide) _

section
variable {s : State} {g : Segment}

/-- R136: no deviation is live while no segment is open. -/
theorem refreshLive_none (h : s.su.segment = none) :
    refreshLive s = { s with su := { s.su with liveX := 0, liveY := 0 } } := by
  unfold refreshLive
  rw [h]
  cases s.su.state <;> rfl

theorem stopSurvey_idle (h : s.su.state.running = false) : stopSurvey s = s := by
  unfold stopSurvey
  cases hs : s.su.state <;> rw [hs] at h
  case armed | accumulating | holding | checking | checkHolding => cases h

/-- R127: a run with no segment open is closed. -/
theorem stopSurvey_armed (h : s.su.state = .armed) (hg : s.su.segment = none) :
    stopSurvey s = { s with su := { s.su with state := .closed, nextTop := 0, liveX := 0, liveY := 0 } } := by
  simp [stopSurvey, stopRun, refreshLive, State.setSu, h, hg]

theorem stopSurvey_run (h : s.su.state = .accumulating ∨ s.su.state = .holding) : stopSurvey s = stopRun s := by
  rcases h with h | h <;> simp only [stopSurvey, h]

/-- R127: a segment with no set, or not 0.5 m long, is discarded. -/
theorem stopRun_discards (hg : s.su.segment = some g) (hc : g.count = 0 ∨ s.dr.toe < g.top + 500) :
    stopRun s = { s with su := { s.su with state := .closed, segment := none, liveX := 0, liveY := 0 } } := by
  have hn : ¬ (1 ≤ g.count ∧ g.top + 500 ≤ s.dr.toe) := by omega
  simp [stopRun, refreshLive, State.setSu, hg, hn]

/-- R127, R135: any other is closed short at the toe, and may fill the table. -/
theorem stopRun_closes {bottom : Nat} (hg : s.su.segment = some g) (hc : 1 ≤ g.count) (ht : g.top + 500 ≤ s.dr.toe)
    (hb : bottom = min s.dr.toe (g.top + g.length)) :
    ∃ st, stopRun s = { s with
      su := { s.su with
        state := st, segment := none, liveX := 0, liveY := 0
        rx := s.su.rx + (closedRecord s g bottom true).meanX * ((bottom : Int) - g.top)
        ry := s.su.ry + (closedRecord s g bottom true).meanY * ((bottom : Int) - g.top)
        records := s.su.records ++ [closedRecord s g bottom true] }
      eu := if 1023 ≤ s.su.records.length then latchAll .surveyFull (startMark (latchAll .segmentClosed s.eu))
            else startMark (latchAll .segmentClosed s.eu) } := by
  subst hb
  rw [stopRun, hg]
  simp only [if_pos (And.intro hc ht)]
  have hp : (writeRecord g (min s.dr.toe (g.top + g.length)) true s).su.pointer = s.su.records.length + 1 := by
    simp [writeRecord, raise, State.setSu, Su.pointer]
  rw [hp]
  by_cases hf : 1023 ≤ s.su.records.length
  · rw [if_pos (by omega), if_pos hf, fillTable, raise_eq (by decide)]
    exact ⟨_, refreshLive_none rfl⟩
  · rw [if_neg (by omega), if_neg hf]
    exact ⟨_, refreshLive_none rfl⟩

theorem stopSurvey_check (h : s.su.state = .checking ∨ s.su.state = .checkHolding) : stopSurvey s = stopCheck s := by
  rcases h with h | h <;> simp only [stopSurvey, h]

theorem stopCheck_empty (h : s.su.target = none ∨ s.su.checkCount = 0) : stopCheck s = endCheck s := by
  unfold stopCheck
  split
  · next i hi =>
    rw [hi] at h
    exact if_neg (by simp_all)
  · rfl

theorem stopCheck_target {i : Nat} (h : s.su.target = some i) (hc : 1 ≤ s.su.checkCount) :
    stopCheck s = endCheck (writeCheck i s) := by
  simp only [stopCheck, h, if_pos hc]

/-- R148: what a check field written leaves. -/
theorem writeCheck_eq (i : Nat) (s : State) :
    writeCheck i s = { s with su := { s.su with
      records := (writeCheck i s).su.records, verdicts := (writeCheck i s).su.verdicts
      checkCount := (writeCheck i s).su.checkCount, checkSumX := (writeCheck i s).su.checkSumX
      checkSumY := (writeCheck i s).su.checkSumY } } := by
  unfold writeCheck
  split <;> rfl

/-- R151: a pass stopped, but for the state it leaves and the table. -/
theorem stopCheck_eq (s : State) :
    stopCheck s = { s with
      su := { s.su with
        target := none, checkCount := 0, checkSumX := 0, checkSumY := 0, checkFront := 0, checkFromFull := false
        state := (stopCheck s).su.state, records := (stopCheck s).su.records, verdicts := (stopCheck s).su.verdicts }
      eu := latchAll .checkDone s.eu } := by
  by_cases h : s.su.target = none ∨ s.su.checkCount = 0
  · rw [stopCheck_empty h, endCheck_eq]
  · obtain ⟨ht, hc⟩ := not_or.1 h
    obtain ⟨i, hi⟩ := Option.ne_none_iff_exists'.1 ht
    rw [stopCheck_target hi (by omega), endCheck_eq, writeCheck_eq]

theorem EventsAdded.stopRun (s : State) : EventsAdded s.eu (stopRun s).eu := by
  cases hg : s.su.segment with
  | none =>
    rw [Machine.stopRun, hg]
    simp only [refreshLive_eq]
    exact EventsAdded.refl _
  | some g =>
    by_cases hd : g.count = 0 ∨ s.dr.toe < g.top + 500
    · rw [stopRun_discards hg hd]
      exact EventsAdded.refl _
    · obtain ⟨hc, ht⟩ := not_or.1 hd
      obtain ⟨st, h⟩ := stopRun_closes hg (Nat.pos_of_ne_zero hc) (Nat.not_lt.1 ht) rfl
      have hm : EventsAdded s.eu (Machine.startMark (Machine.latchAll .segmentClosed s.eu)) :=
        (EventsAdded.latchAll _ _).startMark
      rw [h]
      dsimp only
      split
      · exact hm.trans (EventsAdded.latchAll _ _)
      · exact hm

theorem EventsAdded.stopSurvey (s : State) : EventsAdded s.eu (stopSurvey s).eu := by
  unfold Machine.stopSurvey
  split
  case h_1 | h_2 | h_3 => exact EventsAdded.stopRun s
  case h_4 | h_5 =>
    rw [stopCheck_eq]
    exact EventsAdded.latchAll _ _
  all_goals exact EventsAdded.refl _

theorem stopRun_eq (s : State) : stopRun s = { s with su := (stopRun s).su, eu := (stopRun s).eu } := by
  obtain ⟨hm, hd, hz, hw, hr, hl, hv, hc, hi, hp, hf⟩ := stopRun_keeps s
  rw [← hm, ← hd, ← hz, ← hw, ← hr, ← hl, ← hv, ← hc, ← hi, ← hp, ← hf]

theorem stopSurvey_eq (s : State) : stopSurvey s = { s with su := (stopSurvey s).su, eu := (stopSurvey s).eu } := by
  unfold stopSurvey
  split
  case h_1 | h_2 | h_3 => exact stopRun_eq s
  case h_4 | h_5 => rw [stopCheck_eq]
  all_goals rfl

end

/-! ## The restart (R191) -/

theorem restartSru_eq (s : State) :
    restartSru s = { s with sru := { s.sru with
      record := none, lastEnd := if s.sru.record.isSome then .aborted else s.sru.lastEnd
      lastWheel := (s.sru.record.map (·.wheel)).getD s.sru.lastWheel
      lastBurst := (s.sru.record.map (·.burst)).getD s.sru.lastBurst } } := by
  unfold restartSru
  cases h : s.sru.record with
  | none =>
    change s = { s with sru := { s.sru with record := none } }
    rw [← h]
  | some r => rfl

/-- R34, R70, R86, R176, R191, R201: the restart as SU finds it. -/
def restarting (s : State) : State := restartDr (restartRc (restartWg (restartSru (restartPi s))))

theorem restarting_eq (s : State) :
    restarting s = { s with
      pi := (restartPi s).pi
      eu := { s.eu with mark := none }
      sru := { s.sru with
        record := none, lastEnd := if s.sru.record.isSome then .aborted else s.sru.lastEnd
        lastWheel := (s.sru.record.map (·.wheel)).getD s.sru.lastWheel
        lastBurst := (s.sru.record.map (·.burst)).getD s.sru.lastBurst }
      wg := (restartWg s).wg, rc := (restartRc s).rc, dr := { s.dr with outRun := 0, inRun := 0 } } := by
  rw [restarting, restartSru_eq]
  rfl

/-- R103, R115, R141: what SU, PSV and SLU make of it. -/
theorem restartHub_eq {s b t : State} (hb : b = restarting s) (ht : t = restartHub s) :
    t = { b with
      su := { (stopSurvey b).su with state := .idle, claimant := none, nextTop := 0 }
      eu := latchAll .restarted (stopSurvey b).eu
      psv := (restartPsv b).psv, slu := { b.slu with
        actual := modeNow t, offeredTrim := 0, uy := 0, ut := 0, commands := noPlates, manualTrim := 0
        manualPlates := noPlates } } := by
  have hy := stopSurvey_eq b
  have hr : restartHub s = raise .restarted (restartSlu (restartPsv (restartSu b))) := by rw [hb]; rfl
  rw [restartSu] at hr
  generalize stopSurvey b = y at hy hr
  rw [raise_eq (by decide), hy] at hr
  have hm : modeNow t = modeNow b := by
    refine modeNow_congr ?_ ?_ ?_ ?_ ?_ <;> rw [ht, hr] <;> rfl
  rw [hm, ht, hr]
  rfl

theorem restartPlate_eq (q : Plate) :
    restartPlate q = { q with
      command := 0, demand := 0, settleTimer := none
      move := if 2 < q.extension.value then .moving else .settled
      moveTimer := if 2 < q.extension.value then some 8000 else none } := by
  have ho : outsideBand 0 q.extension.value = decide (2 < q.extension.value) := by simp [outsideBand]
  unfold restartPlate judgeBegin
  rw [ho]
  by_cases h : 2 < q.extension.value
  · simp [beginMove, h]
  · simp [h]

theorem restartPsv_get (q : PlateId) (s : State) : (restartPsv s).psv.get q = restartPlate (s.psv.get q) := by
  cases q <;> rfl

theorem restartPi_port (p : Port) (s : State) : (restartPi s).port p = restartPort (s.port p) := by cases p <;> rfl

/-- R191: the restart as SU finds it once the request has been answered. -/
theorem restarting_answered {tag : Byte} {s a b : State} (ha : a = answered .headRestart .cabin tag .done [] s)
    (hb : b = restarting a) :
    b = { s with
      pi := (restartPi a).pi
      eu := { s.eu with mark := none }
      sru := { s.sru with
        record := none, lastEnd := if s.sru.record.isSome then .aborted else s.sru.lastEnd
        lastWheel := (s.sru.record.map (·.wheel)).getD s.sru.lastWheel
        lastBurst := (s.sru.record.map (·.burst)).getD s.sru.lastBurst }
      wg := (restartWg s).wg, rc := (restartRc s).rc, dr := { s.dr with outRun := 0, inRun := 0 } } := by
  have hd : a.dr = s.dr := by
    rw [ha]
    exact (hear_dr_eq .cabin s).trans (by rw [if_neg (by simp)])
  have hrc : (restartRc a).rc = (restartRc s).rc := by
    have h : a.rc = (hear .cabin s).rc := by rw [ha]; rfl
    rw [restartRc, restartRc, h, hear_rc]
  have hwg : (restartWg a).wg = (restartWg s).wg := by
    rw [restartWg, restartWg, ha]
    simp
  obtain ⟨hm, hz, _, hr, hl, hv, hu, he, hp, hf⟩ := answered_keeps .headRestart .cabin tag .done [] s
  rw [← ha] at hm hz hr hl hv hu he hp hf
  rw [hb, restarting_eq, hd, hrc, hwg, hm, hz, hr, hl, hv, hu, he, hp, hf]

/-- Settles O51: a restart is `restartHub_eq`, whose survey is `stopSurvey` of the state `restarting`. -/
theorem hubRequests : Obligations.HubRequests := by
  refine ⟨?_, ?_⟩
  · rintro tag d s a n hr hl rfl
    refine ⟨fun q hq h1 h2 ha => ?_, fun h => ?_⟩
    · rw [exec_testInject hr hl hq, if_pos (And.intro h1 h2), reply_testInject_injection q tag .done [] _ ha]
    · cases hq : portNamed (nameAt d 0) with
      | none => exact exec_testInject_unnamed hr hl hq
      | some q =>
        have hn : ¬ 2 < (byteAt d 0).toNat := fun h2 => by rw [nameAt, portNamed_eq_none h2] at hq; cases hq
        rw [exec_testInject hr hl hq, if_neg (by omega)]
  · rintro tag s a hr ha
    have hx : exec (.headRestart .cabin tag []) s = .next (restartHub a) := by
      rw [ha]
      exact congrArg _ (receive_ready rfl rfl hr _)
    obtain ⟨b, hb⟩ : ∃ b, b = restarting a := ⟨_, rfl⟩
    have ht := restartHub_eq hb rfl
    have hbs := restarting_answered ha hb
    generalize restartHub a = t at hx ht
    have hbsu : b.su = s.su := by rw [hbs]
    have hbeu : b.eu = { s.eu with mark := none } := by rw [hbs]
    have htoe : b.dr.toe = s.dr.toe := by rw [hbs]
    have htsu : t.su = { (stopSurvey b).su with state := .idle, claimant := none, nextTop := 0 } := by rw [ht]
    have hteu : t.eu = latchAll .restarted (stopSurvey b).eu := by rw [ht]
    have hpi : t.pi = (restartPi a).pi := by rw [ht, hbs]
    have hadd : EventsAdded s.eu t.eu := by
      have h := (EventsAdded.stopSurvey b).trans (EventsAdded.latchAll .restarted _)
      rw [hbeu, ← hteu] at h
      exact h
    refine ⟨t, hx, ?_, ?_, ?_, ?_, ?_, ?_, fun p => ?_, fun p => ⟨?_, ?_⟩, hadd.1, ?_, fun w => ?_, ?_, ?_, ?_, ?_, ?_,
      fun hrun => ?_, fun e y he hy => ?_, fun hst hg => ?_, fun g hst hg => ⟨fun hd => ?_, ?_⟩, fun hst => ?_, ?_,
      fun q => ?_⟩
    · rw [ht, hbs]
    · rw [ht, hbs]
    · rw [ht, hbs]
    · rw [ht, hbs]
    · have h := congrArg Pi.hub (hear_pi .cabin s)
      rw [hpi, ha]
      exact h
    · have h := congrArg Pi.startUpLeft (hear_pi .cabin s)
      rw [hpi, ha]
      exact h
    · exact (congrArg (·.ports.get p) hpi).trans (restartPi_port p a)
    · obtain ⟨c, hc⟩ := hadd.2 p
      rw [hc]
    · rw [hteu, latchAll_get]
      exact bit_of_or (by decide)
    · rw [ht, hbs]
    · rw [ht, hbs]
      cases w <;> rfl
    · rw [ht, hbs]
      rfl
    · rw [ht, hbs]
    · rw [ht, hbs]
      rfl
    · rw [htsu]
    · rw [htsu]
    · rw [hteu, htsu, stopSurvey_idle (by rw [hbsu]; exact hrun), hbsu, hbeu]
      exact ⟨rfl, rfl, fun p => congrArg EuPort.latched (latchAll_get ..)⟩
    · have heb : e = b.beside t.slu t.psv b.rc := by
        rw [he, ht, ← hbsu, ← hbeu]
        rfl
      rw [hy, heb, beside_stopSurvey]
      exact ⟨htsu, hteu⟩
    · rw [hteu, htsu, stopSurvey_armed (by rw [hbsu]; exact hst) (by rw [hbsu]; exact hg), hbsu, hbeu]
      exact ⟨rfl, rfl⟩
    · rw [hteu, htsu, stopSurvey_run (by rw [hbsu]; exact hst),
        stopRun_discards (by rw [hbsu]; exact hg) (by rw [htoe]; exact hd), hbsu, hbeu]
      exact ⟨rfl, rfl⟩
    · rintro bottom mx my len e hc hlong hbot rfl rfl rfl rfl
      obtain ⟨st, hstop⟩ := stopRun_closes (s := b) (bottom := bottom) (by rw [hbsu]; exact hg) hc (by rw [htoe]; exact hlong)
        (by rw [htoe]; exact hbot)
      rw [hteu, htsu, stopSurvey_run (by rw [hbsu]; exact hst), hstop, closedRecord, recordMeans,
        if_neg (Nat.ne_of_gt hc), hbsu, hbeu]
      exact ⟨rfl, rfl⟩
    · have hcheck : stopSurvey b = stopCheck b := stopSurvey_check (by rw [hbsu]; exact hst)
      rw [hcheck] at htsu hteu
      refine ⟨?_, ?_, fun h => ?_, fun i r f hi hc hr hf => ?_⟩
      · rw [hteu, stopCheck_eq, hbeu]
      · rw [htsu, stopCheck_eq, hbsu]
      · rw [htsu, stopCheck_empty (by rw [hbsu]; exact h), endCheck_eq, hbsu]
        exact ⟨rfl, rfl⟩
      · rw [htsu, stopCheck_target (by rw [hbsu]; exact hi) (by rw [hbsu]; exact hc), endCheck_eq, writeCheck, hbsu,
          hr, hf]
        exact ⟨rfl, rfl⟩
    · have hslu := congrArg State.slu ht
      rw [show b.slu = s.slu by rw [hbs]] at hslu
      exact hslu
    · have hq : t.psv.get q = restartPlate (s.psv.get q) := by
        rw [ht, hbs]
        exact restartPsv_get ..
      rw [hq, restartPlate_eq]

end Sys2Proof.Machine
end

section
/-! SUPPORT. The timers of the links, of the start-up and of the mark (O60). -/

namespace Sys2Proof.Machine

/-! ## What a lost port shows (R189) -/

/-- R189: a port lost and PORT_LOST raised. -/
def portDown (p : Port) (s : State) : State := raisePortLost p (losePort p s)

theorem portDown_eq (p : Port) (s : State) :
    portDown p s = { s with pi := (s.setPort p (lostPort (s.port p))).pi, eu := (portDown p s).eu } := by
  obtain ⟨hm, hd, hz, hw, hr, hl, hv, hu, hc, hi, hp, hf⟩ := raisePortLost_keeps p (losePort p s)
  obtain ⟨hm', hd', hz', hw', hr', hl', hv', hu', hc', hp', hf'⟩ := losePort_keeps p s
  rw [losePort_pi] at hi
  rw [← hi, ← hm', ← hd', ← hz', ← hw', ← hr', ← hl', ← hv', ← hu', ← hc', ← hp', ← hf',
    ← hm, ← hd, ← hz, ← hw, ← hr, ← hl, ← hv, ← hu, ← hc, ← hp, ← hf]
  rfl

theorem losePort_eu (p : Port) (s : State) :
    (losePort p s).eu = if (s.port p).queue.isEmpty then s.eu else latch p (eventBit .refused) s.eu := by
  rw [losePort_eq]
  split <;> rfl

/-- R189: PORT_LOST at the two other ports. -/
theorem portDown_lost {p p' : Port} (s : State) (h : p' ≠ p) :
    ((portDown p s).eu.ports.get p').latched &&& 0x20000#32 ≠ 0 := by
  have hb : ((portDown p s).eu.ports.get p').latched =
      ((losePort p s).eu.ports.get p').latched ||| 0x20000#32 := by
    cases p <;> cases p' <;> first | exact absurd rfl h | rfl
  rw [hb]
  exact bit_of_or (by decide)

/-- R189: REFUSED at the port whose queue is discarded. -/
theorem portDown_refused {p : Port} {s : State} (h : (s.port p).queue ≠ []) :
    ((portDown p s).eu.ports.get p).latched &&& 0x10000#32 ≠ 0 := by
  have hb : ((portDown p s).eu.ports.get p).latched = (s.eu.ports.get p).latched ||| 0x10000#32 := by
    have he := losePort_eu p s
    rw [if_neg (by simpa using h)] at he
    cases p <;> simp [portDown, raisePortLost, latch, he, PerPort.get, PerPort.set] <;> rfl
  rw [hb]
  exact bit_of_or (by decide)

/-! ## The survey at a condition lost (R121, R130, R146) -/

/-- What a judged condition leaves of the survey. -/
structure SurveyKept (s t : State) : Prop where
  claimant : t.su.claimant = s.su.claimant
  records : t.su.records = s.su.records
  running : t.su.state.running = s.su.state.running

theorem judgedRun_running (s : State) : (judgedRun s).running = s.su.state.running := by
  unfold judgedRun
  cases s.su.state
  case accumulating | holding => dsimp only; split <;> rfl
  all_goals rfl

theorem judgedSurvey_running (s : State) : (judgedSurvey s).running = s.su.state.running := by
  unfold judgedSurvey
  cases s.su.state
  case accumulating | holding | checking | checkHolding => dsimp only; split <;> rfl
  all_goals rfl

theorem surveyKept_judged {s x t : State} {st : SurveyState} (hx : x.su = s.su) (ht : t.su = judgedSu st x)
    (hst : st.running = x.su.state.running) : SurveyKept s t := by
  rw [judgedSu_eq, hx] at ht
  rw [hx] at hst
  exact ⟨by rw [ht], by rw [ht], by rw [ht]; exact hst⟩

/-- R130, R146: with the depth not VALID neither condition holds, and no boundary is judged. -/
theorem surveyDepth_unsure {s : State} (h : s.dr.state ≠ .valid) :
    ∃ g x y, surveyDepth s =
      { s with su := { s.su with state := judgedSurvey s, segment := g, liveX := x, liveY := y } } := by
  have ha : accumulateOk s = false := by simp [accumulateOk, h]
  have hk : checkOk s = false := by simp [checkOk, h]
  cases hst : s.su.state
  case accumulating | holding =>
    simp only [surveyDepth, hst, if_neg h, refreshLive_eq, judgeAccumulate_eq, judgedRun, judgedSurvey, ha]
    rw [liveSu_eq]
    exact ⟨_, _, _, rfl⟩
  case armed =>
    simp only [surveyDepth, judgedSurvey, hst, if_neg h]
    exact ⟨_, _, _, by rw [← hst]⟩
  case checking =>
    simp [surveyDepth, judgedSurvey, judgeCheck, hst, if_neg h, hk, State.setSu]
  case checkHolding =>
    simp only [surveyDepth, judgedSurvey, judgeCheck, hst, if_neg h, hk]
    exact ⟨s.su.segment, s.su.liveX, s.su.liveY, by simp [← hst]⟩
  all_goals
    simp only [surveyDepth, judgedSurvey, hst]
    exact ⟨_, _, _, by rw [← hst]⟩

/-! ## The loss of the cabin (R66) -/

/-- R84: a recovery is aborted. -/
theorem abortRecovery_sru (s : State) :
    (abortRecovery s).sru.record = none ∧ (s.sru.record.isSome = true → (abortRecovery s).sru.lastEnd = .aborted) := by
  unfold abortRecovery
  cases h : s.sru.record with
  | none => exact ⟨h, fun hs => nomatch hs⟩
  | some r =>
    refine ⟨?_, fun _ => rfl⟩
    simp [setOutcome, clearRecord, judgeRecovery_eq, reevaluate_eq, steered]

theorem abortRecovery_survey (s : State) : SurveyKept s (abortRecovery s) := by
  unfold abortRecovery
  split
  · exact ⟨rfl, rfl, rfl⟩
  · refine surveyKept_judged (x := { s with sru := { s.sru with record := none } }) rfl ?_ (judgedRun_running _)
    rw [setOutcome, clearRecord, reevaluate_eq, judgeRecovery_eq]
    rfl

/-- R48, R63: a wheel at a halt. A reference below 1 rpm, one that runs backwards among them, is at rest at once. -/
theorem haltWheel_eq (v : WheelRec) :
    haltWheel v =
      if v.state = .halting ∨ v.state = .halted then v
      else if v.acc < 10 then { state := .halted, target := 0, acc := 0, torqueHold := false, stallTimer := none
                                zeroGates := 0 }
      else { state := .halting, target := 0, acc := v.acc, torqueHold := false, stallTimer := none, zeroGates := 0 } := by
  have hrest : (noReverse v).present = 0 ↔ v.acc < 10 := by
    unfold noReverse
    split
    · next hn =>
      rw [present_eq] at hn
      split at hn <;> simp [WheelRec.present] <;> omega
    · next hn =>
      rw [present_eq_zero]
      rw [present_eq] at hn
      split at hn <;> omega
  have hfwd : ¬ v.acc < 10 → noReverse v = v := fun h => if_neg (by rw [present_eq]; split <;> omega)
  unfold haltWheel
  by_cases hh : v.state = .halting ∨ v.state = .halted
  · rw [if_pos hh, if_pos hh]
  · rw [if_neg hh, if_neg hh]
    by_cases ha : v.acc < 10
    · rw [if_pos (hrest.2 ha), if_pos ha]
      rfl
    · rw [if_neg (mt hrest.1 ha), if_neg ha, hfwd ha]
      rfl

theorem haltWheels_wheels (w : Wheel) (s : State) :
    (haltWheels s).wg.wheels.get w = haltWheel (s.wg.wheels.get w) := by
  unfold haltWheels
  cases w <;> simp [PerWheel.get]

theorem haltWheels_sru (s : State) : (haltWheels s).sru = (abortRecovery s).sru := by
  unfold haltWheels; simp

theorem haltWheels_survey (s : State) : SurveyKept s (haltWheels s) := by
  have hsu : (haltWheels s).su = (abortRecovery s).su := by unfold haltWheels; simp
  obtain ⟨hc, hr, hrun⟩ := abortRecovery_survey s
  exact ⟨by rw [hsu, hc], by rw [hsu, hr], by rw [hsu, hrun]⟩

theorem haltWheels_rc (s : State) : (haltWheels s).rc = { s.rc with feedLimit := (haltWheels s).rc.feedLimit } := by
  unfold haltWheels
  rw [handWheels_feed]
  simp

theorem EventsAdded.raiseHalted (before : PerWheel WheelRec) (s : State) :
    EventsAdded s.eu (raiseHalted before s).eu := by
  unfold Machine.raiseHalted
  dsimp only
  split
  · rw [raise_eq (by decide)]
    exact EventsAdded.latchAll _ _
  · exact EventsAdded.refl _

theorem EventsAdded.haltWheels (s : State) : EventsAdded s.eu (haltWheels s).eu := by
  have h := EventsAdded.raiseHalted s.wg.wheels { abortRecovery s with
    wg := { (abortRecovery s).wg with wheels := { a := haltWheel (abortRecovery s).wg.wheels.a
                                                  b := haltWheel (abortRecovery s).wg.wheels.b } } }
  unfold Machine.haltWheels
  simpa using h

/-- R171: nothing is fed while the cabin is not ACTIVE. -/
theorem feedNow_cabin_lost {s : State} (h : s.pi.ports.cabin.link ≠ .active) : feedNow s = 0 :=
  if_neg (by simp [feedAllowed, h])

/-- R171: nothing is fed while the depth is not VALID. -/
theorem feedNow_unsure {s : State} (h : s.dr.state ≠ .valid) : feedNow s = 0 := if_neg (by simp [feedAllowed, h])

/-! ## The loss of the plant (R29) -/

section
variable {d : Bool} {s : State}

theorem setDisagree_survey : SurveyKept s (setDisagree d s) := by
  by_cases h : d = s.dr.disagree
  · rw [setDisagree, if_pos h]
    exact ⟨rfl, rfl, rfl⟩
  · rw [setDisagree_changed h rfl]
    exact surveyKept_judged (x := { s with dr := { s.dr with disagree := d } }) rfl rfl (judgedSurvey_running _)

theorem setDisagree_slu :
    (setDisagree d s).slu = if d = s.dr.disagree then s.slu else steeredSlu { setDisagree d s with slu := s.slu } := by
  by_cases h : d = s.dr.disagree
  · rw [if_pos h, setDisagree, if_pos h]
  · rw [if_neg h, setDisagree_changed h rfl]
    exact steeredSlu_congr rfl rfl rfl rfl

end

theorem suspendCrossCheck_slu (s : State) :
    (suspendCrossCheck s).slu =
      if s.dr.disagree = true then steeredSlu { suspendCrossCheck s with slu := s.slu } else s.slu := by
  have h := setDisagree_slu (d := false) (s := { s with
    dr := { s.dr with crossCheck := .noDensity, outRun := 0, inRun := 0 } })
  cases hd : s.dr.disagree
  · exact h.trans (if_pos hd.symm)
  · exact h.trans (if_neg (by simp [hd]))

/-! ## The loss of the hoist (R25) -/

theorem goStale_valid {s : State} (h : s.dr.state = .valid) :
    goStale s = handDepth { s with
      dr := { s.dr with state := .stale, outRun := 0, inRun := 0 }, rc := s.rc, eu := s.eu } := if_pos h

/-- R22, R25: with the depth STALE the survey only judges its conditions and raises nothing. -/
theorem goStale_su {s : State} (h : s.dr.state = .valid) :
    ∃ y g lx ly, y.su = s.su ∧ y.dr.state = .stale ∧
      (goStale s).su = { s.su with state := judgedSurvey y, segment := g, liveX := lx, liveY := ly } ∧
      (goStale s).eu = if (goStale s).zt.current = s.zt.current then s.eu else latchAll .zoneChange s.eu := by
  obtain ⟨hcl, _, _, hsurvey⟩ := handDepth_of (goStale_valid h) rfl
  obtain ⟨hsu, heu, _⟩ := hsurvey _ _ rfl rfl
  have hst : (goStale s).dr.state = .stale := by rw [hcl]
  obtain ⟨g, lx, ly, hy⟩ := surveyDepth_unsure
    (s := { goStale s with
      su := s.su, eu := if (goStale s).zt.current = s.zt.current then s.eu else latchAll .zoneChange s.eu })
    (by rw [hst]; decide)
  rw [hy] at hsu heu
  exact ⟨{ goStale s with su := s.su }, g, lx, ly, rfl, hst, hsu, heu⟩

theorem goStale_survey (s : State) : SurveyKept s (goStale s) := by
  by_cases h : s.dr.state = .valid
  · obtain ⟨y, g, lx, ly, hy, _, hsu, _⟩ := goStale_su h
    refine ⟨by rw [hsu], by rw [hsu], ?_⟩
    rw [hsu, ← hy]
    exact judgedSurvey_running y
  · rw [goStale, if_neg h]
    exact ⟨rfl, rfl, rfl⟩

theorem EventsAdded.goStale (s : State) : EventsAdded s.eu (goStale s).eu := by
  by_cases h : s.dr.state = .valid
  · obtain ⟨_, _, _, _, _, _, _, heu⟩ := goStale_su h
    rw [heu]
    split
    · exact EventsAdded.refl _
    · exact EventsAdded.latchAll _ _
  · rw [Machine.goStale, if_neg h]
    exact EventsAdded.refl _

/-! ## The loss of each port handed on -/

theorem handLoss_survey (p : Port) (s : State) : SurveyKept s (handLoss p s) := by
  cases p with
  | cabin =>
    obtain ⟨hc, hr, hrun⟩ := haltWheels_survey s
    exact ⟨hc, hr, hrun⟩
  | plant =>
    obtain ⟨hc, hr, hrun⟩ := setDisagree_survey (d := false)
      (s := { s with dr := { s.dr with crossCheck := .noDensity, outRun := 0, inRun := 0 } })
    exact ⟨hc, hr, hrun⟩
  | hoist => exact goStale_survey s

theorem EventsAdded.handLoss (p : Port) (s : State) : EventsAdded s.eu (handLoss p s).eu := by
  cases p with
  | cabin => exact EventsAdded.haltWheels s
  | plant =>
    have h : (suspendCrossCheck s).eu = s.eu := by simp
    exact h ▸ EventsAdded.refl s.eu
  | hoist => exact EventsAdded.goStale s

/-- R121: the claimant lost leaves the survey unowned. -/
theorem surveyLoss_eq (p : Port) (s : State) :
    surveyLoss p s = { s with su := { s.su with
      claimant := if s.su.claimant = some p then none else s.su.claimant
      state := if s.su.claimant = some p ∧ s.su.state.running = false then .idle else s.su.state } } := by
  unfold surveyLoss
  by_cases h : s.su.claimant = some p
  · cases s.su.state.running <;> simp [h, State.setSu]
  · simp [h]

theorem handLoss_keeps (p : Port) (s : State) :
    (handLoss p s).mfe = s.mfe ∧ (handLoss p s).zt.entries = s.zt.entries ∧ (handLoss p s).pi = s.pi := by
  cases p with
  | cabin => simp [handLoss]
  | plant => simp [handLoss]
  | hoist =>
    refine ⟨by simp [handLoss], ?_, by simp [handLoss]⟩
    change (goStale s).zt.entries = s.zt.entries
    by_cases h : s.dr.state = .valid
    · rw [(handDepth_of (goStale_valid h) rfl).1]
    · rw [goStale, if_neg h]

/-- R66, R171: the cabin lost. -/
theorem handLoss_cabin_rc {s : State} (h : s.pi.ports.cabin.link ≠ .active) :
    (handLoss .cabin s).rc = { s.rc with feedLimit := 0 } := by
  have hf : feedNow (haltWheels s) = 0 := feedNow_cabin_lost (by simpa using h)
  rw [handLoss, recomputeFeed_eq, hf, haltWheels_rc]

/-- R25, R171: a VALID depth at the loss of the hoist. -/
theorem handLoss_hoist_valid {s : State} (h : s.dr.state = .valid) :
    (handLoss .hoist s).dr = { s.dr with state := .stale, outRun := 0, inRun := 0 } ∧
    (handLoss .hoist s).rc.feedLimit = 0 ∧
    (s.zt.current = zoneIndexAt s.zt.entries s.zt.selectionDepth → s.zt.selectionDepth = s.dr.depth →
      (handLoss .hoist s).zt = s.zt) ∧
    (handLoss .hoist s).slu.actual = .off ∧
    (s.su.state = .accumulating → (handLoss .hoist s).su.state = .holding) := by
  change (goStale s).dr = _ ∧ (goStale s).rc.feedLimit = 0 ∧ (_ → _ → (goStale s).zt = s.zt) ∧
    (goStale s).slu.actual = .off ∧ (_ → (goStale s).su.state = .holding)
  obtain ⟨hcl, hslu, _, _⟩ := handDepth_of (goStale_valid h) rfl
  have hdr : (goStale s).dr = { s.dr with state := .stale, outRun := 0, inRun := 0 } := by rw [hcl]
  have hst : (goStale s).dr.state ≠ .valid := by simp [hdr]
  refine ⟨hdr, ?_, fun hz hd => ?_, ?_, fun ha => ?_⟩
  · rw [hcl]
    exact feedNow_unsure hst
  · rw [hcl]
    dsimp only
    rw [← hd, ← hz]
  · rw [hslu, steeredSlu_actual, modeNow, if_pos (by simpa using hst)]
  · obtain ⟨y, _, _, _, hy, hyst, hsu, _⟩ := goStale_su h
    rw [hsu]
    simp [judgedSurvey, hy, ha, accumulateOk, hyst]

theorem handLoss_hoist_wheels (s : State) :
    (handLoss .hoist s).sru = s.sru ∧ (handLoss .hoist s).wg.wheels = s.wg.wheels := by
  refine ⟨by simp [handLoss], ?_⟩
  change (goStale s).wg.wheels = s.wg.wheels
  by_cases h : s.dr.state = .valid
  · rw [(handDepth_of (goStale_valid h) rfl).1]
    dsimp only
    split <;> rfl
  · rw [goStale, if_neg h]

/-- Settles O60: a silent port is `portDown`, its loss is handed on by `handLoss`, and `surveyLoss` leaves the survey
unowned. -/
theorem linkTimers : Obligations.LinkTimers := by
  refine ⟨fun p s h => congrArg _ (if_neg h), fun p s h => ?_,
    fun s => ⟨fun h => congrArg _ (if_pos h), fun h => congrArg _ (if_neg (by rw [h]; decide)), rfl⟩⟩
  have hx : exec (.silenceTimerExpiry p) s = .next (surveyLoss p (handLoss p (portDown p s))) := congrArg _ (if_pos h)
  have hu := portDown_eq p s
  have hlost := fun p' hp' => portDown_lost (p := p) (p' := p') s hp'
  have hrefused := portDown_refused (p := p) (s := s)
  generalize portDown p s = u at hx hu hlost hrefused
  have husu : u.su = s.su := by rw [hu]
  have hudr : u.dr = s.dr := by rw [hu]
  have huzt : u.zt = s.zt := by rw [hu]
  have hurc : u.rc = s.rc := by rw [hu]
  have husru : u.sru = s.sru := by rw [hu]
  have huwg : u.wg = s.wg := by rw [hu]
  have huslu : u.slu = s.slu := by rw [hu]
  have hulink : (u.port p).link = .lost := by
    rw [hu]
    cases p <;> rfl
  have hadd := EventsAdded.handLoss p u
  obtain ⟨hcl, hrec, hrun⟩ := handLoss_survey p u
  rw [husu] at hcl hrec hrun
  obtain ⟨hvm, hvz, hvp⟩ := handLoss_keeps p u
  have hst := surveyLoss_eq p (handLoss p u)
  generalize hv : handLoss p u = v at hx hadd hcl hrec hrun hvm hvz hvp hst
  generalize surveyLoss p v = t at hx hst
  have htpi : t.pi = (s.setPort p (lostPort (s.port p))).pi := by rw [hst, hvp, hu]
  refine ⟨t, hx, ?_, ?_, ?_, fun p' hp' => ?_, ?_, fun p' hp' => ?_, fun hq => ?_, fun hown => ?_, fun hown => ?_,
    fun hp => ?_, fun hp => ?_, fun hp => ?_⟩
  · rw [hst, hvm, hu]
  · rw [hst, hvz, huzt]
  · rw [hst, hvp, hu]
    rfl
  · rw [State.port, htpi]
    exact PerPort.get_set_ne _ _ hp'
  · rw [State.port, htpi]
    exact (PerPort.get_set_same ..).trans rfl
  · rw [hst]
    exact hadd.bit (hlost p' hp')
  · rw [hst]
    exact hadd.bit (hrefused hq)
  · rw [hst, hcl, hrun]
    exact ⟨if_pos hown, fun hr => if_pos ⟨hown, hr⟩, hrec⟩
  · rw [hst, hcl]
    exact if_neg hown
  · subst hp
    have hrc := handLoss_cabin_rc (s := u) (by rw [show u.pi.ports.cabin.link = .lost from hulink]; decide)
    obtain ⟨hrecord, hend⟩ := abortRecovery_sru u
    rw [hv, hurc] at hrc
    rw [← haltWheels_sru] at hrecord hend
    rw [husru] at hend
    have hsru : t.sru = (haltWheels u).sru := by rw [hst, ← hv]; rfl
    refine ⟨?_, ?_, ?_, ?_, fun hs => ?_, fun w x hx => ?_⟩
    · rw [hst, ← hv, ← hudr]
      simp [handLoss]
    · rw [hst, ← hv, ← huzt]
      simp [handLoss]
    · rw [hst, hrc]
    · rw [hsru, hrecord]
    · rw [hsru, hend hs]
    · have hw : t.wg.wheels.get w = (haltWheels u).wg.wheels.get w := by rw [hst, ← hv]; rfl
      rw [hw, haltWheels_wheels, huwg, ← hx, haltWheel_eq]
  · subst hp
    have hslu := suspendCrossCheck_slu u
    rw [hudr, huslu, show suspendCrossCheck u = v from hv] at hslu
    refine ⟨?_, ?_, ?_, ?_, ?_⟩
    · rw [hst, ← hv, ← huwg]
      simp [handLoss]
    · rw [hst, ← hv, ← hurc]
      simp [handLoss]
    · rw [hst, ← hv, ← husru]
      simp [handLoss]
    · rw [hst, ← hv, ← hudr]
      exact suspendCrossCheck_dr u
    · rw [hst]
      exact hslu
  · subst hp
    obtain ⟨hsru, hwheels⟩ := handLoss_hoist_wheels u
    rw [hv] at hsru hwheels
    refine ⟨?_, ?_, fun hnv => ?_, fun hval => ?_⟩
    · rw [hst, hsru, husru]
    · rw [hst, hwheels, huwg]
    · have hvu : v = u := hv.symm.trans (if_neg (by rwa [hudr]))
      rw [hst, hvu]
      exact ⟨hudr, hurc⟩
    · have h := handLoss_hoist_valid (s := u) (by rwa [hudr])
      rw [hv, hudr, huzt, husu] at h
      obtain ⟨hd, hf, hzt, hoff, hhold⟩ := h
      refine ⟨by rw [hst, hd], by rw [hst, hf], fun hz hsel => ?_, by rw [hst, hoff], fun ha => ?_⟩
      · obtain ⟨_, _, _, hcur, _⟩ := hz
        rw [hst, hzt hcur hsel]
      · have hkeep : ¬ (v.su.claimant = some .hoist ∧ v.su.state.running = false) := fun hc => by
          have hrunning := hc.2
          rw [hhold ha] at hrunning
          cases hrunning
        rw [hst]
        exact (if_neg hkeep).trans (hhold ha)

end Sys2Proof.Machine
end

section
/-! SUPPORT. The zone that contains a depth (O27), and the order of the zone table (R35, R37). -/

namespace Sys2Proof.Machine

/-! ## The zone that contains a depth (R40) -/

/-- A lookup counts on from the slot it begins at. -/
theorem firstAbove_eq (x : Nat) (es : List ZoneEntry) (k : Nat) :
    firstAbove x es k = (es.findIdx? fun z => x < z.upper).map (· + k) := by
  induction es generalizing k with
  | nil => rfl
  | cons z es ih =>
    rw [firstAbove, List.findIdx?_cons]
    by_cases hz : x < z.upper
    · simp [hz]
    · simp [hz, ih, Function.comp_def, Nat.add_comm, Nat.add_left_comm]

theorem zoneIndexAt_eq {es : List ZoneEntry} (h : es ≠ []) (x : Nat) :
    zoneIndexAt es x = (es.findIdx? fun z => x < z.upper).getD (es.length - 1) := by
  simp [zoneIndexAt, firstAbove_eq, h]

section
variable {es : List ZoneEntry} {x k : Nat} {z : ZoneEntry}

/-- R40: the slot above the depth whose lower slots all end at the depth or before. -/
theorem zoneIndexAt_of_first (hz : es[k]? = some z) (hx : x < z.upper)
    (hlow : ∀ (j : Nat) (y : ZoneEntry), j < k → es[j]? = some y → y.upper ≤ x) : zoneIndexAt es x = k := by
  obtain ⟨hk, rfl⟩ := List.getElem?_eq_some_iff.1 hz
  have hfind : es.findIdx? (fun z => x < z.upper) = some k := by
    refine List.findIdx?_eq_some_iff_getElem.2 ⟨hk, by simpa using hx, fun j hj => ?_⟩
    simpa using hlow j es[j] hj (List.getElem?_eq_getElem _)
  rw [zoneIndexAt_eq (List.ne_nil_of_length_pos (Nat.zero_lt_of_lt hk)), hfind, Option.getD_some]

/-- R40: below the last bound the last slot stands. -/
theorem zoneIndexAt_of_below (h : es ≠ []) (hall : ∀ z ∈ es, z.upper ≤ x) : zoneIndexAt es x = es.length - 1 := by
  have hfind : es.findIdx? (fun z => x < z.upper) = none := List.findIdx?_eq_none_iff.2 fun z hz => by
    simpa using hall z hz
  rw [zoneIndexAt_eq h, hfind, Option.getD_none]

theorem zoneOf_eq (hz : es[k]? = some z) : zoneOf es k = z := by simp [zoneOf, List.getD_eq_getElem?_getD, hz]

/-- A zone is an entry of the table or the default zone. -/
theorem zoneOf_mem (es : List ZoneEntry) (k : Nat) : zoneOf es k ∈ es ∨ zoneOf es k = defaultZone := by
  cases hz : es[k]? with
  | none => exact .inr (by simp [zoneOf, List.getD_eq_getElem?_getD, hz])
  | some z => exact .inl (zoneOf_eq hz ▸ List.mem_of_getElem? hz)

end

@[simp] theorem selectZone_zt (x : Nat) (s : State) :
    (selectZone x s).zt = { s.zt with current := zoneIndexAt s.zt.entries x, selectionDepth := x } := by
  unfold selectZone
  dsimp only
  split <;> simp

/-- Settles O27: a lookup is the first slot found above the depth, and the current zone is selected by
the same lookup. -/
theorem zoneSelection : Obligations.ZoneSelection := by
  refine ⟨fun x => ⟨rfl, rfl⟩, fun es x k z hz hx hlow => ?_, fun es x => zoneIndexAt_of_below,
    fun x s => by rw [selectZone_zt], fun x s => rfl⟩
  have hk := zoneIndexAt_of_first hz hx hlow
  exact ⟨hk, hk ▸ zoneOf_eq hz⟩

/-! ## The table in order (R35, R37) -/

theorem boundsRise_iff {es : List ZoneEntry} :
    BoundsRise es ↔ ∀ (i j : Nat) (y z : ZoneEntry), i < j → es[i]? = some y → es[j]? = some z → y.upper < z.upper := by
  rw [BoundsRise, List.pairwise_iff_getElem]
  constructor
  · intro h i j y z hij hy hz
    obtain ⟨hi, rfl⟩ := List.getElem?_eq_some_iff.1 hy
    obtain ⟨hj, rfl⟩ := List.getElem?_eq_some_iff.1 hz
    exact h i j hi hj hij
  · exact fun h i j hi hj hij => h i j _ _ hij (List.getElem?_eq_getElem hi) (List.getElem?_eq_getElem hj)

/-- R37: an upper bound that fits slot k of a table: above the bounds of the lower slots, below those of the higher. -/
def FitsAt (es : List ZoneEntry) (k upper : Nat) : Prop :=
  ∀ (j : Nat) (y : ZoneEntry), es[j]? = some y → (j < k → y.upper < upper) ∧ (k < j → upper < y.upper)

section
variable {es : List ZoneEntry} {k : Nat} {z : ZoneEntry}

/-- R37, check 3: in a table in order the two neighbours of a slot speak for the slots beyond them. -/
theorem boundInOrder_iff {upper : Nat} (h : BoundsRise es) (hk : k ≤ es.length) :
    boundInOrder es k upper = true ↔ FitsAt es k upper := by
  have hrise := boundsRise_iff.1 h
  unfold boundInOrder
  rw [Bool.and_eq_true]
  constructor
  · rintro ⟨habove, hbelow⟩ j y hy
    constructor
    · intro hj
      obtain ⟨i, rfl⟩ := Nat.exists_eq_add_one_of_ne_zero (Nat.ne_zero_of_lt hj)
      have hi : es[i]? = some es[i] := List.getElem?_eq_getElem (by omega)
      simp only [hi, decide_eq_true_eq] at habove
      rcases Nat.lt_succ_iff_lt_or_eq.1 hj with hlt | rfl
      · exact (hrise j i y _ hlt hy hi).trans habove
      · cases hi.symm.trans hy
        exact habove
    · intro hj
      obtain ⟨hlt, rfl⟩ := List.getElem?_eq_some_iff.1 hy
      have hnext : es[k + 1]? = some es[k + 1] := List.getElem?_eq_getElem (by omega)
      simp only [hnext, decide_eq_true_eq] at hbelow
      rcases Nat.eq_or_lt_of_le (Nat.succ_le_of_lt hj) with rfl | hlt'
      · exact hbelow
      · exact hbelow.trans (hrise (k + 1) j _ _ hlt' hnext hy)
  · intro hfits
    constructor
    · split
      · rfl
      · next i =>
        have hi : es[i]? = some es[i] := List.getElem?_eq_getElem (by omega)
        simp only [hi, decide_eq_true_eq]
        exact (hfits i _ hi).1 (Nat.lt_succ_self i)
    · split
      · next y hy => simpa using (hfits _ y hy).2 (Nat.lt_succ_self k)
      · rfl

theorem putZone_getElem? (hk : k ≤ es.length) (j : Nat) :
    (putZone es k z)[j]? = if j = k then some z else es[j]? := by
  unfold putZone
  split
  · next hlt => simp [List.getElem?_set, hlt, eq_comm]
  · next hge =>
    obtain rfl : k = es.length := by omega
    split
    · next h => simp [h]
    · next h =>
      rcases Nat.lt_or_gt_of_ne h with hlt | hgt
      · exact List.getElem?_append_left hlt
      · rw [List.getElem?_eq_none (by simpa using hgt), List.getElem?_eq_none hgt.le]

theorem length_putZone_le (hk : k ≤ 7) (hl : es.length ≤ 8) : (putZone es k z).length ≤ 8 := by
  unfold putZone
  split <;> simp <;> omega

theorem mem_putZone {y : ZoneEntry} (h : y ∈ putZone es k z) : y ∈ es ∨ y = z := by
  unfold putZone at h
  split at h
  · exact List.mem_or_eq_of_mem_set h
  · simpa using h

/-- R37: an entry whose bound fits its slot leaves the table in order. -/
theorem boundsRise_putZone (h : BoundsRise es) (hk : k ≤ es.length) (hfits : FitsAt es k z.upper) :
    BoundsRise (putZone es k z) := by
  refine boundsRise_iff.2 fun i j y y' hij hy hy' => ?_
  rw [putZone_getElem? hk] at hy hy'
  split at hy
  · next hi =>
    rw [if_neg (by omega)] at hy'
    cases hy
    exact (hfits j y' hy').2 (by omega)
  · split at hy'
    · next hj =>
      cases hy'
      exact (hfits i y hy).1 (by omega)
    · exact boundsRise_iff.1 h i j y y' hij hy hy'

/-- R37, check 1: an entry taken has every field within its range of R35. -/
theorem entryLegal_zoneFields {upper cls speed hold stall feed selector : Nat}
    (h : zoneFields upper cls speed hold stall feed selector = some z) : EntryLegal z ∧ z.upper = upper := by
  unfold zoneFields at h
  split at h
  · split at h
    · next hr =>
      cases h
      simp only [Bool.and_eq_true, inRange_iff, and_assoc] at hr
      obtain ⟨hu, hu', _, hs, hh, _, hst, hst', _, hf⟩ := hr
      exact ⟨⟨hu, hu', hs, hh, hst, hst', hf⟩, rfl⟩
    · cases h
  · cases h

end

end Sys2Proof.Machine
end

section
/-! SUPPORT. The reference of one wheel (R48): what each change of a wheel makes of it. -/

namespace Sys2Proof.Machine

/-- R48: an accumulator whose present reference is not negative, and not above 350. -/
def Forward (acc : Int) : Prop := -10 < acc ∧ acc ≤ 3500

theorem present_neg_iff {w : WheelRec} : w.present < 0 ↔ w.acc ≤ -10 := by
  rw [present_eq]
  split <;> omega

theorem forward_zero : Forward 0 := ⟨by decide, by decide⟩

theorem Forward.legal {w : WheelRec} (h : Forward w.acc) : ReferenceLegal w := by
  obtain ⟨hlo, hhi⟩ := h
  exact ⟨by omega, hhi, fun hn => absurd (present_neg_iff.1 hn) (by omega)⟩

namespace ReferenceLegal
variable {w : WheelRec}

/-- A reference is negative only while the wheel is RECOVERING. -/
theorem forward (h : ReferenceLegal w) (hs : w.state ≠ .recovering) : Forward w.acc := by
  obtain ⟨_, hhi, hneg⟩ := h
  rw [present_neg_iff] at hneg
  exact ⟨lt_of_not_ge (mt hneg hs), hhi⟩

/-- R48: a change away from RECOVERING sets a negative reference to 0. -/
theorem noReverse (h : ReferenceLegal w) : Forward (noReverse w).acc := by
  obtain ⟨_, hhi, _⟩ := h
  unfold Machine.noReverse
  split
  · exact forward_zero
  · next hn => exact ⟨lt_of_not_ge (mt present_neg_iff.2 hn), hhi⟩

/-- A change that leaves the accumulator and the state. -/
theorem congr {v : WheelRec} (h : ReferenceLegal w) (ha : v.acc = w.acc) (hs : v.state = w.state) :
    ReferenceLegal v := by
  unfold ReferenceLegal WheelRec.present
  rw [ha, hs]
  exact h

/-- R63: a wheel at a halt. -/
theorem halt (h : ReferenceLegal w) : ReferenceLegal (haltWheel w) := by
  obtain ⟨_, hhi, _⟩ := id h
  rw [haltWheel_eq]
  split
  · exact h
  · split
    · exact Forward.legal forward_zero
    · exact Forward.legal ⟨by dsimp only; omega, hhi⟩

/-- R64: a HALTING wheel come to rest. -/
theorem rest (h : ReferenceLegal w) : ReferenceLegal (restWheel w) := by
  unfold restWheel
  split
  · exact Forward.legal forward_zero
  · exact h

/-- R61: the partner of a wheel in fault. -/
theorem standAside (h : ReferenceLegal w) : ReferenceLegal (standAside w) := by
  unfold Machine.standAside
  split
  · next hs => exact Forward.legal (h.forward (by rintro he; simp [he] at hs))
  · exact h

/-- R65: a HALTED wheel released. -/
theorem release (h : ReferenceLegal w) : ReferenceLegal (releaseWheel w) := by
  unfold releaseWheel
  split
  · next hs => exact Forward.legal (h.forward (by rw [hs]; decide))
  · exact h

/-- R62, R83: a wheel after CLEAR_JAM. -/
theorem unjam {g : Wg} {id : Wheel} (h : ReferenceLegal (g.wheels.get id)) : ReferenceLegal (unjam g id) := by
  unfold Machine.unjam
  dsimp only
  split
  · next hs => exact Forward.legal (h.forward (by rintro he; simp [he, jammedOrFault] at hs))
  · exact h

end ReferenceLegal

/-! ## The update and the recovery (R54, R55, R75) -/

/-- R55: a value moved toward a target stays between the two. -/
theorem moveToward_between (v target : Int) (step : Nat) :
    min v target ≤ moveToward v target step ∧ moveToward v target step ≤ max v target := by
  unfold moveToward
  split
  · omega
  · split <;> omega

theorem Forward.moveToward {acc target : Int} (h : Forward acc) (h0 : 0 ≤ target) (h1 : target ≤ 3500) (step : Nat) :
    Forward (moveToward acc target step) := by
  have hb := moveToward_between acc target step
  unfold Forward at h ⊢
  omega

/-- R53: a normal target lies between 0 and the ceiling. -/
theorem normalTarget_bounds (id : Wheel) (ceiling sEff : Nat) (trim : Int) :
    0 ≤ normalTarget id ceiling sEff trim ∧ normalTarget id ceiling sEff trim ≤ ceiling := by
  cases id <;> exact clampInt_bounds _ (Int.natCast_nonneg ceiling)

/-- R75: the target of a phase lies within the reverse speed and the ceiling. -/
theorem phaseTarget_bounds (k : RecoverySettings) (ceiling : Nat) (p : Phase) :
    -(k.reverseSpeed : Int) ≤ phaseTarget k ceiling p ∧ phaseTarget k ceiling p ≤ ceiling := by
  cases p
  case probe => exact ⟨by simp only [phaseTarget]; omega, by simp only [phaseTarget]; omega⟩
  all_goals simp [phaseTarget]

theorem settleWheel_acc (w : WheelRec) : (settleWheel w).acc = w.acc := by
  unfold settleWheel
  (repeat' split) <;> rfl

theorem stallWheel_acc (p k : Nat) (v : Int) (w : WheelRec) : (stallWheel p k v w).acc = w.acc := by
  unfold stallWheel
  split <;> rfl

/-- R55: what an update makes of a reference that is not negative, under a ceiling of at most 350. -/
theorem forward_moveWheel {g : Wg} {w : WheelRec} (p : Nat) (id : Wheel) (h : Forward w.acc) (hc : g.ceiling ≤ 350) :
    Forward (moveWheel g p id w).acc := by
  obtain ⟨h0, h1⟩ := normalTarget_bounds id g.ceiling g.sEff g.trim
  unfold moveWheel
  split
  case h_1 | h_2 =>
    dsimp only [rampWheel]
    split
    · exact h
    · exact h.moveToward (by omega) (by omega) _
  case h_3 | h_4 => exact h.moveToward le_rfl (by decide) _
  all_goals exact h

/-- R54: a wheel at an update. -/
theorem ReferenceLegal.govern {s : State} {id : Wheel} (h : ReferenceLegal (s.wg.wheels.get id))
    (hc : s.wg.ceiling ≤ 350) : ReferenceLegal (governWheel s id) := by
  by_cases hs : (s.wg.wheels.get id).state = .recovering
  · rw [governWheel_standing rfl (by simp [hs])]
    exact h.congr rfl rfl
  · refine Forward.legal ?_
    rw [governWheel, stallWheel_acc, settleWheel_acc]
    exact forward_moveWheel _ _ (h.forward hs) hc

/-- R75: the wheel of a recovery, moved toward the target of its phase. -/
theorem ReferenceLegal.drive {w : WheelRec} {k : RecoverySettings} {ceiling : Nat} (h : ReferenceLegal w)
    (hs : w.state = .recovering) (hk : k.reverseSpeed ≤ 100) (hc : ceiling ≤ 350) (p : Phase) (step : Nat) :
    ReferenceLegal { w with acc := moveToward w.acc (10 * phaseTarget k ceiling p) step } := by
  obtain ⟨hlo, hhi, _⟩ := h
  obtain ⟨h0, h1⟩ := phaseTarget_bounds k ceiling p
  obtain ⟨hb0, hb1⟩ := moveToward_between w.acc (10 * phaseTarget k ceiling p) step
  exact ⟨by dsimp only; omega, by dsimp only; omega, fun _ => hs⟩

end Sys2Proof.Machine
end

section
/-! SUPPORT. What the zone table, the zone values in force, the references and their bounds are made of (`Ground`), and
what each operation makes of it (O16, O18). `KeepsGround s t` says that a state `t` has each of the two invariants that
`s` has; most operations leave the ground as it was. -/

namespace Sys2Proof.Machine

/-! ## What each operation leaves of the zone feed ceiling (R43) and of the recovery settings (R71) -/

@[simp] theorem recomputeFeed_feedCeiling (s : State) : (recomputeFeed s).rc.feedCeiling = s.rc.feedCeiling := rfl

@[simp] theorem rejudgeShort_feedCeiling (s : State) : (rejudgeShort s).rc.feedCeiling = s.rc.feedCeiling := by
  rw [rejudgeShort_eq]

@[simp] theorem recomputeDemand_feedCeiling (r : Rc) : (recomputeDemand r).feedCeiling = r.feedCeiling := rfl

@[simp] theorem recomputeFloor_feedCeiling (s : State) : (recomputeFloor s).rc.feedCeiling = s.rc.feedCeiling := by
  rw [recomputeFloor_eq]; rfl

@[simp] theorem changeReturn_feedCeiling (st : ReturnState) (s : State) :
    (changeReturn st s).rc.feedCeiling = s.rc.feedCeiling := by
  cases st <;> rfl

@[simp] theorem startPriming_feedCeiling (s : State) : (startPriming s).rc.feedCeiling = s.rc.feedCeiling :=
  changeReturn_feedCeiling ..

@[simp] theorem testPlant_feedCeiling (s : State) : (testPlant s).rc.feedCeiling = s.rc.feedCeiling := by
  unfold testPlant; split <;> simp

@[simp] theorem returnOff_feedCeiling (s : State) : (returnOff s).rc.feedCeiling = s.rc.feedCeiling :=
  changeReturn_feedCeiling ..

@[simp] theorem starve_feedCeiling (s : State) : (starve s).rc.feedCeiling = s.rc.feedCeiling :=
  changeReturn_feedCeiling ..

@[simp] theorem setFeedRate_feedCeiling (v : Nat) (s : State) :
    (setFeedRate v s).rc.feedCeiling = s.rc.feedCeiling := by
  unfold setFeedRate; split <;> simp

@[simp] theorem emptyHistory_feedCeiling (s : State) : (emptyHistory s).rc.feedCeiling = s.rc.feedCeiling :=
  setFeedRate_feedCeiling ..

@[simp] theorem handWheels_feedCeiling (before : PerWheel WheelRec) (s : State) :
    (handWheels before s).rc.feedCeiling = s.rc.feedCeiling := by
  unfold handWheels; split <;> rfl

@[simp] theorem hear_feedCeiling (p : Port) (s : State) : (hear p s).rc.feedCeiling = s.rc.feedCeiling := by
  rw [hear_rc]

@[simp] theorem clearRecord_settings (s : State) : (clearRecord s).sru.settings = s.sru.settings := by
  unfold clearRecord; simp

@[simp] theorem setOutcome_settings (how : RecoveryEnd) (r : Recovery) (s : State) :
    (setOutcome how r s).sru.settings = s.sru.settings := rfl

@[simp] theorem abortRecovery_settings (s : State) : (abortRecovery s).sru.settings = s.sru.settings := by
  unfold abortRecovery; split <;> simp

@[simp] theorem State.setWheel_wg (w : Wheel) (v : WheelRec) (s : State) :
    (s.setWheel w v).wg = { s.wg with wheels := s.wg.wheels.set w v } := rfl

/-! ## The ground -/

/-- What `ReferencesLegal` and `ZonesLegal` read of a state. -/
structure Ground where
  zt : Zt
  wheels : PerWheel WheelRec
  ceiling : Nat
  zoneCeiling : Nat
  zoneHold : Nat
  zoneStall : Nat
  reverseSpeed : Nat
  feedCeiling : Nat

def ground (s : State) : Ground :=
  { zt := s.zt, wheels := s.wg.wheels, ceiling := s.wg.ceiling, zoneCeiling := s.wg.zoneCeiling
    zoneHold := s.wg.zoneHold, zoneStall := s.wg.zoneStall, reverseSpeed := s.sru.settings.reverseSpeed
    feedCeiling := s.rc.feedCeiling }

theorem ReferencesLegal.congr {s t : State} (h : ReferencesLegal s) (he : ground t = ground s) : ReferencesLegal t := by
  obtain ⟨hz, hw, hc, hzc, _, _, hr, _⟩ := Ground.mk.inj he
  unfold ReferencesLegal
  rw [hz, hw, hc, hzc, hr]
  exact h

theorem ReferencesLegal.wheel {s : State} (h : ReferencesLegal s) (w : Wheel) : ReferenceLegal (s.wg.wheels.get w) := by
  obtain ⟨ha, hb, _⟩ := h
  cases w
  · exact ha
  · exact hb

theorem ReferencesLegal.wheels {s : State} (h : ReferencesLegal s) :
    ReferenceLegal s.wg.wheels.a ∧ ReferenceLegal s.wg.wheels.b := ⟨h.wheel .a, h.wheel .b⟩

/-- One wheel of a legal pair of references replaced. -/
theorem legal_set {ws : PerWheel WheelRec} {w : Wheel} {v : WheelRec} (hv : ReferenceLegal v)
    (h : ReferenceLegal ws.a ∧ ReferenceLegal ws.b) :
    ReferenceLegal (ws.set w v).a ∧ ReferenceLegal (ws.set w v).b := by
  obtain ⟨ha, hb⟩ := h
  cases w
  · exact ⟨hv, hb⟩
  · exact ⟨ha, hv⟩

/-- R43: the zone values that WG and RC work with are those of a zone. -/
def InForce (z : ZoneEntry) (s : State) : Prop :=
  s.wg.zoneCeiling = z.speedCeiling ∧ s.wg.zoneHold = z.holdPressure ∧ s.wg.zoneStall = z.stallPressure ∧
  s.rc.feedCeiling = z.feedCeiling

theorem inForce_handZone (s : State) : InForce (zoneOf s.zt.entries s.zt.current) (handZone s) :=
  ⟨rfl, rfl, rfl, rfl⟩

/-- R35: the table on its own. -/
def TableLegal (es : List ZoneEntry) : Prop := es.length ≤ 8 ∧ BoundsRise es ∧ ∀ z ∈ es, EntryLegal z

theorem zonesLegal_iff (s : State) :
    ZonesLegal s ↔ TableLegal s.zt.entries ∧ s.zt.current = zoneIndexAt s.zt.entries s.zt.selectionDepth ∧
      InForce (zoneOf s.zt.entries s.zt.current) s := by
  simp only [ZonesLegal, TableLegal, InForce, and_assoc]

/-- Each of the two invariants that holds of `s` holds of `t`. -/
structure KeepsGround (s t : State) : Prop where
  references : ReferencesLegal s → ReferencesLegal t
  zones : ZonesLegal s → ZonesLegal t

namespace KeepsGround

variable {a s t : State}

theorem refl (s : State) : KeepsGround s s := ⟨id, id⟩

theorem same (h : KeepsGround a s) (he : ground t = ground s) : KeepsGround a t := by
  refine ⟨fun ha => (h.references ha).congr he, fun ha => ?_⟩
  obtain ⟨hz, _, _, hzc, hzh, hzs, _, hf⟩ := Ground.mk.inj he
  unfold ZonesLegal
  rw [hz, hzc, hzh, hzs, hf]
  exact h.zones ha

/-- The zones read nothing of the wheels. -/
theorem setWheels {ws : PerWheel WheelRec} (h : KeepsGround a s)
    (hw : ReferencesLegal s → ReferenceLegal ws.a ∧ ReferenceLegal ws.b)
    (he : ground t = { ground s with wheels := ws }) : KeepsGround a t := by
  have hs : KeepsGround a { s with wg := { s.wg with wheels := ws } } := by
    refine ⟨fun ha => ?_, h.zones⟩
    obtain ⟨_, _, hbounds⟩ := h.references ha
    obtain ⟨hwa, hwb⟩ := hw (h.references ha)
    exact ⟨hwa, hwb, hbounds⟩
  exact hs.same he

theorem ite {c : Prop} [Decidable c] {u : State} (ht : c → KeepsGround a t) (hu : ¬ c → KeepsGround a u) :
    KeepsGround a (if c then t else u) := by
  split
  · next hc => exact ht hc
  · next hc => exact hu hc

/-! ## The zone table (R37 to R43) -/

/-- R43: a zone's values handed, when the table and the selection are as they shall be. -/
theorem handZone (hr : ReferencesLegal a → ReferencesLegal s)
    (hz : ZonesLegal a → TableLegal s.zt.entries ∧ s.zt.current = zoneIndexAt s.zt.entries s.zt.selectionDepth) :
    KeepsGround a (handZone s) := by
  refine ⟨fun ha => ?_, fun ha => ?_⟩
  · obtain ⟨hwa, hwb, hc, _, hes, hk⟩ := hr ha
    refine ⟨hwa, hwb, hc, ?_, hes, hk⟩
    have hceiling : (zoneOf s.zt.entries s.zt.current).speedCeiling ≤ 350 := by
      rcases zoneOf_mem s.zt.entries s.zt.current with hm | hd
      · exact hes _ hm
      · rw [hd]; decide
    exact hceiling
  · obtain ⟨htable, hcur⟩ := hz ha
    exact (zonesLegal_iff _).2 ⟨htable, hcur, inForce_handZone s⟩

/-- R41: the current zone re-selected. -/
theorem selectZone {x : Nat} (h : KeepsGround a s) : KeepsGround a (selectZone x s) := by
  unfold Machine.selectZone
  dsimp only
  split
  · next hi =>
    refine ⟨h.references, fun ha => (zonesLegal_iff _).2 ?_⟩
    obtain ⟨htable, _, hforce⟩ := (zonesLegal_iff s).1 (h.zones ha)
    exact ⟨htable, rfl, hi ▸ hforce⟩
  · exact handZone h.references fun ha => ⟨((zonesLegal_iff s).1 (h.zones ha)).1, rfl⟩

/-- R39: the table changed, with the current zone selected afresh. -/
theorem changeTable {es : List ZoneEntry} (h : KeepsGround a s)
    (hes : (∀ z ∈ s.zt.entries, z.speedCeiling ≤ 350) → ∀ z ∈ es, z.speedCeiling ≤ 350)
    (htable : TableLegal s.zt.entries → TableLegal es) : KeepsGround a (changeTable es s) := by
  have hr : ∀ i, ReferencesLegal a → ReferencesLegal { s with zt := { s.zt with entries := es, current := i } } := by
    intro i ha
    obtain ⟨hwa, hwb, hc, hzc, hz, hk⟩ := h.references ha
    exact ⟨hwa, hwb, hc, hzc, hes hz, hk⟩
  have ht (ha : ZonesLegal a) : TableLegal es := htable ((zonesLegal_iff s).1 (h.zones ha)).1
  unfold Machine.changeTable
  dsimp only
  split
  · exact handZone (hr _) fun ha => ⟨ht ha, rfl⟩
  · next hi =>
    split
    · exact handZone (hr _) fun ha => ⟨ht ha, rfl⟩
    · next hz =>
      refine ⟨hr _, fun ha => (zonesLegal_iff _).2 ⟨ht ha, rfl, ?_⟩⟩
      have hforce := ((zonesLegal_iff s).1 (h.zones ha)).2.2
      rw [← not_not.1 hi, ← not_not.1 hz] at hforce
      exact hforce

/-- R37: an entry taken. -/
theorem loadZone {k upper cls speed hold stall feed selector : Nat} (h : KeepsGround a s)
    (ht : applyLoadZone k upper cls speed hold stall feed selector s = .ok t) : KeepsGround a t := by
  unfold applyLoadZone at ht
  split at ht
  · cases ht
  next z hz =>
  obtain ⟨hlegal, hupper⟩ := entryLegal_zoneFields hz
  (repeat' split at ht) <;> cases ht
  next hk hn ho =>
  have hk' : k ≤ s.zt.entries.length := Nat.le_of_not_lt hn
  have hmem {P : ZoneEntry → Prop} (hes : ∀ y ∈ s.zt.entries, P y) (hnew : P z) :
      ∀ y ∈ putZone s.zt.entries k z, P y := fun y hy => (mem_putZone hy).elim (hes y) fun he => he ▸ hnew
  obtain ⟨_, _, hspeed, _⟩ := id hlegal
  refine h.changeTable (fun hes => hmem hes hspeed) fun ⟨hlen, hrise, hes⟩ => ?_
  have hfits : FitsAt s.zt.entries k z.upper := by
    rw [hupper]
    exact (boundInOrder_iff hrise hk').1 (by simpa using ho)
  exact ⟨length_putZone_le (Nat.le_of_not_lt hk) hlen, boundsRise_putZone hrise hk' hfits, hmem hes hlegal⟩

/-- R38: the table cut. -/
theorem dropZone {k : Nat} (h : KeepsGround a s) (ht : applyDropZone k s = .ok t) : KeepsGround a t := by
  have hmem {z : ZoneEntry} (hz : z ∈ s.zt.entries.take k) : z ∈ s.zt.entries := List.mem_of_mem_take hz
  unfold applyDropZone at ht
  (repeat' split at ht) <;> cases ht
  · refine h.changeTable (fun hes z hz => hes z (hmem hz)) fun ⟨hlen, hrise, hes⟩ => ?_
    exact ⟨(List.length_take_le' ..).trans hlen, hrise.sublist (List.take_sublist ..), fun z hz => hes z (hmem hz)⟩
  · exact h

/-! ## Depth (R20 to R31) -/

theorem handDepth (h : KeepsGround a s) : KeepsGround a (handDepth s) := by
  refine (h.selectZone (x := s.dr.depth)).same ?_
  simp [Machine.handDepth, ground]

theorem reportCount {count : Int} (h : KeepsGround a s) : KeepsGround a (reportCount count s) := by
  unfold Machine.reportCount
  split
  · exact h.same rfl
  · exact handDepth (h.same (by simp [ground]))
  · exact handDepth (h.same (by simp [ground]))

theorem takeDatum {v : Nat} (h : KeepsGround a s) : KeepsGround a (takeDatum v s) :=
  handDepth (h.same (by simp [ground]))

theorem goStale (h : KeepsGround a s) : KeepsGround a (goStale s) :=
  .ite (fun _ => handDepth (h.same rfl)) fun _ => h

/-! ## The wheels (R59 to R66) -/

theorem haltWheels (h : KeepsGround a s) : KeepsGround a (haltWheels s) :=
  h.setWheels (ws := { a := haltWheel s.wg.wheels.a, b := haltWheel s.wg.wheels.b })
    (fun hr => ⟨(hr.wheel .a).halt, (hr.wheel .b).halt⟩) (by simp [Machine.haltWheels, ground])

/-- R59: the stalled wheel is RECOVERING, and its partner stands by without a negative reference. -/
theorem takeStall {w : Wheel} (h : KeepsGround a s) : KeepsGround a (takeStall w s) := by
  refine h.setWheels
    (ws := (s.wg.wheels.set w (quietWheel .recovering 0 (s.wg.wheels.get w))).set (other w)
      (quietWheel .standby 0 (noReverse (s.wg.wheels.get (other w)))))
    (fun hr => ?_) (by simp [Machine.takeStall, ground])
  obtain ⟨hlo, hhi, _⟩ := hr.wheel w
  exact legal_set (Forward.legal (hr.wheel _).noReverse) (legal_set ⟨hlo, hhi, fun _ => rfl⟩ hr.wheels)

/-- R61: the wheel in fault holds reference 0, and its partner stands aside. -/
theorem takeTachFault {w : Wheel} (h : KeepsGround a s) : KeepsGround a (takeTachFault w s) :=
  h.setWheels
    (ws := (s.wg.wheels.set w (quietWheel .tachFault 0 { s.wg.wheels.get w with acc := 0 })).set (other w)
      (Machine.standAside (s.wg.wheels.get (other w))))
    (fun hr => legal_set (hr.wheel _).standAside (legal_set (Forward.legal forward_zero) hr.wheels))
    (by simp [Machine.takeTachFault, ground])

theorem clearJamTaken (h : KeepsGround a s) : KeepsGround a (clearJamTaken s) :=
  h.setWheels (ws := { a := unjam s.wg .a, b := unjam s.wg .b })
    (fun hr => ⟨(hr.wheel .a).unjam, (hr.wheel .b).unjam⟩) (by simp [Machine.clearJamTaken, ground])

theorem releaseWheels (h : KeepsGround a s) : KeepsGround a (releaseWheels s) :=
  h.setWheels (ws := { a := releaseWheel s.wg.wheels.a, b := releaseWheel s.wg.wheels.b })
    (fun hr => ⟨(hr.wheel .a).release, (hr.wheel .b).release⟩) (by simp [Machine.releaseWheels, ground])

/-- R60: a count of zero gates leaves the reference. -/
theorem judgeGate {w : Wheel} {pulses : Nat} (h : KeepsGround a s) : KeepsGround a (judgeGate w pulses s) := by
  have hcount (n : Nat) : KeepsGround a (s.setWheel w { s.wg.wheels.get w with zeroGates := n }) :=
    h.setWheels (ws := s.wg.wheels.set w { s.wg.wheels.get w with zeroGates := n })
      (fun hr => legal_set ((hr.wheel w).congr rfl rfl) hr.wheels) rfl
  exact .ite (fun _ => .ite (fun _ => .ite (fun _ => h.takeTachFault) fun _ => hcount _) fun _ => hcount 0) fun _ => h

/-! ## A posted request applied (R185) -/

/-- What the owning block of a posted request answers, when it is taken. -/
theorem applied {p : Port} {r : Posted} (h : KeepsGround a s) (ht : applyPosted p r s = .ok t) : KeepsGround a t := by
  cases r
  case loadZone => exact h.loadZone ht
  case dropZone => exact h.dropZone ht
  case clearJam =>
    simp only [applyPosted, applyClearJam] at ht
    split at ht <;> cases ht
    exact h.clearJamTaken
  case setRecovery k =>
    simp only [applyPosted, applySetRecovery] at ht
    split at ht <;> cases ht
    next hk =>
    obtain ⟨_, ⟨_, hrev⟩, _⟩ := (recoveryOk_iff k).1 hk
    refine ⟨fun ha => ?_, h.zones⟩
    obtain ⟨hwa, hwb, hc, hzc, hz, _⟩ := h.references ha
    exact ⟨hwa, hwb, hc, hzc, hz, hrev⟩
  case setSteerMode | setSteerGains | setPlate | clearPlate | setPumpDemand | setTransport =>
    simp only [applyPosted, applySetSteerMode, applySetSteerGains, applySetPlate, applyClearPlate, applySetPumpDemand,
      applySetTransport] at ht
    (repeat' split at ht) <;> cases ht <;> exact h.same (by simp [ground])
  case setWheelDemand | setRamp | setTrimManual => cases ht; exact h.same rfl
  all_goals
    simp only [applyPosted, applySetScaler, applySetDepthCheck, applySetFallbackSpeed, applySetPortTimeout,
      applyAckEvents, applySetEventEnables, applySetAlertLine, applySetMarkWidth] at ht
    (repeat' split at ht) <;> cases ht
    exact h.same rfl

theorem applyEntry {p : Port} {e : Entry} (h : KeepsGround a s) : KeepsGround a (applyEntry p e s) := by
  unfold Machine.applyEntry
  split
  · next ht => exact h.applied ht
  · exact h.same rfl

/-! ## The posted queues (R184 to R186) -/

theorem drainList {p : Port} {es : List Entry} (h : KeepsGround a s) : KeepsGround a (drainList p es s) := by
  induction es generalizing s with
  | nil => exact h.same rfl
  | cons e es ih => exact .ite (fun _ => h.same rfl) fun _ => ih h.applyEntry

theorem releaseHead {concerns : Posted → Bool} (h : KeepsGround a s) : KeepsGround a (releaseHead concerns s) := by
  unfold Machine.releaseHead
  split
  · exact .ite (fun _ => h.drainList) fun _ => h
  · exact h

theorem joinQueue {p : Port} {e : Entry} (h : KeepsGround a s) : KeepsGround a (joinQueue p e s) :=
  .ite (fun _ => h.drainList) fun _ => h.same rfl

/-! ## The governor update and the recovery (R54, R75) -/

/-- R82: both wheels handed back, and the record cleared. -/
theorem endRecovered {r : Recovery} (h : KeepsGround a s) : KeepsGround a (endRecovered r s) := by
  have hw : KeepsGround a (clearRecord (recomputeFeed
      { s with wg := { s.wg with wheels := { a := handBack s.wg .a, b := handBack s.wg .b } } })) := by
    have handed {w : Wheel} (hr : ReferencesLegal s) : ReferenceLegal (handBack s.wg w) :=
      Forward.legal (hr.wheel w).noReverse
    exact h.setWheels (ws := { a := handBack s.wg .a, b := handBack s.wg .b }) (fun hr => ⟨handed hr, handed hr⟩)
      (by simp [ground])
  exact hw.releaseHead.same rfl

/-- R81: the wheel is JAMMED at reference 0, and the record cleared. -/
theorem endJammed {r : Recovery} (h : KeepsGround a s) : KeepsGround a (endJammed r s) := by
  have hw : KeepsGround a (clearRecord (recomputeFeed
      (s.setWheel r.wheel (quietWheel .jammed 0 { s.wg.wheels.get r.wheel with acc := 0 })))) :=
    h.setWheels (ws := s.wg.wheels.set r.wheel (quietWheel .jammed 0 { s.wg.wheels.get r.wheel with acc := 0 }))
      (fun hr => legal_set (Forward.legal forward_zero) hr.wheels) (by simp [ground])
  exact hw.releaseHead.same rfl

theorem failBurst {r : Recovery} (h : KeepsGround a s) : KeepsGround a (failBurst r s) :=
  .ite (fun _ => h.same rfl) fun _ => h.endJammed

/-- R75, steps 2 to 4: the wheel of the record is RECOVERING, so its reference may turn negative. -/
theorem driveRecovery {r : Recovery} (h : KeepsGround a s) (hs : (s.wg.wheels.get r.wheel).state = .recovering) :
    KeepsGround a (driveRecovery r s) := by
  have hmoved (record : Option Recovery) : KeepsGround a ((s.setWheel r.wheel
      { s.wg.wheels.get r.wheel with
        acc := moveToward (s.wg.wheels.get r.wheel).acc (10 * phaseTarget s.sru.settings s.wg.ceiling r.phase)
          (phaseStep s.wg.ramp r.phase) }).setRecord record) := by
    refine h.setWheels (ws := s.wg.wheels.set r.wheel _) (fun hr => ?_) rfl
    obtain ⟨_, _, hc, _, _, hk⟩ := id hr
    exact legal_set ((hr.wheel r.wheel).drive hs hk hc _ _) hr.wheels
  exact .ite (fun _ => failBurst (hmoved _)) fun _ => hmoved _

theorem stepRecovery {r : Recovery} (h : KeepsGround a s) (hs : (s.wg.wheels.get r.wheel).state = .recovering) :
    KeepsGround a (stepRecovery r s) := by
  unfold Machine.stepRecovery
  dsimp only
  (repeat' split)
  · exact h.driveRecovery hs
  · exact h.endRecovered
  · exact h.driveRecovery hs

/-- R52: the ceiling of an update is no higher than that of the zone. -/
theorem retarget (h : KeepsGround a s) : KeepsGround a (retarget s) := by
  refine ⟨fun ha => ?_, h.zones⟩
  obtain ⟨hwa, hwb, _, hzc, hz, hk⟩ := h.references ha
  have hc : ceilingNow s ≤ s.wg.zoneCeiling := by
    unfold ceilingNow
    split
    · exact le_rfl
    · exact Nat.min_le_left ..
  exact ⟨hwa, hwb, hc.trans hzc, hzc, hz, hk⟩

/-- R54, steps 1 to 5. -/
theorem governed {pa pb : Int} (h : KeepsGround a s) : KeepsGround a (governed pa pb s) := by
  have ht : KeepsGround a (Machine.retarget (samplePressures pa pb s)) := retarget (h.same rfl)
  generalize hu : Machine.retarget (samplePressures pa pb s) = u at ht
  rw [Machine.governed, hu]
  refine ht.setWheels (ws := { a := governWheel u .a, b := governWheel u .b }) (fun hr => ?_) rfl
  obtain ⟨_, _, hc, _⟩ := id hr
  exact ⟨(hr.wheel .a).govern hc, (hr.wheel .b).govern hc⟩

theorem takeStalls (h : KeepsGround a s) : KeepsGround a (takeStalls s) := by
  unfold Machine.takeStalls
  split
  · exact h.takeStall
  · exact h

theorem restWheels (h : KeepsGround a s) : KeepsGround a (restWheels s) :=
  h.setWheels (ws := { a := restWheel s.wg.wheels.a, b := restWheel s.wg.wheels.b })
    (fun hr => ⟨(hr.wheel .a).rest, (hr.wheel .b).rest⟩) (by simp [Machine.restWheels, ground])

end KeepsGround

/-- R54, R73: a wheel that recovers at the start of an update, its record standing, recovers until SRU steps. -/
theorem restWheels_recovering {pa pb : Int} {s : State} {r : Recovery} (hr : s.sru.record = some r)
    (hs : (s.wg.wheels.get r.wheel).state = .recovering) :
    ((restWheels (takeStalls (governed pa pb s))).wg.wheels.get r.wheel).state = .recovering := by
  have hg : ((governed pa pb s).wg.wheels.get r.wheel).state = .recovering := by
    rcases governed_state (pa := pa) (pb := pb) (s := s) r.wheel with ⟨hn, _⟩ | ⟨_, hk, _⟩
    · simp [hs] at hn
    · rw [hk, hs]
  rw [takeStalls_recovering (governed_record.trans hr), restWheels_eq, raiseHalted_eu]
  dsimp only
  rw [rested_wheel, restWheel_still (by rw [hg]; decide), hg]

namespace KeepsGround

variable {a s t : State}

/-- R54: the update, whole. -/
theorem governorStep {pa pb : Int} (h : KeepsGround a s) : KeepsGround a (governorStep pa pb s) := by
  have hr : KeepsGround a (Machine.restWheels (Machine.takeStalls (Machine.governed pa pb s))) :=
    h.governed.takeStalls.restWheels
  have hstep : KeepsGround a (stepSru s (Machine.restWheels (Machine.takeStalls (Machine.governed pa pb s)))) := by
    unfold stepSru
    split
    · exact hr
    · next r hrec => exact .ite (fun hs => hr.stepRecovery (restWheels_recovering hrec hs)) fun _ => hr
  rw [governorStep_eq]
  exact hstep.same (by simp [ground])

/-! ## Requests (R177, R182, R187) -/

theorem hear {p : Port} (h : KeepsGround a s) : KeepsGround a (hear p s) := h.same (by simp [ground])

theorem reply {k : Kind} {p : Port} {tag : Byte} {st : Status} {d : List Byte} (h : KeepsGround a s) :
    KeepsGround a (reply k p tag st d s) := h.same rfl

theorem receive {k : Kind} {p : Port} {tag : Byte} {d : List Byte} {body : State → State} (h : KeepsGround a s)
    (hb : ∀ t, KeepsGround a t → KeepsGround a (body t)) : KeepsGround a (receive k p tag d body s) :=
  .ite (fun _ => h.hear.reply) fun _ => .ite (fun _ => h.hear.reply) fun _ => .ite (fun _ => h.hear.reply) fun _ =>
    hb _ h.hear

/-- A request whose effect leaves the ground as it was. -/
theorem receive_same {k : Kind} {p : Port} {tag : Byte} {d : List Byte} {body : State → State} (h : KeepsGround a s)
    (hb : ∀ t, ground (body t) = ground t) : KeepsGround a (Machine.receive k p tag d body s) :=
  h.receive fun t ht => ht.same (hb t)

theorem post {k : Kind} {p : Port} {tag : Byte} {d : List Byte} {make : State → Posted × Bool} (h : KeepsGround a s) :
    KeepsGround a (post k p tag d make s) :=
  h.receive fun _ ht => .ite (fun _ => ht.reply) fun _ => ht.reply.joinQueue

end KeepsGround

end Sys2Proof.Machine
end

section
/-! SUPPORT. Every command and every millisecond keeps the references and the zones legal (O16, O18). -/

namespace Sys2Proof.Machine

/-! ## The operations that leave the ground -/

theorem ground_leaveHold (s : State) : ground (leaveHold s) = ground s := by simp [leaveHold, ground]

theorem ground_resetReturn (s : State) : ground (resetReturn s) = ground s := by
  unfold resetReturn
  split
  · simp [ground]
  · exact ground_leaveHold s
  all_goals rfl

theorem ground_takeRise (low : Nat) (s : State) : ground (takeRise low s) = ground s := by
  unfold takeRise riseInHold
  (repeat' split)
  · simp [ground]
  · rfl
  · exact ground_leaveHold s
  all_goals rfl

theorem ground_takeFall (s : State) : ground (takeFall s) = ground s := by
  unfold takeFall
  split <;> simp [ground]

theorem ground_judgeFlow (s : State) : ground (judgeFlow s) = ground s := by
  unfold judgeFlow
  (repeat' split) <;> simp [ground]

theorem ground_takeCeiling (qp : Nat) (s : State) : ground (takeCeiling qp s) = ground s := by
  unfold takeCeiling ceilingIntoState
  (repeat' split) <;> simp [ground]

theorem ground_stopSurvey (s : State) : ground (stopSurvey s) = ground s := by
  unfold stopSurvey
  split <;> simp [ground]

theorem ground_restartSru (s : State) : ground (restartSru s) = ground s := by
  unfold restartSru
  split <;> rfl

theorem ground_takeInvalid (s : State) : ground (takeInvalid s) = ground s := by
  unfold takeInvalid
  dsimp only
  split
  · simp [loseSensor, ground]
  · rfl

theorem ground_takeValid (x y psi : Int) (s : State) : ground (takeValid x y psi s) = ground s := by
  unfold takeValid
  dsimp only
  split
  · simp [ground]
  · simp [endStarting, ground]

theorem ground_startCheck (s : State) : ground (startCheck s) = ground s := by
  unfold startCheck
  dsimp only
  split <;> simp [ground]

namespace KeepsGround

variable {a s t : State}

/-! ## Restart and loss -/

/-- R70, R191: the wheels of a restart stand. -/
theorem restartHub (h : KeepsGround a s) : KeepsGround a (restartHub s) := by
  have hsru : KeepsGround a (restartSru (restartPi s)) := h.same (ground_restartSru _)
  have hwg : KeepsGround a (restartDr (restartRc (restartWg (restartSru (restartPi s))))) :=
    hsru.setWheels (ws := { a := WheelRec.reset, b := WheelRec.reset })
      (fun _ => ⟨Forward.legal forward_zero, Forward.legal forward_zero⟩) rfl
  exact (hwg.same (ground_stopSurvey _)).same rfl

theorem handLoss {p : Port} (h : KeepsGround a s) : KeepsGround a (handLoss p s) := by
  cases p
  · exact h.haltWheels.same rfl
  · exact h.same (by simp [Machine.handLoss, ground])
  · exact h.goStale

theorem silence {p : Port} (h : KeepsGround a s) :
    KeepsGround a (surveyLoss p (Machine.handLoss p (raisePortLost p (losePort p s)))) := by
  have hlost : KeepsGround a (raisePortLost p (losePort p s)) := h.same (by simp [ground])
  exact (handLoss (p := p) hlost).same (by simp [ground])

theorem powered (ready : Bool) (s : State) (pending : List Instr) (free : Nat) :
    KeepsGround s { State.powered ready with pending := pending, free := free } := by
  have hr : ReferencesLegal State.reset := by decide
  have hz : ZonesLegal State.reset := by decide
  exact ⟨fun _ => hr, fun _ => hz⟩

/-! ## The commands with more than one branch -/

theorem setDatum (h : KeepsGround a s) (p : Port) (tag : Byte) (d : List Byte) :
    ∃ t, execSetDatum p tag d s = .next t ∧ KeepsGround a t := by
  refine ⟨_, rfl, h.receive fun t ht => ?_⟩
  split
  · exact ht.reply
  · exact ht.takeDatum.reply

theorem haltTaken (h : KeepsGround a s) : KeepsGround a (haltTaken s) :=
  .ite (fun _ => h.haltWheels.releaseHead) fun _ => h.haltWheels

theorem runRequest {k : Kind} {p : Port} {tag : Byte} {d : List Byte} {refusal : State → Option Status}
    {effect : State → State} (h : KeepsGround a s) (he : ∀ t, ground (effect t) = ground t) :
    KeepsGround a (runRequest k p tag d refusal effect s) := by
  refine h.receive_same fun t => ?_
  (repeat' split)
  · rfl
  · rfl
  · exact he t

theorem handEnd {q : PlateId} {before : PerPlate Plate} (h : KeepsGround a s) : KeepsGround a (handEnd q before s) :=
  .ite (fun _ => h.releaseHead) fun _ => h

theorem plateStep {n1 n2 s1 s2 : Int} (h : KeepsGround a s) : KeepsGround a (plateStep n1 n2 s1 s2 s) :=
  handEnd (handEnd (handEnd (handEnd (h.same rfl))))

theorem postedHeadApply (h : KeepsGround a s) (p : Port) :
    ∃ t, execPostedHeadApply p s = .next t ∧ KeepsGround a t := by
  refine ⟨_, rfl, ?_⟩
  split
  · exact h
  · exact .ite (fun _ => h) fun _ => h.drainList

theorem holdTimerExpiry (h : KeepsGround a s) (p : Port) :
    ∃ t, execHoldTimerExpiry p s = .next t ∧ KeepsGround a t := by
  refine ⟨_, rfl, ?_⟩
  split
  · exact drainList (h.same rfl)
  · exact h

theorem phaseTimerExpiry (h : KeepsGround a s) : ∃ t, execPhaseTimerExpiry s = .next t ∧ KeepsGround a t := by
  refine ⟨_, rfl, ?_⟩
  (repeat' split)
  · exact h
  · exact h.same rfl
  · exact h.endRecovered
  · exact h

theorem burstStallTimerExpiry (h : KeepsGround a s) :
    ∃ t, execBurstStallTimerExpiry s = .next t ∧ KeepsGround a t := by
  refine ⟨_, rfl, ?_⟩
  split
  · exact h
  · exact .ite (fun _ => h.failBurst) fun _ => h

/-! ## Every command -/

/-- What a command answers keeps the two invariants. -/
theorem exec (c : Instr) (s : State) : ∃ t, exec c s = .next t ∧ KeepsGround s t := by
  have h := refl s
  cases c with
  | powerOn ready => exact ⟨_, rfl, powered ready s _ _⟩
  | badFrame => exact ⟨_, rfl, .ite (fun _ => h.same rfl) fun _ => h⟩
  | unknownKind => exact ⟨_, rfl, h.hear.same rfl⟩
  | setScaler | setDepthCheck | loadZone | dropZone | setWheelDemand | setRamp | setFallbackSpeed | clearJam
  | setRecovery | setSteerMode | setTrimManual | setSteerGains | setPlate | clearPlate | setPumpDemand
  | setTransport | setPortTimeout | ackEvents | setEventEnables | setAlertLine | setMarkWidth =>
    exact ⟨_, rfl, h.post⟩
  | queryMeasurements | queryDepth | queryDemand | queryWheels | queryRecovery | querySteering | queryPlates
  | querySurvey | queryStatus | queryEvents => exact ⟨_, rfl, h.receive_same fun _ => rfl⟩
  | queryPort | queryCheck | queryReturn | surveyClaim | surveyRelease | testInject =>
    refine ⟨_, rfl, h.receive_same fun t => ?_⟩
    (repeat' split) <;> rfl
  | queryZone | readNext | reportDensity | surveyWindow =>
    refine ⟨_, rfl, h.receive_same fun t => ?_⟩
    dsimp only
    (repeat' split) <;> rfl
  | reportRopeCount => exact ⟨_, rfl, h.receive fun _ ht => ht.reportCount.reply⟩
  | setDatum p tag d => exact h.setDatum p tag d
  | halt => exact ⟨_, rfl, h.receive fun _ ht => ht.haltTaken.reply⟩
  | releaseHalt => exact ⟨_, rfl, h.receive fun _ ht => .ite (fun _ => ht.reply) fun _ => ht.releaseWheels.reply⟩
  | surveyConfig | surveyClear | surveySetPointer => exact ⟨_, rfl, h.runRequest fun _ => rfl⟩
  | surveyStart => exact ⟨_, rfl, h.runRequest fun t => by simp [startSurvey, ground]⟩
  | surveyStop => exact ⟨_, rfl, h.runRequest ground_stopSurvey⟩
  | surveyCheck => exact ⟨_, rfl, h.runRequest ground_startCheck⟩
  | setPlantCeiling => exact ⟨_, rfl, h.receive_same fun t => ground_takeCeiling _ t⟩
  | resetReturn =>
    exact ⟨_, rfl, h.receive fun t ht => .ite (fun _ => ht.reply) fun _ => ht.same (ground_resetReturn t)⟩
  | headRestart => exact ⟨_, rfl, h.receive fun _ ht => ht.reply.restartHub⟩
  | postedHeadApply p => exact h.postedHeadApply p
  | holdTimerExpiry p => exact h.holdTimerExpiry p
  | sampleSlot =>
    refine ⟨_, rfl, ?_⟩
    split
    · exact h.same (ground_takeInvalid s)
    · exact h.same (ground_takeInvalid s)
    · exact h.same (ground_takeInvalid s)
    · exact h.same (ground_takeValid ..)
  | sensorLost => exact ⟨_, rfl, .ite (fun _ => h.same (by simp [loseSensor, ground])) fun _ => h⟩
  | tachGateEnd => exact ⟨_, rfl, judgeGate (h.same rfl)⟩
  | flowGateEnd => exact ⟨_, rfl, h.same (ground_judgeFlow _)⟩
  | governorUpdate => exact ⟨_, rfl, h.governorStep⟩
  | headPressureSample => exact ⟨_, rfl, h.same (by simp [ground])⟩
  | plateSample => exact ⟨_, rfl, h.plateStep⟩
  | snapshotIntervalExpiry =>
    exact ⟨_, rfl, .ite (fun _ => h.same (by simp [pushSnapshot, ground])) fun _ => h.same rfl⟩
  | stallTimerExpiry => exact ⟨_, rfl, .ite (fun _ => h.takeStall) fun _ => h⟩
  | tachFault => exact ⟨_, rfl, .ite (fun _ => h.takeTachFault) fun _ => h⟩
  | depthDisagree | disagreeClear => exact ⟨_, rfl, .ite (fun _ => h.same (by simp [ground])) fun _ => h⟩
  | phaseTimerExpiry => exact h.phaseTimerExpiry
  | burstStallTimerExpiry => exact h.burstStallTimerExpiry
  | settleTimerExpiry | moveTimerExpiry => exact ⟨_, rfl, .ite (fun _ => releaseHead (h.same rfl)) fun _ => h⟩
  | primingTimerExpiry | starvationCountExpiry =>
    exact ⟨_, rfl, .ite (fun _ => h.same (by simp [ground])) fun _ => h⟩
  | plantReadyRise => exact ⟨_, rfl, .ite (fun _ => h) fun _ => h.same (ground_takeRise ..)⟩
  | plantReadyFall => exact ⟨_, rfl, .ite (fun _ => h.same (ground_takeFall _)) fun _ => h⟩
  | silenceTimerExpiry => exact ⟨_, rfl, .ite (fun _ => h.silence) fun _ => h⟩
  | startUpTimerExpiry => exact ⟨_, rfl, .ite (fun _ => h.same rfl) fun _ => h⟩
  | widthTimerExpiry => exact ⟨_, rfl, h.same rfl⟩

end KeepsGround

/-- A step, of a command or of a millisecond, keeps the two invariants. -/
theorem step_keepsGround {s t : State} (h : step s = .next t) : KeepsGround s t := by
  unfold step at h
  split at h
  · cases h; exact (KeepsGround.refl s).same rfl
  · next c rest _ =>
    have hr : KeepsGround s { s with pending := rest } := (KeepsGround.refl s).same rfl
    obtain ⟨u, hu, hk⟩ := KeepsGround.exec c { s with pending := rest }
    cases hu.symm.trans h
    exact ⟨hk.references ∘ hr.references, hk.zones ∘ hr.zones⟩

/-- Settles O16: a reference turns negative only as SRU drives a RECOVERING wheel, and every change away from RECOVERING
sets it to 0. -/
theorem referencesLegalKept : Obligations.ReferencesLegalKept :=
  fun _ _ hs h => (step_keepsGround h).references hs

/-- Settles O18: the table changes by entries that fit it, and each change of the table or of the selection hands the
values of the zone it selects, unless they stand already. -/
theorem zonesLegalKept : Obligations.ZonesLegalKept :=
  fun _ _ hs h => (step_keepsGround h).zones hs

end Sys2Proof.Machine
end

section
/-! SUPPORT. LOAD_ZONE and DROP_ZONE (O38). -/

namespace Sys2Proof.Machine

/-! ## The feed limit and the zones once a request has been answered -/

/-- R171: a frame heard leaves the feed limit published. -/
theorem feedPublished_hear {s : State} (h : FeedPublished s) (p : Port) : FeedPublished (hear p s) := by
  by_cases hc : p = .cabin ∧ (s.port p).link ≠ .active
  · have hr := hear_rc_eq p s
    rw [if_pos hc] at hr
    exact ⟨by rw [hr]; exact h.1, congrArg Rc.feedLimit hr⟩
  · have hr : (hear p s).rc = s.rc := by rw [hear_rc_eq, if_neg hc]
    have hl : ((hear p s).port .cabin).link = (s.port .cabin).link := by
      by_cases hp : p = .cabin
      · subst hp
        rw [hear_port]
        exact (not_not.1 fun hn => hc ⟨rfl, hn⟩).symm
      · rw [hear_port_ne s (Ne.symm hp)]
    exact h.congr (by simp) (by simp) hr hl (hear_dr_state p s)

theorem feedPublished_answered {s : State} (h : FeedPublished s) (k : Kind) (p : Port) (tag : Byte) (st : Status)
    (d : List Byte) : FeedPublished (answered k p tag st d s) :=
  (feedPublished_hear h p).congr rfl rfl rfl (by cases p <;> rfl) rfl

theorem zonesLegal_answered {s : State} (h : ZonesLegal s) (k : Kind) (p : Port) (tag : Byte) (st : Status)
    (d : List Byte) : ZonesLegal (answered k p tag st d s) :=
  (KeepsGround.refl s).hear.reply.zones h

/-! ## A change of the table (R39) -/

/-- R39: the table as it stands, taken again, changes nothing. -/
theorem changeTable_same {s : State} (h : s.zt.current = zoneIndexAt s.zt.entries s.zt.selectionDepth) :
    changeTable s.zt.entries s = s := by
  unfold changeTable
  dsimp only
  rw [← h]
  simp

/-- R39, R43, R52, R171: a change of the table, whole. The values of the zone it selects are handed on unless they stand
already, and what follows from them stands then too. -/
theorem changeTable_eq {es : List ZoneEntry} {s t : State} (hz : ZonesLegal s) (hf : FeedPublished s)
    (hb : s.wg.fallbackFlag = fallbackNow s)
    (ht : t = { s with
      zt := { s.zt with entries := es, current := zoneIndexAt es s.zt.selectionDepth }
      wg := { s.wg with zoneCeiling := (zoneOf es t.zt.current).speedCeiling
                        zoneHold := (zoneOf es t.zt.current).holdPressure
                        zoneStall := (zoneOf es t.zt.current).stallPressure
                        fallbackFlag := fallbackNow t }
      rc := { s.rc with feedCeiling := (zoneOf es t.zt.current).feedCeiling, feedLimit := feedNow t }
      eu := if t.zt.current = s.zt.current then s.eu else latchAll .zoneChange s.eu }) :
    changeTable es s = t := by
  have hcur : t.zt.current = zoneIndexAt es s.zt.selectionDepth := by rw [ht]
  rw [hcur] at ht
  generalize hi : zoneIndexAt es s.zt.selectionDepth = i at hcur ht
  have hfeed : feedNow t = feedNow { s with rc := { s.rc with feedCeiling := (zoneOf es i).feedCeiling } } :=
    (congrArg feedNow ht).trans rfl
  have hback : fallbackNow t = fallbackNow { s with wg := { s.wg with zoneCeiling := (zoneOf es i).speedCeiling } } :=
    (congrArg fallbackNow ht).trans rfl
  rw [hfeed, hback] at ht
  unfold changeTable
  dsimp only
  rw [hi, ht]
  by_cases he : i = s.zt.current
  · rw [if_neg (not_not.2 he), if_pos he]
    split
    · rfl
    · next hsame =>
      obtain ⟨hceiling, hhold, hstall, hfeedCeiling⟩ := ((zonesLegal_iff s).1 hz).2.2
      rw [not_not.1 hsame, he, ← hceiling, ← hhold, ← hstall, ← hfeedCeiling]
      change _ = { s with zt := { s.zt with entries := es, current := s.zt.current }
                          wg := { s.wg with fallbackFlag := fallbackNow s }
                          rc := { s.rc with feedLimit := feedNow s } }
      rw [← hb, ← (feedPublished_iff.1 hf).2]
  · rw [if_pos he, if_neg he]
    rfl

/-- A change of the table by a request that has been answered. -/
theorem changeTable_answered {k : Kind} {tag : Byte} {es : List ZoneEntry} {s a t : State} (hz : ZonesLegal s)
    (hf : FeedPublished s) (hb : s.wg.fallbackFlag = fallbackNow s) (ha : a = answered k .cabin tag .taken [] s)
    (ht : t = { a with
      zt := { s.zt with entries := es, current := zoneIndexAt es s.zt.selectionDepth }
      wg := { s.wg with zoneCeiling := (zoneOf es t.zt.current).speedCeiling
                        zoneHold := (zoneOf es t.zt.current).holdPressure
                        zoneStall := (zoneOf es t.zt.current).stallPressure
                        fallbackFlag := fallbackNow t }
      rc := { s.rc with feedCeiling := (zoneOf es t.zt.current).feedCeiling, feedLimit := feedNow t }
      eu := if t.zt.current = s.zt.current then s.eu else latchAll .zoneChange s.eu }) :
    changeTable es a = t := by
  have haz : ZonesLegal a := ha ▸ zonesLegal_answered hz ..
  have haf : FeedPublished a := ha ▸ feedPublished_answered hf ..
  have hzt : a.zt = s.zt := by simp [ha]
  have hwg : a.wg = s.wg := by simp [ha]
  have heu : a.eu = s.eu := by simp [ha]
  have hrc : a.rc = { s.rc with feedLimit := a.rc.feedLimit } := ha ▸ hear_rc .cabin s
  refine changeTable_eq haz haf ?_ ?_
  · rw [fallbackNow, hwg, hrc]
    exact hb
  · rw [hzt, hwg, heu, hrc]
    exact ht

/-! ## LOAD_ZONE (R37) -/

section
variable {k upper cls speed hold stall feed selector : Nat} {s : State} {z : ZoneEntry}

theorem applyLoadZone_outOfRange
    (h : zoneFields upper cls speed hold stall feed selector = none ∨ 7 < k) :
    applyLoadZone k upper cls speed hold stall feed selector s = .error .outOfRange := by
  unfold applyLoadZone
  split
  · rfl
  · next hz => rw [if_pos (h.resolve_left (by simp [hz]))]

/-- R37, checks 2 and 3: the slot is one of the table or the next, and the bound fits it. -/
theorem applyLoadZone_taken (hz : zoneFields upper cls speed hold stall feed selector = some z) (hk : k ≤ 7)
    (hrise : BoundsRise s.zt.entries) (hlen : k ≤ s.zt.entries.length) (hfits : FitsAt s.zt.entries k z.upper) :
    applyLoadZone k upper cls speed hold stall feed selector s =
      .ok (changeTable (putZone s.zt.entries k z) s) := by
  rw [(entryLegal_zoneFields hz).2] at hfits
  have ho := (boundInOrder_iff hrise hlen).2 hfits
  simp [applyLoadZone, hz, Nat.not_lt.2 hk, Nat.not_lt.2 hlen, ho]

theorem applyLoadZone_order (hz : zoneFields upper cls speed hold stall feed selector = some z) (hk : k ≤ 7)
    (hrise : BoundsRise s.zt.entries) (h : k ≤ s.zt.entries.length → ¬ FitsAt s.zt.entries k z.upper) :
    applyLoadZone k upper cls speed hold stall feed selector s = .error .order := by
  rw [(entryLegal_zoneFields hz).2] at h
  by_cases hlen : k ≤ s.zt.entries.length
  · have ho := mt (boundInOrder_iff hrise hlen).1 (h hlen)
    simp [applyLoadZone, hz, Nat.not_lt.2 hk, Nat.not_lt.2 hlen, ho]
  · simp [applyLoadZone, hz, Nat.not_lt.2 hk, Nat.lt_of_not_le hlen]

end

/-- R38: a slot beyond the table cuts nothing. -/
theorem applyDropZone_eq {k : Nat} {s : State} (h : s.zt.current = zoneIndexAt s.zt.entries s.zt.selectionDepth) :
    applyDropZone k s =
      if 7 < k then .error .outOfRange else .ok (changeTable (s.zt.entries.take k) s) := by
  unfold applyDropZone
  split
  · rfl
  · split
    · rfl
    · next hk => rw [List.take_of_length_le (Nat.le_of_not_lt hk), changeTable_same h]

/-! ## The requests, posted at a clear queue -/

theorem exec_loadZone_refused {tag : Byte} {d : List Byte} {s a : State} {code : Status}
    (hq : QueueClear .cabin s) (hl : d.length = 26) (ha : a = answered .loadZone .cabin tag .taken [] s)
    (h : applyPosted .cabin (postLoadZone d) a = .error code) :
    exec (.loadZone .cabin tag d) s = .next (refusedAt .loadZone .cabin tag code a) :=
  congrArg _ (post_refused (r := postLoadZone d) (c := false) hq rfl hl rfl ha rfl h)

/-- Settles O38: the checks of a LOAD_ZONE are `applyLoadZone_taken` and `applyLoadZone_order`, and a table
taken is `changeTable_answered`. -/
theorem zoneTable : Obligations.ZoneTable := by
  intro tag d s hq hz hf hb
  obtain ⟨hlen, hrise, _, hcur, _⟩ := id hz
  refine ⟨fun a t es ht => ⟨fun k z hl ha hk hfields hfits hes => ?_, fun hl ha hk hes => ?_⟩,
    fun a hl ha hk => ?_, fun a hl ha => ⟨fun hout => ?_, fun z hk hfields hout => ?_⟩⟩
  · subst hk
    have hzt : a.zt = s.zt := by simp [ha]
    have hport : t.port .cabin = a.port .cabin := by rw [ht]; rfl
    obtain ⟨hk7, hkn, hput⟩ : natAt d 0 ≤ 7 ∧ natAt d 0 ≤ s.zt.entries.length ∧
        es = putZone s.zt.entries (natAt d 0) z := by
      unfold putZone
      rcases hes with ⟨hlt, he⟩ | ⟨heq, h7, he⟩
      · exact ⟨by omega, hlt.le, by rw [if_pos hlt, he]⟩
      · exact ⟨h7, heq.le, by rw [if_neg (by omega), he]⟩
    have happly := applyLoadZone_taken (s := a) hfields hk7 (hzt ▸ hrise) (hzt ▸ hkn) (hzt ▸ hfits)
    rw [hzt, ← hput, changeTable_answered hz hf hb ha ht] at happly
    exact congrArg _ (post_taken (r := postLoadZone d) (c := false) hq rfl hl rfl ha rfl happly hport)
  · have hzt : a.zt = s.zt := by simp [ha]
    have hport : t.port .cabin = a.port .cabin := by rw [ht]; rfl
    have happly := applyDropZone_eq (k := natAt d 0) (s := a) (by rw [hzt, ← hcur])
    rw [if_neg (Nat.not_lt.2 hk), hzt, ← hes, changeTable_answered hz hf hb ha ht] at happly
    exact congrArg _ (post_taken (r := .dropZone (natAt d 0)) (c := false) hq rfl hl rfl ha rfl happly hport)
  · exact congrArg _ (post_refused (r := .dropZone (natAt d 0)) (c := false) hq rfl hl rfl ha rfl (if_pos hk))
  · exact exec_loadZone_refused hq hl ha (applyLoadZone_outOfRange hout)
  · have hzt : a.zt = s.zt := by simp [ha]
    refine exec_loadZone_refused hq hl ha (applyLoadZone_order hfields hk (hzt ▸ hrise) ?_)
    rw [hzt]
    intro hkn hfits
    rcases hout with hlt | ⟨j, y, hy, ⟨hj, hle⟩ | ⟨hj, hle⟩⟩
    · omega
    · exact absurd ((hfits j y hy).1 hj) (Nat.not_lt.2 hle)
    · exact absurd ((hfits j y hy).2 hj) (Nat.not_lt.2 hle)

end Sys2Proof.Machine
end

section
/-! SUPPORT. The laws the two wheels follow (R47): which pairs of states are legal, and what each change of a wheel
leaves of the marks that belong to its state (O15). -/

namespace Sys2Proof.Machine

/-! ## The pair of states (R47) -/

/-- R47: the law a wheel follows, by one of its states: STOPPED for the normal law, HALTING for a halt, and the state
itself for the others. -/
def law : WheelState → WheelState
  | .stopped | .running => .stopped
  | .halting | .halted => .halting
  | .standby => .standby
  | .recovering => .recovering
  | .jammed => .jammed
  | .tachFault => .tachFault

/-- R47: whether a pair is legal is a matter of the two laws. -/
theorem legalPair_law (a b : WheelState) : legalPair (law a) (law b) = legalPair a b := by
  cases a <;> cases b <;> rfl

theorem legalPair_comm (a b : WheelState) : legalPair a b = legalPair b a := by
  cases a <;> cases b <;> rfl

theorem law_eq_recovering {st : WheelState} : law st = .recovering ↔ st = .recovering := by
  cases st <;> simp [law]

theorem law_normal {st : WheelState} (h : st = .stopped ∨ st = .running) : law st = .stopped := by
  rcases h with rfl | rfl <;> rfl

theorem law_halt {st : WheelState} (h : st = .halting ∨ st = .halted) : law st = .halting := by
  rcases h with rfl | rfl <;> rfl

/-- R61, R74, R81: a wheel that is out of the normal law on its own stands beside one in STANDBY. -/
theorem partner_standby {a b : WheelState} (h : legalPair a b = true)
    (ha : a = .recovering ∨ a = .jammed ∨ a = .tachFault) : b = .standby := by
  rcases ha with rfl | rfl | rfl <;> cases b <;> simp [legalPair] at h ⊢

theorem partner_normal {a b : WheelState} (h : legalPair a b = true) (ha : a = .stopped ∨ a = .running) :
    b = .stopped ∨ b = .running := by
  rcases ha with rfl | rfl <;> cases b <;> simp [legalPair] at h ⊢

theorem partner_halt {a b : WheelState} (h : legalPair a b = true) (ha : a = .halting ∨ a = .halted) :
    b = .halting ∨ b = .halted := by
  rcases ha with rfl | rfl <;> cases b <;> simp [legalPair] at h ⊢

theorem other_ne (w : Wheel) : other w ≠ w := by cases w <;> decide

/-! ## The invariant, from either wheel -/

/-- `WheelsLegal` as it reads from any one wheel `w`. -/
theorem wheelsLegal_iff (w : Wheel) (s : State) :
    WheelsLegal s ↔
      legalPair (s.wg.wheels.get w).state (s.wg.wheels.get (other w)).state = true ∧
      (∀ v, WheelQuiet (s.wg.wheels.get v)) ∧
      ∀ v, (s.wg.wheels.get v).state = .recovering ↔ s.sru.record.map (·.wheel) = some v := by
  have hpair : legalPair (s.wg.wheels.get w).state (s.wg.wheels.get (other w)).state =
      legalPair s.wg.wheels.a.state s.wg.wheels.b.state := by
    cases w
    · rfl
    · exact legalPair_comm ..
  rw [hpair]
  constructor
  · intro h
    obtain ⟨hlegal, hqa, hqb, hnone, hsome⟩ := id h
    refine ⟨hlegal, fun v => by cases v <;> assumption, fun v => ?_⟩
    cases hr : s.sru.record with
    | none =>
      obtain ⟨ha, hb⟩ := hnone hr
      exact iff_of_false (by cases v <;> assumption) (by simp)
    | some r =>
      obtain ⟨hrec, hstand⟩ := recovering_states h hr
      rcases wheel_or_other r.wheel v with rfl | rfl
      · exact iff_of_true hrec rfl
      · exact iff_of_false (by rw [hstand]; decide) fun he => other_ne r.wheel (Option.some.inj he).symm
  · rintro ⟨hlegal, hq, hrec⟩
    refine ⟨hlegal, hq .a, hq .b, fun hn => ?_, fun r hr => (hrec _).2 (by rw [Option.mem_def.1 hr]; rfl)⟩
    have hno (v : Wheel) : (s.wg.wheels.get v).state ≠ .recovering := by rw [ne_eq, hrec, hn]; simp
    exact ⟨hno .a, hno .b⟩

namespace WheelsLegal
variable {s t : State}

theorem quiet (h : WheelsLegal s) (v : Wheel) : WheelQuiet (s.wg.wheels.get v) :=
  ((wheelsLegal_iff v s).1 h).2.1 v

theorem pair (h : WheelsLegal s) (w : Wheel) :
    legalPair (s.wg.wheels.get w).state (s.wg.wheels.get (other w)).state = true :=
  ((wheelsLegal_iff w s).1 h).1

/-- R73: no recovery exists while a wheel neither recovers nor stands by. -/
theorem noRecord (h : WheelsLegal s) {w : Wheel} (hs : (s.wg.wheels.get w).state ≠ .recovering)
    (hs' : (s.wg.wheels.get w).state ≠ .standby) : s.sru.record = none := by
  cases hr : s.sru.record with
  | none => rfl
  | some r =>
    obtain ⟨hrec, hstand⟩ := recovering_states h hr
    rcases wheel_or_other r.wheel w with rfl | rfl
    · exact absurd hrec hs
    · exact absurd hstand hs'

/-- A change after which each wheel follows the law it followed, and the record names the wheel it named. -/
theorem sameLaw (h : WheelsLegal s)
    (hl : ∀ v, law (t.wg.wheels.get v).state = law (s.wg.wheels.get v).state)
    (hq : ∀ v, WheelQuiet (t.wg.wheels.get v))
    (hr : t.sru.record.map (·.wheel) = s.sru.record.map (·.wheel)) : WheelsLegal t := by
  obtain ⟨hpair, _, hrec⟩ := (wheelsLegal_iff .a s).1 h
  refine (wheelsLegal_iff .a t).2 ⟨?_, hq, fun v => ?_⟩
  · rw [← legalPair_law, hl, hl, legalPair_law]
    exact hpair
  · rw [← law_eq_recovering, hl, law_eq_recovering, hr]
    exact hrec v

/-- A change that ends with no recovery. -/
theorem ofNoRecord (w : Wheel)
    (hpair : legalPair (t.wg.wheels.get w).state (t.wg.wheels.get (other w)).state = true)
    (hq : ∀ v, WheelQuiet (t.wg.wheels.get v)) (hn : ∀ v, (t.wg.wheels.get v).state ≠ .recovering)
    (hr : t.sru.record = none) : WheelsLegal t :=
  (wheelsLegal_iff w t).2 ⟨hpair, hq, fun v => iff_of_false (hn v) (by rw [hr]; simp)⟩

/-- Both wheels in one law, the normal one or that of a halt. -/
theorem together {st : WheelState} (hst : st = .stopped ∨ st = .halting)
    (hl : ∀ v, law (t.wg.wheels.get v).state = st) (hq : ∀ v, WheelQuiet (t.wg.wheels.get v))
    (hr : t.sru.record = none) : WheelsLegal t := by
  refine ofNoRecord .a ?_ hq (fun v => ?_) hr
  · rw [← legalPair_law, hl, hl]
    rcases hst with rfl | rfl <;> rfl
  · rw [ne_eq, ← law_eq_recovering, hl]
    rcases hst with rfl | rfl <;> decide

/-- A pair read from a wheel `w` whose partner does not recover. -/
theorem ofWheels (w : Wheel) {v u : WheelRec} (hv : t.wg.wheels.get w = v) (hu : t.wg.wheels.get (other w) = u)
    (hpair : legalPair v.state u.state = true) (hqv : WheelQuiet v) (hqu : WheelQuiet u) (hn : u.state ≠ .recovering)
    (hr : t.sru.record.map (·.wheel) = if v.state = .recovering then some w else none) : WheelsLegal t := by
  subst hv hu
  refine (wheelsLegal_iff w t).2 ⟨hpair, fun x => ?_, fun x => ?_⟩
  · rcases wheel_or_other w x with rfl | rfl <;> assumption
  · rw [hr]
    rcases wheel_or_other w x with rfl | rfl
    · simp
    · refine iff_of_false hn ?_
      split
      · simpa using (other_ne w).symm
      · simp

end WheelsLegal

/-! ## One wheel quiet (R55 to R58, R60) -/

/-- A wheel given a new state and target with no torque hold, stall run or zero gates. -/
theorem wheelQuiet_quietWheel {st : WheelState} {target : Int} {w : WheelRec}
    (ht : st ≠ .stopped ∧ st ≠ .running → target = 0)
    (ha : st = .halted ∨ st = .jammed ∨ st = .tachFault → w.acc = 0) : WheelQuiet (quietWheel st target w) :=
  ⟨fun h => ⟨ht h, rfl⟩, fun _ => ⟨rfl, rfl⟩, ha⟩

theorem wheelQuiet_reset : WheelQuiet WheelRec.reset := by decide

/-- R63. -/
theorem haltWheel_state (v : WheelRec) : (haltWheel v).state = .halting ∨ (haltWheel v).state = .halted := by
  rw [haltWheel_eq]
  split
  · assumption
  · split
    · exact .inr rfl
    · exact .inl rfl

theorem standAside_normal {v : WheelRec} (h : v.state = .stopped ∨ v.state = .running) :
    standAside v = quietWheel .standby 0 v := if_pos h

/-- R57: a wheel enters the normal law. -/
theorem enterNormal_state (g : Wg) (w : Wheel) :
    (enterNormal g w).state = .stopped ∨ (enterNormal g w).state = .running := by
  dsimp only [enterNormal, quietWheel]
  split
  · exact .inr rfl
  · exact .inl rfl

namespace WheelQuiet
variable {w : WheelRec}

theorem ofStopped (hs : w.state = .stopped) (ht : w.stallTimer = none) (hz : w.zeroGates = 0) : WheelQuiet w :=
  ⟨fun hn => absurd hs hn.1, fun _ => ⟨ht, hz⟩, fun hn => by simp [hs] at hn⟩

theorem ofRunning (hs : w.state = .running) : WheelQuiet w :=
  ⟨fun hn => absurd hs hn.2, fun hn => absurd hs hn, fun hn => by simp [hs] at hn⟩

theorem enterNormal (g : Wg) (id : Wheel) : WheelQuiet (enterNormal g id) := by
  rcases enterNormal_state g id with h | h
  · exact .ofStopped h rfl rfl
  · exact .ofRunning h

theorem halt (h : WheelQuiet w) : WheelQuiet (haltWheel w) := by
  rw [haltWheel_eq]
  split
  · exact h
  · split
    · exact ⟨fun _ => ⟨rfl, rfl⟩, fun _ => ⟨rfl, rfl⟩, fun _ => rfl⟩
    · exact ⟨fun _ => ⟨rfl, rfl⟩, fun _ => ⟨rfl, rfl⟩, fun hs => by simp at hs⟩

theorem release (h : WheelQuiet w) : WheelQuiet (releaseWheel w) := by
  unfold releaseWheel
  split
  · next hs =>
    obtain ⟨ht, hz⟩ := h.2.1 (by rw [hs]; decide)
    exact .ofStopped rfl ht hz
  · exact h

/-- R64: a HALTING wheel come to rest. -/
theorem rest (h : WheelQuiet w) : WheelQuiet (restWheel w) := by
  unfold restWheel
  split
  · next hs =>
    obtain ⟨ht, hrun, _⟩ := h
    exact ⟨fun _ => ht (by rw [hs.1]; decide), fun _ => hrun (by rw [hs.1]; decide), fun _ => rfl⟩
  · exact h

/-- R62, R83. -/
theorem unjam {g : Wg} {id : Wheel} (h : WheelQuiet (g.wheels.get id)) : WheelQuiet (unjam g id) := by
  unfold Machine.unjam
  dsimp only
  split
  · exact .enterNormal g id
  · exact h

/-- R57: a wheel of the normal law settled. -/
theorem settle (h : w.state = .stopped ∨ w.state = .running) : WheelQuiet (settleWheel w) := by
  by_cases h0 : w.target = 0 ∧ w.acc.natAbs < 10
  · rw [settleWheel_atRest h h0]
    exact .ofStopped rfl rfl rfl
  · rw [settleWheel_turning h h0]
    exact .ofRunning rfl

/-- R58: the stall timer runs in RUNNING only. -/
theorem stall {p k : Nat} {v : Int} (h : WheelQuiet w) : WheelQuiet (stallWheel p k v w) := by
  by_cases hs : w.state = .running
  · exact .ofRunning (by rwa [stallWheel_state])
  · rwa [stallWheel_still hs]

/-- R54: a wheel at an update. -/
theorem govern {s : State} {id : Wheel} (h : WheelQuiet (s.wg.wheels.get id)) : WheelQuiet (governWheel s id) := by
  obtain ⟨_, hrun, hacc⟩ := h
  cases hst : (s.wg.wheels.get id).state
  case stopped | running =>
    have hm : (moveWheel s.wg (s.mfe.gearbox.get id).value id (s.wg.wheels.get id)).state =
        (s.wg.wheels.get id).state := by
      unfold moveWheel
      split <;> rfl
    exact stall (settle (by rw [hm]; simp [hst]))
  case halting | standby =>
    rw [governWheel_slowing rfl (by simp [hst]) rfl]
    exact ⟨fun _ => ⟨rfl, rfl⟩, hrun, fun hn => by simp [hst] at hn⟩
  case halted | recovering | jammed | tachFault =>
    rw [governWheel_standing rfl (by simp [hst])]
    exact ⟨fun _ => ⟨rfl, rfl⟩, hrun, hacc⟩

end WheelQuiet

/-- R65. -/
theorem someHalting_iff (s : State) : someHalting s = true ↔ ∃ v, (s.wg.wheels.get v).state = .halting := by
  rw [someHalting, Bool.or_eq_true, decide_eq_true_iff, decide_eq_true_iff]
  refine ⟨fun h => h.elim (fun h => ⟨.a, h⟩) fun h => ⟨.b, h⟩, fun ⟨v, hv⟩ => ?_⟩
  cases v
  · exact .inl hv
  · exact .inr hv

/-! ## The laws at an update -/

theorem law_governWheel (s : State) (id : Wheel) : law (governWheel s id).state = law (s.wg.wheels.get id).state := by
  rcases governWheel_state (s := s) (id := id) rfl with ⟨h, h'⟩ | ⟨_, h, _⟩
  · rw [law_normal h, law_normal h']
  · rw [h]

theorem law_restWheel (w : WheelRec) : law (restWheel w).state = law w.state := by
  unfold restWheel
  split
  · next h => rw [h.1]; rfl
  · rfl

end Sys2Proof.Machine
end

section
/-! SUPPORT. The slurry return as it follows from its inputs (R159 to R168), and the FALLBACK flag (R52): what each
change of the return leaves of `ReturnLegal` (O19). -/

namespace Sys2Proof.Machine

/-! ## The invariant in its parts -/

/-- R159 to R161: the quantities of the return that follow from the settings, the demand and the ceiling. -/
def Balanced (fMeas : Nat) (r : Rc) : Prop :=
  r.qSettle = settlingFlow r.transport ∧ r.qConc = concentrationFlow r.transport fMeas ∧
  r.qFloor = max r.qSettle r.qConc ∧ r.qEff = effectiveDemand r.qc r.qFloor r.qp ∧ r.short = shortHolds r

/-- R162 to R169: the demand, the timers, the line and the ceiling that belong to a return state. -/
def Placed (st : ReturnState) (r : Rc) : Prop :=
  (st = .off ↔ r.qc = 0) ∧ (r.primingTimer.isSome = true ↔ st = .priming) ∧ (r.armed = true ↔ st = .plantHold) ∧
  (pumpOn st = true → r.ready = true) ∧ (st = .priming ∨ st = .pumping → 0 < r.qp) ∧ r.starvation < 5 ∧
  (st ≠ .pumping → r.starvation = 0)

/-- What `ReturnLegal` asks of the return's own record. -/
def RcLegal (fMeas : Nat) (r : Rc) : Prop :=
  Balanced fMeas r ∧ r.pump = (if pumpOn r.state then r.qEff else 0) ∧ Placed r.state r

theorem returnLegal_iff (s : State) :
    ReturnLegal s ↔ RcLegal s.dr.fMeas s.rc ∧ s.wg.fallbackFlag = fallbackNow s := by
  unfold RcLegal Balanced Placed
  constructor
  · rintro ⟨h1, h2, h3, h4, h5, h6, h7, h8, h9, h10, h11, h12, h13, h14⟩
    exact ⟨⟨⟨h1, h2, h3, h4, h6⟩, h5, h7, h8, h9, h10, h11, h12, h13⟩, h14⟩
  · rintro ⟨⟨⟨h1, h2, h3, h4, h6⟩, h5, h7, h8, h9, h10, h11, h12, h13⟩, h14⟩
    exact ⟨h1, h2, h3, h4, h5, h6, h7, h8, h9, h10, h11, h12, h13, h14⟩

/-! ## The parts of the return that the invariant reads -/

/-- The return without what `ReturnLegal` does not read of it: the feed limit and its inputs, and the low time. -/
def Rc.standing (r : Rc) : Rc :=
  { r with rhoS := 0, rhoR := 0, densityReported := false, lowFor := 0, feedCeiling := 0, feedLimit := 0 }

theorem rcLegal_standing {fMeas : Nat} {r : Rc} : RcLegal fMeas r.standing ↔ RcLegal fMeas r := Iff.rfl

/-- What `ReturnLegal` reads of a state. -/
structure ReturnView where
  rc : Rc
  fMeas : Nat
  fallbackFlag : Bool
  fallback : Nat
  zoneCeiling : Nat

def returnView (s : State) : ReturnView :=
  { rc := s.rc.standing, fMeas := s.dr.fMeas, fallbackFlag := s.wg.fallbackFlag, fallback := s.wg.fallback
    zoneCeiling := s.wg.zoneCeiling }

section
variable (s : State)

@[simp] theorem standing_recomputeFeed : (recomputeFeed s).rc.standing = s.rc.standing := rfl

@[simp] theorem standing_handWheels (before : PerWheel WheelRec) :
    (handWheels before s).rc.standing = s.rc.standing := by
  rw [handWheels_feed]; rfl

@[simp] theorem standing_haltWheels : (haltWheels s).rc.standing = s.rc.standing := by
  rw [haltWheels_rc]; rfl

@[simp] theorem standing_hear (p : Port) : (hear p s).rc.standing = s.rc.standing := by
  rw [hear_rc]; rfl

@[simp] theorem hear_fMeas (p : Port) : (hear p s).dr.fMeas = s.dr.fMeas := by rw [hear_dr_eq]

@[simp] theorem setDisagree_fMeas (d : Bool) : (setDisagree d s).dr.fMeas = s.dr.fMeas := by rw [setDisagree_dr]

@[simp] theorem suspendCrossCheck_fMeas : (suspendCrossCheck s).dr.fMeas = s.dr.fMeas := by
  rw [suspendCrossCheck_dr]

@[simp] theorem raiseDisagree_fMeas : (raiseDisagree s).dr.fMeas = s.dr.fMeas := by rw [raiseDisagree_dr]

@[simp] theorem takeHeadPressure_fMeas (r : Reading) : (takeHeadPressure r s).dr.fMeas = s.dr.fMeas := by
  unfold takeHeadPressure compareDepth
  dsimp only
  (repeat' split) <;> simp

@[simp] theorem takeCount_fMeas (count : Int) : (takeCount count s).dr.fMeas = s.dr.fMeas := by rw [takeCount_dr]

end

namespace ReturnLegal
variable {s t : State}

theorem rc (h : ReturnLegal s) : RcLegal s.dr.fMeas s.rc := ((returnLegal_iff s).1 h).1

theorem balanced (h : ReturnLegal s) : Balanced s.dr.fMeas s.rc := h.rc.1

theorem placed (h : ReturnLegal s) : Placed s.rc.state s.rc := h.rc.2.2

theorem congr (h : ReturnLegal s) (he : returnView t = returnView s) : ReturnLegal t := by
  obtain ⟨hrc, hf, hflag, hfall, hzone⟩ := ReturnView.mk.inj he
  obtain ⟨hlegal, hset⟩ := (returnLegal_iff s).1 h
  have hst : t.rc.state = s.rc.state := (congrArg Rc.state hrc :)
  refine (returnLegal_iff t).2 ⟨?_, ?_⟩
  · rw [← rcLegal_standing, hrc, hf, rcLegal_standing]
    exact hlegal
  · rw [hflag, hset, fallbackNow, fallbackNow, hst, hfall, hzone]

/-- A new record of the return, with the state that stands. -/
theorem setRc {r : Rc} {f : Nat} (h : ReturnLegal s) (hr : RcLegal f r) (hst : r.state = s.rc.state) (hrc : t.rc = r)
    (hf : t.dr.fMeas = f) (hw : t.wg = s.wg) : ReturnLegal t := by
  refine (returnLegal_iff t).2 ⟨by rw [hrc, hf]; exact hr, ?_⟩
  rw [fallbackNow, hrc, hst, hw]
  exact ((returnLegal_iff s).1 h).2

/-- R52: FALLBACK judged anew, the return standing. -/
theorem judged (h : ReturnLegal s) (hrc : t.rc.standing = s.rc.standing) (hf : t.dr.fMeas = s.dr.fMeas)
    (hflag : t.wg.fallbackFlag = fallbackNow t) : ReturnLegal t := by
  refine (returnLegal_iff t).2 ⟨?_, hflag⟩
  rw [← rcLegal_standing, hrc, hf, rcLegal_standing]
  exact h.rc

/-! ## A change of return state (R162) -/

/-- R160, R162: a return whose quantities stand in balance, in a state that its timers and its demand allow. -/
theorem changeReturn {st : ReturnState} (hb : Balanced s.dr.fMeas s.rc) (hp : Placed st s.rc) :
    ReturnLegal (changeReturn st s) := by
  have ht := changeReturn_eq (st := st) (s := s) rfl
  generalize Machine.changeReturn st s = t at ht
  refine (returnLegal_iff t).2 ⟨?_, ?_⟩
  · rw [ht]; exact ⟨hb, rfl, hp⟩
  · exact congrArg (·.wg.fallbackFlag) ht

/-- R162: priming starts with the line high, a ceiling and a demand, out of the hold. -/
theorem startPriming (hb : Balanced s.dr.fMeas s.rc) (hc : s.rc.qc ≠ 0) (hr : s.rc.ready = true) (h0 : 0 < s.rc.qp)
    (ha : s.rc.armed = false) : ReturnLegal (startPriming s) :=
  changeReturn hb ⟨by simpa using hc, by simp, by simp [ha], fun _ => hr, fun _ => h0, by simp, fun _ => rfl⟩

/-- R162: the plant tested, by a return with a demand and none of its timers running. -/
theorem testPlant (hb : Balanced s.dr.fMeas s.rc) (hc : s.rc.qc ≠ 0) (ht : s.rc.primingTimer = none)
    (hs : s.rc.starvation = 0) (ha : s.rc.armed = false) : ReturnLegal (testPlant s) := by
  unfold Machine.testPlant
  split
  · next h =>
    obtain ⟨hr, h0⟩ := Bool.and_eq_true_iff.1 h
    exact startPriming hb hc hr (of_decide_eq_true h0) ha
  · exact changeReturn hb ⟨by simpa using hc, by simp [ht], by simp [ha], by simp [pumpOn], by simp, by simp [hs],
      fun _ => hs⟩

/-- R165, R166: a return that primes or pumps starves. -/
theorem starve (h : ReturnLegal s) (hs : s.rc.state = .priming ∨ s.rc.state = .pumping) : ReturnLegal (starve s) := by
  obtain ⟨hoff, _, harm, hready, _⟩ := h.placed
  have hne : s.rc.state ≠ .off ∧ s.rc.state ≠ .plantHold ∧ pumpOn s.rc.state = true := by
    rcases hs with hs | hs <;> rw [hs] <;> decide
  obtain ⟨hno, hnh, hon⟩ := hne
  exact changeReturn h.balanced ⟨by simpa using mt hoff.2 hno, by simp, by simpa using mt harm.1 hnh,
    fun _ => hready hon, by simp, by simp, fun _ => rfl⟩

end ReturnLegal

end Sys2Proof.Machine
end

section
/-! SUPPORT. The requests and the events of the return (R155 to R170): each keeps `ReturnLegal` (O19). -/

namespace Sys2Proof.Machine

/-! ## The demand and the ceiling (R155, R156, R160, R161) -/

/-- R155, R160, R161: a new demand before it is taken into the return state. -/
def demanded (qc : Nat) (s : State) : State := rejudgeShort { s with rc := recomputeDemand { s.rc with qc := qc } }

theorem demanded_eq (qc : Nat) (s : State) :
    demanded qc s = { s with
      rc := { s.rc with
        qc := qc, qEff := effectiveDemand qc s.rc.qFloor s.rc.qp
        short := decide (0 < qc) && decide (s.rc.qp < s.rc.qFloor)
        pump := if pumpOn s.rc.state then effectiveDemand qc s.rc.qFloor s.rc.qp else 0 }
      eu := if (decide (0 < qc) && decide (s.rc.qp < s.rc.qFloor)) && !s.rc.short then latchAll .transportShort s.eu
            else s.eu } := by
  rw [demanded, rejudgeShort_eq]
  rfl

/-- R155, R163: what RC does with a demand. -/
theorem applySetPumpDemand_eq (qc : Nat) (s : State) :
    applySetPumpDemand qc s = .ok
      (if qc = s.rc.qc then s
       else if s.rc.state = .off then (if qc = 0 then demanded qc s else testPlant (demanded qc s))
       else if qc = 0 then returnOff (demanded qc s) else demanded qc s) := by
  have hst : (demanded qc s).rc.state = s.rc.state := by rw [demanded_eq]
  unfold applySetPumpDemand
  split
  · rfl
  · exact congrArg _ (if_congr (by rw [← hst]; rfl) rfl rfl)

namespace ReturnLegal
variable {s : State}

theorem balanced_demanded (h : ReturnLegal s) (qc : Nat) : Balanced (demanded qc s).dr.fMeas (demanded qc s).rc := by
  obtain ⟨hsettle, hconc, hfloor, _, _⟩ := h.balanced
  rw [demanded_eq]
  exact ⟨hsettle, hconc, hfloor, rfl, rfl⟩

/-- R155, R163: a demand of 0 is that of OFF alone. -/
theorem demand {t : State} {qc : Nat} (h : ReturnLegal s) (ht : applySetPumpDemand qc s = .ok t) : ReturnLegal t := by
  rw [applySetPumpDemand_eq] at ht
  obtain ⟨hoff, hpriming, harmed, hready, hqp, hfew, hidle⟩ := h.placed
  have hb := h.balanced_demanded qc
  have he := demanded_eq qc s
  generalize demanded qc s = y at ht hb he
  have hrc := congrArg State.rc he
  have hstate : y.rc.state = s.rc.state := by rw [hrc]
  split at ht
  · cases ht; exact h
  next hne =>
  split at ht
  · next hst =>
    have hqc : qc ≠ 0 := fun h0 => hne (h0.trans (hoff.1 hst).symm)
    rw [if_neg hqc] at ht
    cases ht
    refine testPlant hb (by rw [hrc]; exact hqc) ?_ ?_ ?_
    · rw [hrc]
      simpa [hst] using hpriming
    · rw [hrc]
      exact hidle (by rw [hst]; decide)
    · rw [hrc]
      simpa [hst] using harmed
  · next hst =>
    split at ht
    · next h0 =>
      cases ht
      exact changeReturn hb
        ⟨by rw [hrc]; simpa using h0, by simp, by simp, by simp [pumpOn], by simp, by simp, fun _ => rfl⟩
    · next h0 =>
      cases ht
      refine h.setRc ⟨hb, by rw [hrc], ?_⟩ hstate rfl rfl (by rw [he])
      rw [hrc]
      exact ⟨iff_of_false hst h0, hpriming, harmed, hready, hqp, hfew, hidle⟩

/-- R156, R164, R167: a ceiling of 0 stops a return that primes or pumps, and a ceiling above 0 starts one that
waits. -/
theorem ceiling (h : ReturnLegal s) (qp : Nat) : ReturnLegal (takeCeiling qp s) := by
  obtain ⟨hsettle, hconc, hfloor, _, _⟩ := h.balanced
  obtain ⟨hoff, hpriming, harmed, hready, hqp, hfew, hidle⟩ := h.placed
  have he := ceilingTaken_eq qp s
  rw [takeCeiling_eq]
  generalize ceilingTaken qp s = y at he
  have hrc := congrArg State.rc he
  have hst : y.rc.state = s.rc.state := by rw [hrc]
  have hb : Balanced y.dr.fMeas y.rc := by
    rw [he]
    exact ⟨hsettle, hconc, hfloor, rfl, rfl⟩
  by_cases hstop : y.rc.qp = 0 ∧ (y.rc.state = .priming ∨ y.rc.state = .pumping)
  · rw [ceilingIntoState_stops hstop]
    rw [hst] at hstop
    have hne : s.rc.state ≠ .off ∧ s.rc.state ≠ .plantHold := by
      rcases hstop.2 with hs | hs <;> rw [hs] <;> decide
    refine changeReturn hb ⟨?_, by simp, ?_, by simp [pumpOn], by simp, by simp, fun _ => rfl⟩
    · rw [hrc]
      simpa using mt hoff.2 hne.1
    · rw [hrc]
      simpa using mt harmed.1 hne.2
  by_cases hstart : y.rc.state = .waitingPlant ∧ y.rc.ready = true ∧ 0 < y.rc.qp
  · rw [ceilingIntoState_starts hstart]
    obtain ⟨hs, hr, h0⟩ := hstart
    rw [hst] at hs
    refine startPriming hb ?_ hr h0 ?_
    · rw [hrc]
      exact mt hoff.2 (by rw [hs]; decide)
    · rw [hrc]
      simpa [hs] using harmed
  · rw [ceilingIntoState_still hstop hstart]
    refine h.setRc ⟨hb, by rw [hrc], ?_⟩ hst rfl rfl (by rw [he])
    have hpos : y.rc.state = .priming ∨ y.rc.state = .pumping → 0 < y.rc.qp := fun hs =>
      Nat.pos_of_ne_zero fun h0 => hstop ⟨h0, hs⟩
    rw [hrc] at hpos ⊢
    exact ⟨hoff, hpriming, harmed, hready, hpos, hfew, hidle⟩

/-- R165, R166: a flow gate judged. -/
theorem flow (h : ReturnLegal s) : ReturnLegal (judgeFlow s) := by
  obtain ⟨hoff, hpriming, harmed, hready, hqp, hfew, hidle⟩ := h.placed
  have hcount (n : Nat) (hn : n < 5) (hs : s.rc.state = .pumping) :
      ReturnLegal { s with rc := { s.rc with starvation := n } } :=
    h.setRc (f := s.dr.fMeas) (r := { s.rc with starvation := n })
      ⟨h.balanced, h.rc.2.1, hoff, hpriming, harmed, hready, hqp, hn, fun hne => absurd hs hne⟩ rfl rfl rfl rfl
  cases hs : s.rc.state
  case priming =>
    rw [judgeFlow_priming hs]
    rw [hs] at hoff hpriming harmed hready hqp
    split
    · exact changeReturn h.balanced
        ⟨by simpa using hoff, by simp, by simpa using harmed, fun _ => hready rfl, fun _ => hqp (.inl rfl), by simp,
          fun _ => rfl⟩
    · exact h
  case pumping =>
    rw [judgeFlow_pumping hs]
    split
    · split
      · exact h.starve (.inr hs)
      · exact hcount _ (by omega) hs
    · exact hcount 0 (by omega) hs
  all_goals
    rw [judgeFlow_still (by simp [hs]) (by simp [hs])]
    exact h

/-- R170: a reset takes the return out of STARVED and PLANT_HOLD. -/
theorem reset (h : ReturnLegal s) : ReturnLegal (resetReturn s) := by
  obtain ⟨hoff, hpriming, harmed, _, _, _, hidle⟩ := h.placed
  cases hs : s.rc.state <;> simp only [resetReturn, hs]
  case starved =>
    rw [hs] at hoff hpriming harmed hidle
    exact testPlant h.balanced (by simpa using hoff) (by simpa using hpriming) (hidle (by decide))
      (by simpa using harmed)
  case plantHold =>
    rw [hs] at hoff hpriming hidle
    exact testPlant (s := { s with rc := { s.rc with armed := false } }) h.balanced (by simpa using hoff)
      (by simpa using hpriming) (hidle (by decide)) rfl
  all_goals exact h

/-- R164, R169: a return with the line high, as the line has just risen. -/
theorem rise (h : ReturnLegal s) (hr : s.rc.ready = true) (low : Nat) : ReturnLegal (takeRise low s) := by
  obtain ⟨hoff, _, harmed, _⟩ := h.placed
  unfold takeRise
  split
  · next hs =>
    split
    · next h0 =>
      exact startPriming h.balanced (mt hoff.2 (by rw [hs]; decide)) hr h0 (by simpa [hs] using harmed)
    · exact h
  · next hs =>
    have hreset : resetReturn s = leaveHold s := by rw [resetReturn, hs]
    unfold riseInHold
    split
    · rw [← hreset]; exact h.reset
    · exact h
  all_goals exact h

/-- R164, R168, R169: the line goes high. -/
theorem lineHigh (h : ReturnLegal s) : ReturnLegal { s with rc := { s.rc with ready := true } } := by
  obtain ⟨hoff, hpriming, harmed, _, hrest⟩ := h.placed
  exact h.setRc (f := s.dr.fMeas) (r := { s.rc with ready := true })
    ⟨h.balanced, h.rc.2.1, hoff, hpriming, harmed, fun _ => rfl, hrest⟩ rfl rfl rfl rfl

/-- The line goes low while the pump is off (R168). -/
theorem lineLow (h : ReturnLegal s) (hp : pumpOn s.rc.state = false) (n : Nat) :
    ReturnLegal { s with rc := { s.rc with ready := false, lowFor := n } } := by
  obtain ⟨hoff, hpriming, harmed, _, hrest⟩ := h.placed
  exact h.setRc (f := s.dr.fMeas) (r := { s.rc with ready := false, lowFor := n })
    ⟨h.balanced, h.rc.2.1, hoff, hpriming, harmed, fun hn => by simp [hp] at hn, hrest⟩ rfl rfl rfl rfl

/-- R168: a fall of the line stops the pump. -/
theorem fall {y : State} (h : ReturnLegal s) (hy : y = { s with rc := { s.rc with ready := false } }) :
    ReturnLegal (takeFall y) := by
  have hst : y.rc.state = s.rc.state := by rw [hy]
  have hoff : y.rc.state = .off ↔ y.rc.qc = 0 := by
    rw [hy]; exact h.placed.1
  have hb : Balanced y.dr.fMeas y.rc := by
    rw [hy]; exact h.balanced
  have held (ho : y.rc.qc ≠ 0) :
      ReturnLegal (Machine.changeReturn .plantHold
        { y with rc := { y.rc with primingTimer := none, starvation := 0, armed := true, lowFor := 0 } }) :=
    changeReturn hb ⟨by simpa using ho, by simp, by simp, by simp [pumpOn], by simp, by simp, fun _ => rfl⟩
  unfold takeFall
  cases hs : y.rc.state
  case priming | pumping | starved => exact held (mt hoff.2 (by rw [hs]; decide))
  case plantHold =>
    have hp : pumpOn s.rc.state = false := by rw [← hst, hs]; rfl
    rw [hy]
    exact h.lineLow hp 0
  case off | waitingPlant =>
    have hp : pumpOn s.rc.state = false := by rw [← hst, hs]; rfl
    rw [hy]
    exact h.lineLow hp s.rc.lowFor

/-- R158, R159: the floor recomputed, whatever the transport settings and the measured feed rate. -/
theorem floor (h : ReturnLegal s) (d : Dr) (k : Transport) :
    ReturnLegal (recomputeFloor { s with dr := d, rc := { s.rc with transport := k } }) := by
  rw [recomputeFloor_eq]
  exact h.setRc (f := d.fMeas) (r := flooredRc d.fMeas { s.rc with transport := k })
    ⟨⟨rfl, rfl, rfl, rfl, rfl⟩, rfl, h.placed⟩ rfl rfl rfl rfl

/-- R28: F_meas replaced; one that stands already leaves the floor. -/
theorem feedRate (h : ReturnLegal s) (v : Nat) : ReturnLegal (setFeedRate v s) := by
  unfold setFeedRate
  split
  · exact h
  · exact h.floor { s.dr with fMeas := v } s.rc.transport

/-- A millisecond of the timers (R165, R169). -/
theorem tick (h : ReturnLegal s) : ReturnLegal (tick s) := by
  obtain ⟨hoff, hpriming, hrest⟩ := h.placed
  exact h.setRc (f := s.dr.fMeas) (r := tickRc s.rc)
    ⟨h.balanced, h.rc.2.1, hoff, by simpa [tickRc, runDown] using hpriming, hrest⟩ rfl rfl rfl rfl

end ReturnLegal

end Sys2Proof.Machine
end

section
/-! SUPPORT. What the wheel invariant and the return invariant read (`Duty`), and what each operation makes of it (O15,
O19). `KeepsDuty s t` says that a state `t` has each of the two invariants that `s` has; most operations leave what they
read as it was. -/

namespace Sys2Proof.Machine

/-- What `WheelsLegal` and `ReturnLegal` read of a state. -/
structure Duty where
  wheels : PerWheel WheelRec
  recovering : Option Wheel
  haulage : ReturnView

def duty (s : State) : Duty :=
  { wheels := s.wg.wheels, recovering := s.sru.record.map (·.wheel), haulage := returnView s }

/-- Each of the two invariants that holds of `s` holds of `t`. -/
structure KeepsDuty (s t : State) : Prop where
  wheels : WheelsLegal s → WheelsLegal t
  haulage : ReturnLegal s → ReturnLegal t

namespace KeepsDuty

variable {a s t : State}

theorem refl (s : State) : KeepsDuty s s := ⟨id, id⟩

/-- An operation on the wheels. -/
theorem setWheels (h : KeepsDuty a s) (hw : WheelsLegal s → WheelsLegal t) (hr : returnView t = returnView s) :
    KeepsDuty a t :=
  ⟨hw ∘ h.wheels, fun ha => (h.haulage ha).congr hr⟩

/-- An operation on the return. -/
theorem setReturn (h : KeepsDuty a s) (hr : ReturnLegal s → ReturnLegal t) (hw : t.wg.wheels = s.wg.wheels)
    (hk : t.sru.record.map (·.wheel) = s.sru.record.map (·.wheel)) : KeepsDuty a t :=
  ⟨fun ha => (h.wheels ha).sameLaw (fun _ => by rw [hw]) (fun v => by rw [hw]; exact (h.wheels ha).quiet v) hk,
   hr ∘ h.haulage⟩

theorem same (h : KeepsDuty a s) (he : duty t = duty s) : KeepsDuty a t := by
  obtain ⟨hw, hk, hr⟩ := Duty.mk.inj he
  exact h.setReturn (fun hs => hs.congr hr) hw hk

theorem ite {c : Prop} [Decidable c] {u : State} (ht : c → KeepsDuty a t) (hu : ¬ c → KeepsDuty a u) :
    KeepsDuty a (if c then t else u) := by
  split
  · next hc => exact ht hc
  · next hc => exact hu hc

/-! ## The zone table (R37 to R43) -/

/-- R43, R52: a zone's values handed. -/
theorem handZone (h : KeepsDuty a s) : KeepsDuty a (handZone s) :=
  h.setReturn (fun hs => hs.judged rfl rfl rfl) rfl rfl

theorem selectZone {x : Nat} (h : KeepsDuty a s) : KeepsDuty a (selectZone x s) :=
  .ite (fun _ => h.same rfl) fun _ => handZone (h.same rfl)

theorem changeTable {es : List ZoneEntry} (h : KeepsDuty a s) : KeepsDuty a (changeTable es s) :=
  .ite (fun _ => handZone (h.same rfl)) fun _ => .ite (fun _ => handZone (h.same rfl)) fun _ => h.same rfl

/-! ## Depth (R20 to R31) -/

theorem handDepth (h : KeepsDuty a s) : KeepsDuty a (handDepth s) :=
  (h.selectZone (x := s.dr.depth)).same (by simp [Machine.handDepth, duty, returnView])

theorem feedRate {v : Nat} (h : KeepsDuty a s) : KeepsDuty a (setFeedRate v s) :=
  h.setReturn (fun hs => hs.feedRate v) (by simp) (by simp)

theorem emptyHistory (h : KeepsDuty a s) : KeepsDuty a (emptyHistory s) :=
  feedRate (h.same rfl)

theorem takeCount {count : Int} (h : KeepsDuty a s) : KeepsDuty a (takeCount count s) :=
  h.same (by simp [duty, returnView])

theorem reportCount {count : Int} (h : KeepsDuty a s) : KeepsDuty a (reportCount count s) := by
  unfold Machine.reportCount
  split
  · exact h.same rfl
  · exact handDepth (takeCount (h.same rfl))
  · exact handDepth (takeCount (emptyHistory (h.same rfl)))

theorem takeDatum {v : Nat} (h : KeepsDuty a s) : KeepsDuty a (takeDatum v s) :=
  handDepth (emptyHistory (h.same rfl))

theorem goStale (h : KeepsDuty a s) : KeepsDuty a (goStale s) :=
  .ite (fun _ => handDepth (h.same rfl)) fun _ => h

/-! ## The wheels (R59 to R66) -/

theorem haltWheels (h : KeepsDuty a s) : KeepsDuty a (haltWheels s) := by
  refine h.setWheels (fun hs => ?_) (by simp [Machine.haltWheels, returnView])
  refine .together (.inr rfl) (fun v => ?_) (fun v => ?_) ?_
  · rw [haltWheels_wheels]
    exact law_halt (haltWheel_state _)
  · rw [haltWheels_wheels]
    exact (hs.quiet v).halt
  · rw [haltWheels_sru]
    exact (abortRecovery_sru s).1

/-- R59: the stalled wheel is RECOVERING by a record of its own, and its partner stands by. -/
theorem takeStall {w : Wheel} (h : KeepsDuty a s) : KeepsDuty a (takeStall w s) := by
  refine h.setWheels (fun _ => ?_) (by simp [Machine.takeStall, returnView])
  refine .ofWheels w (v := quietWheel .recovering 0 (s.wg.wheels.get w))
    (u := quietWheel .standby 0 (noReverse (s.wg.wheels.get (other w)))) ?_ ?_ rfl
    (wheelQuiet_quietWheel (fun _ => rfl) (by simp)) (wheelQuiet_quietWheel (fun _ => rfl) (by simp))
    (by simp [quietWheel]) ?_
  · cases w <;> simp [Machine.takeStall, PerWheel.get, PerWheel.set, other]
  · simp [Machine.takeStall]
  · simp [Machine.takeStall, quietWheel]

/-- R61: the wheel in fault stands with its reference at 0, and its partner stands aside. -/
theorem takeTachFault {w : Wheel} (h : KeepsDuty a s) (hw : (s.wg.wheels.get w).state = .running) :
    KeepsDuty a (takeTachFault w s) := by
  refine h.setWheels (fun hs => ?_) (by simp [Machine.takeTachFault, returnView])
  have hrec : s.sru.record = none := hs.noRecord (w := w) (by rw [hw]; decide) (by rw [hw]; decide)
  have haside := standAside_normal (partner_normal (hs.pair w) (.inr hw))
  refine .ofWheels w (v := quietWheel .tachFault 0 { s.wg.wheels.get w with acc := 0 })
    (u := quietWheel .standby 0 (s.wg.wheels.get (other w))) ?_ ?_ rfl
    (wheelQuiet_quietWheel (fun _ => rfl) (fun _ => rfl)) (wheelQuiet_quietWheel (fun _ => rfl) (by simp))
    (by simp [quietWheel]) ?_
  · cases w <;> simp [Machine.takeTachFault, PerWheel.get, PerWheel.set, other]
  · simp [Machine.takeTachFault, haside]
  · simp [Machine.takeTachFault, quietWheel, hrec]

/-- R62, R83: a wheel JAMMED or in fault and its partner in STANDBY both enter the normal law. -/
theorem clearJamTaken (h : KeepsDuty a s) {w : Wheel} (hw : jammedOrFault (s.wg.wheels.get w) = true) :
    KeepsDuty a (clearJamTaken s) := by
  refine h.setWheels (fun hs => ?_) (by simp [Machine.clearJamTaken, returnView])
  have hw' : (s.wg.wheels.get w).state = .jammed ∨ (s.wg.wheels.get w).state = .tachFault := by
    simpa [jammedOrFault] using hw
  have hrec : s.sru.record = none := by
    rcases hw' with hj | hf
    · exact hs.noRecord (w := w) (by rw [hj]; decide) (by rw [hj]; decide)
    · exact hs.noRecord (w := w) (by rw [hf]; decide) (by rw [hf]; decide)
  have hget (v : Wheel) : (Machine.clearJamTaken s).wg.wheels.get v = unjam s.wg v := by
    cases v <;> simp [Machine.clearJamTaken, PerWheel.get]
  have hunjam (v : Wheel) : unjam s.wg v = enterNormal s.wg v := by
    refine if_pos ?_
    rcases wheel_or_other w v with rfl | rfl
    · simp [hw]
    · simp [partner_standby (hs.pair w) (.inr hw')]
  refine .together (.inl rfl) (fun v => ?_) (fun v => ?_) (by simp [Machine.clearJamTaken, hrec]) <;>
    rw [hget, hunjam]
  · exact law_normal (enterNormal_state s.wg v)
  · exact .enterNormal s.wg v

/-- R65: with no wheel HALTING both are HALTED or neither is. -/
theorem releaseWheels (h : KeepsDuty a s) (hh : ∀ v, (s.wg.wheels.get v).state ≠ .halting) :
    KeepsDuty a (releaseWheels s) := by
  refine h.setWheels (fun hs => ?_) (by simp [Machine.releaseWheels, returnView])
  have hget (v : Wheel) : (Machine.releaseWheels s).wg.wheels.get v = releaseWheel (s.wg.wheels.get v) := by
    cases v <;> simp [Machine.releaseWheels, PerWheel.get]
  have hrec : (Machine.releaseWheels s).sru.record = s.sru.record := by simp [Machine.releaseWheels]
  by_cases hany : ∃ w, (s.wg.wheels.get w).state = .halted
  · obtain ⟨w, hw⟩ := hany
    have hall (v : Wheel) : (s.wg.wheels.get v).state = .halted := by
      rcases wheel_or_other w v with rfl | rfl
      · exact hw
      · exact (partner_halt (hs.pair w) (.inr hw)).resolve_left (hh _)
    refine .together (.inl rfl) (fun v => ?_) (fun v => ?_) ?_
    · rw [hget, releaseWheel, if_pos (hall v)]
      rfl
    · rw [hget]
      exact (hs.quiet v).release
    · rw [hrec]
      exact hs.noRecord (w := w) (by rw [hw]; decide) (by rw [hw]; decide)
  · have hstill (v : Wheel) : releaseWheel (s.wg.wheels.get v) = s.wg.wheels.get v := if_neg fun hv => hany ⟨v, hv⟩
    exact hs.sameLaw (fun v => by rw [hget, hstill]) (fun v => by rw [hget, hstill]; exact hs.quiet v) (by rw [hrec])

/-- R60: a gate judged. -/
theorem judgeGate {w : Wheel} {pulses : Nat} (h : KeepsDuty a s) : KeepsDuty a (judgeGate w pulses s) := by
  unfold Machine.judgeGate
  dsimp only
  refine .ite (fun hw => ?_) fun _ => h
  have hcount (n : Nat) : KeepsDuty a (s.setWheel w { s.wg.wheels.get w with zeroGates := n }) := by
    refine h.setWheels (fun hs => hs.sameLaw (fun v => ?_) (fun v => ?_) rfl) rfl
    · rcases wheel_or_other w v with rfl | rfl <;> simp
    · rcases wheel_or_other w v with rfl | rfl
      · simpa using .ofRunning hw
      · simpa using hs.quiet _
  exact .ite (fun _ => .ite (fun _ => h.takeTachFault hw) fun _ => hcount _) fun _ => hcount 0

/-! ## A posted request applied (R185) -/

theorem applied {p : Port} {r : Posted} (h : KeepsDuty a s) (ht : applyPosted p r s = .ok t) : KeepsDuty a t := by
  cases r
  case loadZone =>
    simp only [applyPosted, applyLoadZone] at ht
    (repeat' split at ht) <;> cases ht
    exact h.changeTable
  case dropZone =>
    simp only [applyPosted, applyDropZone] at ht
    (repeat' split at ht) <;> cases ht
    · exact h.changeTable
    · exact h
  case clearJam =>
    simp only [applyPosted, applyClearJam] at ht
    split at ht <;> cases ht
    next hj =>
    rcases Bool.or_eq_true_iff.1 hj with hj | hj
    · exact h.clearJamTaken (w := .a) hj
    · exact h.clearJamTaken (w := .b) hj
  case setFallbackSpeed =>
    simp only [applyPosted, applySetFallbackSpeed] at ht
    split at ht <;> cases ht
    exact h.setReturn (fun hs => hs.judged rfl rfl rfl) rfl rfl
  case setPumpDemand =>
    refine h.setReturn (fun hs => hs.demand ht) ?_ ?_ <;>
      rw [applyPosted, applySetPumpDemand_eq] at ht <;> cases ht <;> (repeat' split) <;> simp [demanded]
  case setTransport =>
    simp only [applyPosted, applySetTransport] at ht
    split at ht <;> cases ht
    exact h.setReturn (fun hs => (hs.floor _ _).congr rfl) (by simp) (by simp)
  case setSteerMode | setSteerGains | setPlate | clearPlate =>
    simp only [applyPosted, applySetSteerMode, applySetSteerGains, applySetPlate, applyClearPlate] at ht
    (repeat' split at ht) <;> cases ht <;> exact h.same (by simp [duty, returnView])
  case setWheelDemand | setRamp | setTrimManual => cases ht; exact h.same rfl
  all_goals
    simp only [applyPosted, applySetScaler, applySetDepthCheck, applySetRecovery, applySetPortTimeout,
      applyAckEvents, applySetEventEnables, applySetAlertLine, applySetMarkWidth] at ht
    (repeat' split at ht) <;> cases ht
    exact h.same rfl

theorem applyEntry {p : Port} {e : Entry} (h : KeepsDuty a s) : KeepsDuty a (applyEntry p e s) := by
  unfold Machine.applyEntry
  split
  · next ht => exact h.applied ht
  · exact h.same (by simp [recordRefusal, duty, returnView])

/-! ## The posted queues (R184 to R186) -/

theorem drainList {p : Port} {es : List Entry} (h : KeepsDuty a s) : KeepsDuty a (drainList p es s) := by
  induction es generalizing s with
  | nil => exact h.same rfl
  | cons e es ih => exact .ite (fun _ => h.same rfl) fun _ => ih h.applyEntry

theorem releaseHead {concerns : Posted → Bool} (h : KeepsDuty a s) : KeepsDuty a (releaseHead concerns s) := by
  unfold Machine.releaseHead
  split
  · exact .ite (fun _ => h.drainList) fun _ => h
  · exact h

theorem joinQueue {p : Port} {e : Entry} (h : KeepsDuty a s) : KeepsDuty a (joinQueue p e s) :=
  .ite (fun _ => h.drainList) fun _ => h.same rfl

/-! ## The governor update and the recovery (R54, R75) -/

/-- R82: both wheels handed back, and the record cleared. -/
theorem endRecovered {r : Recovery} (h : KeepsDuty a s) : KeepsDuty a (endRecovered r s) := by
  have hw : KeepsDuty a (clearRecord (recomputeFeed
      { s with wg := { s.wg with wheels := { a := handBack s.wg .a, b := handBack s.wg .b } } })) := by
    refine h.setWheels (fun _ => ?_) (by simp [returnView])
    refine .together (.inl rfl) (fun v => ?_) (fun v => ?_) (by simp [clearRecord])
    · cases v <;> simp [PerWheel.get, handBack, quietWheel, law]
    · cases v <;> simpa [PerWheel.get] using .ofRunning rfl
  exact hw.releaseHead.same rfl

/-- R81: the wheel is JAMMED at reference 0 beside its partner in STANDBY, and the record cleared. -/
theorem endJammed {r : Recovery} (h : KeepsDuty a s) (hr : s.sru.record.map (·.wheel) = some r.wheel) :
    KeepsDuty a (endJammed r s) := by
  have hw : KeepsDuty a (clearRecord (recomputeFeed
      (s.setWheel r.wheel (quietWheel .jammed 0 { s.wg.wheels.get r.wheel with acc := 0 })))) := by
    refine h.setWheels (fun hs => ?_) (by simp [returnView])
    have hrec : (s.wg.wheels.get r.wheel).state = .recovering := (((wheelsLegal_iff r.wheel s).1 hs).2.2 _).2 hr
    have hstand := partner_standby (hs.pair r.wheel) (.inl hrec)
    refine .ofWheels r.wheel (v := quietWheel .jammed 0 { s.wg.wheels.get r.wheel with acc := 0 })
      (u := s.wg.wheels.get (other r.wheel)) (by simp) (by simp) (by rw [hstand]; rfl)
      (wheelQuiet_quietWheel (fun _ => rfl) (fun _ => rfl)) (hs.quiet _) (by rw [hstand]; decide) ?_
    simp [clearRecord, quietWheel]
  exact hw.releaseHead.same rfl

theorem failBurst {r : Recovery} (h : KeepsDuty a s) (hr : s.sru.record.map (·.wheel) = some r.wheel) :
    KeepsDuty a (failBurst r s) :=
  .ite (fun _ => h.same (by simp [State.setRecord, duty, hr, returnView])) fun _ => h.endJammed hr

/-- R75: a phase that is reached, or not, is one of the same wheel. -/
theorem arrived_wheel (c : Prop) [Decidable c] (r : Recovery) : (if c then arrive r else r).wheel = r.wheel := by
  unfold arrive
  (repeat' split) <;> rfl

/-- R75, steps 2 to 4. -/
theorem driveRecovery {r : Recovery} (h : KeepsDuty a s) (hr : s.sru.record.map (·.wheel) = some r.wheel) :
    KeepsDuty a (driveRecovery r s) := by
  have hmoved (v : Int) (r2 : Recovery) (h2 : r2.wheel = r.wheel) :
      KeepsDuty a ((s.setWheel r.wheel { s.wg.wheels.get r.wheel with acc := v }).setRecord (some r2)) := by
    refine h.setWheels (fun hs => ?_) rfl
    have hrec : (s.wg.wheels.get r.wheel).state = .recovering := (((wheelsLegal_iff r.wheel s).1 hs).2.2 _).2 hr
    obtain ⟨ht, hrun, _⟩ := hs.quiet r.wheel
    refine hs.sameLaw (fun v => ?_) (fun v => ?_) (by simp [State.setRecord, h2, hr])
    · rcases wheel_or_other r.wheel v with rfl | rfl <;> simp [State.setRecord]
    · rcases wheel_or_other r.wheel v with rfl | rfl
      · simp only [State.setRecord, State.setWheel_wg, PerWheel.get_set_same]
        exact ⟨ht, hrun, by simp [hrec]⟩
      · simpa [State.setRecord] using hs.quiet _
  exact .ite (fun _ => failBurst (hmoved _ _ (arrived_wheel _ r)) rfl) fun _ =>
    hmoved _ _ (arrived_wheel _ r)

theorem stepRecovery {r : Recovery} (h : KeepsDuty a s) (hr : s.sru.record.map (·.wheel) = some r.wheel) :
    KeepsDuty a (stepRecovery r s) := by
  have hadvance : (advanceTimer r).wheel = r.wheel := rfl
  unfold Machine.stepRecovery
  dsimp only
  (repeat' split)
  · exact h.driveRecovery (by rw [hr, ← hadvance]; rfl)
  · exact h.endRecovered
  · exact h.driveRecovery (by rw [hr, hadvance])

/-- R52: FALLBACK judged anew at an update. -/
theorem retarget (h : KeepsDuty a s) : KeepsDuty a (retarget s) :=
  h.setReturn (fun hs => hs.judged rfl rfl rfl) rfl rfl

/-- R54, steps 1 to 5. -/
theorem governed {pa pb : Int} (h : KeepsDuty a s) : KeepsDuty a (governed pa pb s) := by
  have ht : KeepsDuty a (Machine.retarget (samplePressures pa pb s)) := retarget (h.same rfl)
  generalize hu : Machine.retarget (samplePressures pa pb s) = u at ht
  rw [Machine.governed, hu]
  have hget (v : Wheel) : (governWheels u).wg.wheels.get v = governWheel u v := by cases v <;> rfl
  exact ht.setWheels (fun hs => hs.sameLaw (fun v => by rw [hget, law_governWheel])
    (fun v => by rw [hget]; exact (hs.quiet v).govern) rfl) rfl

theorem takeStalls (h : KeepsDuty a s) : KeepsDuty a (takeStalls s) := by
  unfold Machine.takeStalls
  split
  · exact h.takeStall
  · exact h

theorem restWheels (h : KeepsDuty a s) : KeepsDuty a (restWheels s) := by
  have hget (v : Wheel) : (Machine.restWheels s).wg.wheels.get v = restWheel (s.wg.wheels.get v) := by
    rw [restWheels_eq, raiseHalted_eu]
    exact rested_wheel ..
  refine h.setWheels (fun hs => hs.sameLaw (fun v => by rw [hget, law_restWheel])
    (fun v => by rw [hget]; exact (hs.quiet v).rest) ?_) ?_ <;> rw [restWheels_eq, raiseHalted_eu] <;> rfl

/-- R54: the update, whole. A recovery that stood at its start stands until SRU steps it. -/
theorem governorStep {pa pb : Int} (h : KeepsDuty a s) : KeepsDuty a (governorStep pa pb s) := by
  have hr : KeepsDuty a (Machine.restWheels (Machine.takeStalls (Machine.governed pa pb s))) :=
    h.governed.takeStalls.restWheels
  have hstep : KeepsDuty a (stepSru s (Machine.restWheels (Machine.takeStalls (Machine.governed pa pb s)))) := by
    unfold stepSru
    split
    · exact hr
    · next r hrec =>
      refine .ite (fun _ => hr.stepRecovery ?_) fun _ => hr
      rw [takeStalls_recovering (governed_record.trans hrec), restWheels_eq, raiseHalted_eu]
      exact congrArg (Option.map (·.wheel)) hrec
  rw [governorStep_eq]
  exact hstep.same (by simp [duty, returnView])

/-! ## Requests (R177, R182, R187) -/

theorem hear {p : Port} (h : KeepsDuty a s) : KeepsDuty a (hear p s) := h.same (by simp [duty, returnView])

theorem reply {k : Kind} {p : Port} {tag : Byte} {st : Status} {d : List Byte} (h : KeepsDuty a s) :
    KeepsDuty a (reply k p tag st d s) := h.same rfl

theorem receive {k : Kind} {p : Port} {tag : Byte} {d : List Byte} {body : State → State} (h : KeepsDuty a s)
    (hb : ∀ t, KeepsDuty a t → KeepsDuty a (body t)) : KeepsDuty a (receive k p tag d body s) :=
  .ite (fun _ => h.hear.reply) fun _ => .ite (fun _ => h.hear.reply) fun _ => .ite (fun _ => h.hear.reply) fun _ =>
    hb _ h.hear

/-- A request whose effect leaves what the two invariants read as it was. -/
theorem receive_same {k : Kind} {p : Port} {tag : Byte} {d : List Byte} {body : State → State} (h : KeepsDuty a s)
    (hb : ∀ t, duty (body t) = duty t) : KeepsDuty a (Machine.receive k p tag d body s) :=
  h.receive fun t ht => ht.same (hb t)

theorem post {k : Kind} {p : Port} {tag : Byte} {d : List Byte} {make : State → Posted × Bool} (h : KeepsDuty a s) :
    KeepsDuty a (post k p tag d make s) :=
  h.receive fun _ ht => .ite (fun _ => ht.reply) fun _ => ht.reply.joinQueue

end KeepsDuty

end Sys2Proof.Machine
end

section
/-! SUPPORT. Every command and every millisecond keeps the wheels legal and the return as it follows from its inputs
(O15, O19). -/

namespace Sys2Proof.Machine

/-! ## The operations with more than one branch that leave what the two invariants read -/

theorem duty_stopSurvey (s : State) : duty (stopSurvey s) = duty s := by
  unfold stopSurvey
  split <;> simp [duty, returnView]

theorem duty_startCheck (s : State) : duty (startCheck s) = duty s := by
  unfold startCheck
  dsimp only
  split <;> simp [duty, returnView]

theorem duty_takeInvalid (s : State) : duty (takeInvalid s) = duty s := by
  unfold takeInvalid
  dsimp only
  split
  · simp [loseSensor, duty, returnView]
  · rfl

theorem duty_takeValid (x y psi : Int) (s : State) : duty (takeValid x y psi s) = duty s := by
  unfold takeValid
  dsimp only
  split
  · simp [duty, returnView]
  · simp [endStarting, duty, returnView]

namespace KeepsDuty

variable {a s t : State}

/-! ## Restart and loss -/

/-- R70, R163, R191: the wheels of a restart stand, and the return is OFF. -/
theorem restartHub (h : KeepsDuty a s) : KeepsDuty a (restartHub s) := by
  have ht := restartHub_eq (s := s) rfl rfl
  rw [restarting_eq] at ht
  generalize Machine.restartHub s = t at ht
  refine ⟨fun ha => ?_, fun ha => ?_⟩
  · have hwheels : t.wg.wheels = { a := WheelRec.reset, b := WheelRec.reset } := by rw [ht]; rfl
    refine .together (.inl rfl) (fun v => ?_) (fun v => ?_) (by rw [ht])
    · rw [hwheels]
      cases v <;> rfl
    · rw [hwheels]
      cases v <;> exact wheelQuiet_reset
  · obtain ⟨hsettle, hconc, hfloor, _, _⟩ := (h.haulage ha).balanced
    have hrc : t.rc = (restartRc s).rc := by rw [ht]
    have hdr : t.dr.fMeas = s.dr.fMeas := by rw [ht]
    refine (returnLegal_iff t).2 ⟨?_, by rw [fallbackNow, hrc, ht]; rfl⟩
    rw [hrc, hdr]
    exact ⟨⟨hsettle, hconc, hfloor, rfl, rfl⟩, rfl, by simp [restartRc, Placed, pumpOn]⟩

theorem handLoss {p : Port} (h : KeepsDuty a s) : KeepsDuty a (handLoss p s) := by
  cases p
  · exact h.haltWheels.same rfl
  · exact h.same (by simp [Machine.handLoss, duty, returnView])
  · exact h.goStale

theorem silence {p : Port} (h : KeepsDuty a s) :
    KeepsDuty a (surveyLoss p (Machine.handLoss p (raisePortLost p (losePort p s)))) := by
  have hlost : KeepsDuty a (raisePortLost p (losePort p s)) := h.same (by simp [duty, returnView])
  exact (handLoss (p := p) hlost).same (by simp [duty, returnView])

theorem powered (ready : Bool) (s : State) (pending : List Instr) (free : Nat) :
    KeepsDuty s { State.powered ready with pending := pending, free := free } := by
  have hw : WheelsLegal (State.powered ready) := by cases ready <;> decide
  have hr : ReturnLegal (State.powered ready) := by cases ready <;> decide
  exact ⟨fun _ => hw, fun _ => hr⟩

/-! ## The commands with more than one branch -/

theorem setDatum (h : KeepsDuty a s) (p : Port) (tag : Byte) (d : List Byte) :
    ∃ t, execSetDatum p tag d s = .next t ∧ KeepsDuty a t := by
  refine ⟨_, rfl, h.receive fun t ht => ?_⟩
  split
  · exact ht.reply
  · exact ht.takeDatum.reply

theorem haltTaken (h : KeepsDuty a s) : KeepsDuty a (haltTaken s) :=
  .ite (fun _ => h.haltWheels.releaseHead) fun _ => h.haltWheels

/-- R65: the wheels are released with none HALTING. -/
theorem releaseHalt (h : KeepsDuty a s) (p : Port) (tag : Byte) (d : List Byte) :
    ∃ t, execReleaseHalt p tag d s = .next t ∧ KeepsDuty a t :=
  ⟨_, rfl, h.receive fun t ht => .ite (fun _ => ht.reply) fun hh =>
    (ht.releaseWheels fun v hv => hh ((someHalting_iff t).2 ⟨v, hv⟩)).reply⟩

theorem runRequest {k : Kind} {p : Port} {tag : Byte} {d : List Byte} {refusal : State → Option Status}
    {effect : State → State} (h : KeepsDuty a s) (he : ∀ t, duty (effect t) = duty t) :
    KeepsDuty a (runRequest k p tag d refusal effect s) := by
  refine h.receive_same fun t => ?_
  (repeat' split)
  · rfl
  · rfl
  · exact he t

theorem handEnd {q : PlateId} {before : PerPlate Plate} (h : KeepsDuty a s) : KeepsDuty a (handEnd q before s) :=
  .ite (fun _ => h.releaseHead) fun _ => h

theorem plateStep {n1 n2 s1 s2 : Int} (h : KeepsDuty a s) : KeepsDuty a (plateStep n1 n2 s1 s2 s) :=
  handEnd (handEnd (handEnd (handEnd (h.same rfl))))

theorem postedHeadApply (h : KeepsDuty a s) (p : Port) :
    ∃ t, execPostedHeadApply p s = .next t ∧ KeepsDuty a t := by
  refine ⟨_, rfl, ?_⟩
  split
  · exact h
  · exact .ite (fun _ => h) fun _ => h.drainList

theorem holdTimerExpiry (h : KeepsDuty a s) (p : Port) :
    ∃ t, execHoldTimerExpiry p s = .next t ∧ KeepsDuty a t := by
  refine ⟨_, rfl, ?_⟩
  split
  · exact drainList (h.same (by simp [recordRefusal, duty, returnView]))
  · exact h

theorem phaseTimerExpiry (h : KeepsDuty a s) : ∃ t, execPhaseTimerExpiry s = .next t ∧ KeepsDuty a t := by
  refine ⟨_, rfl, ?_⟩
  split
  · exact h
  · next r hr =>
    refine .ite (fun _ => ?_) fun _ => h
    split
    · exact h.same (by simp [State.setRecord, enterPhase, duty, hr, returnView])
    · exact h.endRecovered

theorem burstStallTimerExpiry (h : KeepsDuty a s) : ∃ t, execBurstStallTimerExpiry s = .next t ∧ KeepsDuty a t := by
  refine ⟨_, rfl, ?_⟩
  split
  · exact h
  · next r hr => exact .ite (fun _ => h.failBurst (by rw [hr]; rfl)) fun _ => h

/-! ## The return (R155 to R170) -/

theorem takeCeiling {qp : Nat} (h : KeepsDuty a s) : KeepsDuty a (takeCeiling qp s) := by
  refine h.setReturn (fun hs => hs.ceiling qp) ?_ ?_ <;> unfold Machine.takeCeiling ceilingIntoState <;>
    (repeat' split) <;> simp

theorem judgeFlow (h : KeepsDuty a s) : KeepsDuty a (judgeFlow s) := by
  refine h.setReturn (fun hs => hs.flow) ?_ ?_ <;> unfold Machine.judgeFlow <;> (repeat' split) <;> simp

theorem resetReturn (h : KeepsDuty a s) : KeepsDuty a (resetReturn s) := by
  refine h.setReturn (fun hs => hs.reset) ?_ ?_ <;> unfold Machine.resetReturn leaveHold <;> (repeat' split) <;> simp

theorem takeRise {low : Nat} (h : KeepsDuty a s) (hr : s.rc.ready = true) : KeepsDuty a (takeRise low s) := by
  refine h.setReturn (fun hs => hs.rise hr low) ?_ ?_ <;> unfold Machine.takeRise riseInHold leaveHold <;>
    (repeat' split) <;> simp

theorem lineHigh (h : KeepsDuty a s) : KeepsDuty a { s with rc := { s.rc with ready := true } } :=
  h.setReturn (fun hs => hs.lineHigh) rfl rfl

theorem takeFall (h : KeepsDuty a s) : KeepsDuty a (takeFall { s with rc := { s.rc with ready := false } }) := by
  refine h.setReturn (fun hs => hs.fall rfl) ?_ ?_ <;> unfold Machine.takeFall <;> (repeat' split) <;> simp

theorem starve (h : KeepsDuty a s) (hs : s.rc.state = .priming ∨ s.rc.state = .pumping) : KeepsDuty a (starve s) :=
  h.setReturn (fun hl => hl.starve hs) (by simp) (by simp)

/-! ## Every command -/

/-- What a command answers keeps the two invariants. -/
theorem exec (c : Instr) (s : State) : ∃ t, exec c s = .next t ∧ KeepsDuty s t := by
  have h := refl s
  cases c with
  | powerOn ready => exact ⟨_, rfl, powered ready s _ _⟩
  | badFrame => exact ⟨_, rfl, .ite (fun _ => h.same rfl) fun _ => h⟩
  | unknownKind => exact ⟨_, rfl, h.hear.same rfl⟩
  | setScaler | setDepthCheck | loadZone | dropZone | setWheelDemand | setRamp | setFallbackSpeed | clearJam
  | setRecovery | setSteerMode | setTrimManual | setSteerGains | setPlate | clearPlate | setPumpDemand
  | setTransport | setPortTimeout | ackEvents | setEventEnables | setAlertLine | setMarkWidth =>
    exact ⟨_, rfl, h.post⟩
  | queryMeasurements | queryDepth | queryDemand | queryWheels | queryRecovery | querySteering | queryPlates
  | querySurvey | queryStatus | queryEvents => exact ⟨_, rfl, h.receive_same fun _ => rfl⟩
  | queryPort | queryCheck | queryReturn | surveyClaim | surveyRelease | testInject =>
    refine ⟨_, rfl, h.receive_same fun t => ?_⟩
    (repeat' split) <;> rfl
  | queryZone | readNext | reportDensity | surveyWindow =>
    refine ⟨_, rfl, h.receive_same fun t => ?_⟩
    dsimp only
    (repeat' split) <;> rfl
  | reportRopeCount => exact ⟨_, rfl, h.receive fun _ ht => ht.reportCount.reply⟩
  | setDatum p tag d => exact h.setDatum p tag d
  | halt => exact ⟨_, rfl, h.receive fun _ ht => ht.haltTaken.reply⟩
  | releaseHalt p tag d => exact h.releaseHalt p tag d
  | surveyConfig | surveyClear | surveySetPointer => exact ⟨_, rfl, h.runRequest fun _ => rfl⟩
  | surveyStart => exact ⟨_, rfl, h.runRequest fun t => by simp [startSurvey, duty, returnView]⟩
  | surveyStop => exact ⟨_, rfl, h.runRequest duty_stopSurvey⟩
  | surveyCheck => exact ⟨_, rfl, h.runRequest duty_startCheck⟩
  | setPlantCeiling => exact ⟨_, rfl, h.receive fun t ht => ht.takeCeiling.same rfl⟩
  | resetReturn => exact ⟨_, rfl, h.receive fun t ht => .ite (fun _ => ht.reply) fun _ => ht.resetReturn.reply⟩
  | headRestart => exact ⟨_, rfl, h.receive fun _ ht => ht.reply.restartHub⟩
  | postedHeadApply p => exact h.postedHeadApply p
  | holdTimerExpiry p => exact h.holdTimerExpiry p
  | sampleSlot =>
    refine ⟨_, rfl, h.same ?_⟩
    split
    · exact duty_takeInvalid s
    · exact duty_takeInvalid s
    · exact duty_takeInvalid s
    · exact duty_takeValid ..
  | sensorLost => exact ⟨_, rfl, .ite (fun _ => h.same (by simp [loseSensor, duty, returnView])) fun _ => h⟩
  | tachGateEnd => exact ⟨_, rfl, judgeGate (h.same rfl)⟩
  | flowGateEnd => exact ⟨_, rfl, judgeFlow (h.same rfl)⟩
  | governorUpdate => exact ⟨_, rfl, h.governorStep⟩
  | headPressureSample => exact ⟨_, rfl, h.same (by simp [duty, returnView])⟩
  | plateSample => exact ⟨_, rfl, h.plateStep⟩
  | snapshotIntervalExpiry => exact ⟨_, rfl, .ite (fun _ => feedRate (h.same rfl)) fun _ => h.same rfl⟩
  | stallTimerExpiry => exact ⟨_, rfl, .ite (fun _ => h.takeStall) fun _ => h⟩
  | tachFault => exact ⟨_, rfl, .ite (fun hw => h.takeTachFault hw) fun _ => h⟩
  | depthDisagree | disagreeClear =>
    exact ⟨_, rfl, .ite (fun _ => h.same (by simp [duty, returnView])) fun _ => h⟩
  | phaseTimerExpiry => exact h.phaseTimerExpiry
  | burstStallTimerExpiry => exact h.burstStallTimerExpiry
  | settleTimerExpiry | moveTimerExpiry => exact ⟨_, rfl, .ite (fun _ => releaseHead (h.same rfl)) fun _ => h⟩
  | primingTimerExpiry => exact ⟨_, rfl, .ite (fun hs => h.starve (.inl hs)) fun _ => h⟩
  | starvationCountExpiry => exact ⟨_, rfl, .ite (fun hs => h.starve (.inr hs)) fun _ => h⟩
  | plantReadyRise => exact ⟨_, rfl, .ite (fun _ => h) fun _ => h.lineHigh.takeRise rfl⟩
  | plantReadyFall => exact ⟨_, rfl, .ite (fun _ => h.takeFall) fun _ => h⟩
  | silenceTimerExpiry => exact ⟨_, rfl, .ite (fun _ => h.silence) fun _ => h⟩
  | startUpTimerExpiry => exact ⟨_, rfl, .ite (fun _ => h.same rfl) fun _ => h⟩
  | widthTimerExpiry => exact ⟨_, rfl, h.same rfl⟩

end KeepsDuty

/-- A step, of a command or of a millisecond, keeps the two invariants. -/
theorem step_keepsDuty {s t : State} (h : step s = .next t) : KeepsDuty s t := by
  unfold step at h
  split at h
  · cases h; exact (KeepsDuty.refl s).setReturn (fun hs => hs.tick) rfl rfl
  · next c rest _ =>
    have hr : KeepsDuty s { s with pending := rest } := (KeepsDuty.refl s).same rfl
    obtain ⟨u, hu, hk⟩ := KeepsDuty.exec c { s with pending := rest }
    cases hu.symm.trans h
    exact ⟨hk.wheels ∘ hr.wheels, hk.haulage ∘ hr.haulage⟩

/-- Settles O15: a wheel leaves the law it follows only together with its partner, or to stand alone beside one in
STANDBY, and the recovery record is made and cleared with those changes. -/
theorem wheelsLegalKept : Obligations.WheelsLegalKept :=
  fun _ _ hs h => (step_keepsDuty h).wheels hs

/-- Settles O19: each change of an input of the return is followed by what follows from it, and each change of state
(`ReturnLegal.changeReturn`) finds the timers, the line and the ceiling that the new state asks for. -/
theorem returnLegalKept : Obligations.ReturnLegalKept :=
  fun _ _ hs h => (step_keepsDuty h).haulage hs

end Sys2Proof.Machine
end

section
/-! SUPPORT. The changes of return state in closed form, and the requests and events that make them (O35, O50, O59). -/

namespace Sys2Proof.Machine

section
variable {s t : State}

/-! ## A change of return state (R162) -/

/-- R162: the return primes. -/
theorem startPriming_eq (ht : t = startPriming s) :
    t = { s with
      rc := { s.rc with state := .priming, primingTimer := some s.rc.transport.primingTime, starvation := 0
                        pump := s.rc.qEff, feedLimit := feedNow t }
      wg := { s.wg with fallbackFlag := fallbackNow t } } :=
  changeReturn_quiet (.inr rfl) ht

/-- R162: the return waits for the plant. -/
theorem waitForPlant_eq (ht : t = changeReturn .waitingPlant s) :
    t = { s with rc := { s.rc with state := .waitingPlant, pump := 0, feedLimit := feedNow t }
                 wg := { s.wg with fallbackFlag := fallbackNow t } } :=
  changeReturn_quiet (.inl rfl) ht

/-- R163: the return is OFF. -/
theorem returnOff_eq (ht : t = returnOff s) :
    t = { s with
      rc := { s.rc with state := .off, pump := 0, primingTimer := none, starvation := 0, armed := false
                        feedLimit := feedNow t }
      wg := { s.wg with fallbackFlag := fallbackNow t } } := by
  subst ht; rfl

/-- R165, R166: the return starves. -/
theorem starve_eq (ht : t = starve s) :
    t = { s with
      rc := { s.rc with state := .starved, primingTimer := none, starvation := 0, pump := s.rc.qEff
                        feedLimit := feedNow t }
      wg := { s.wg with fallbackFlag := fallbackNow t }, eu := latchAll .starved s.eu } := by
  subst ht; rfl

/-- R168: the return is held. -/
theorem holdReturn_eq (ht : t = changeReturn .plantHold s) :
    t = { s with rc := { s.rc with state := .plantHold, pump := 0, feedLimit := feedNow t }
                 wg := { s.wg with fallbackFlag := fallbackNow t }, eu := latchAll .plantHold s.eu } := by
  subst ht; rfl

/-- R162: the plant is ready with a ceiling above 0. -/
theorem testPlant_ready (h : s.rc.ready = true ∧ 0 < s.rc.qp) : testPlant s = startPriming s :=
  if_pos (by simpa using h)

theorem testPlant_notReady (h : ¬ (s.rc.ready = true ∧ 0 < s.rc.qp)) :
    testPlant s = changeReturn .waitingPlant s :=
  if_neg (by simpa using h)

end

/-! ## RESET_RETURN (R170) -/

/-- R169: the detector disarmed, if the return is held. -/
def disarmed (s : State) : State :=
  { s with rc := { s.rc with armed := if s.rc.state = .plantHold then false else s.rc.armed } }

theorem resetReturn_eq {s : State} (h : s.rc.state = .starved ∨ s.rc.state = .plantHold) :
    resetReturn s = testPlant (disarmed s) := by
  rcases h with h | h
  · rw [resetReturn, h, disarmed, h, if_neg (by decide)]
  · rw [resetReturn, h, disarmed, h, if_pos rfl]
    rfl

theorem resetReturn_still {s : State} (h : s.rc.state ≠ .starved) (h' : s.rc.state ≠ .plantHold) :
    resetReturn s = s := by
  unfold resetReturn
  split
  · contradiction
  · contradiction
  all_goals rfl

/-- Settles O50: a reset tests the plant, out of the hold with the detector disarmed. -/
theorem returnReset : Obligations.ReturnReset := by
  intro p tag s h hp hr hh
  have hrc : h.rc = { s.rc with feedLimit := h.rc.feedLimit } := hh ▸ hear_rc p s
  have hwg : h.wg = s.wg := by simp [hh]
  have hexec : exec (.resetReturn p tag []) s = .next
      (if resetRefused h.rc then reply .resetReturn p tag .wrongState (returnBytes h) h
       else reply .resetReturn p tag .done (returnBytes (resetReturn h)) (resetReturn h)) := by
    have hperm : permitted .resetReturn p = true := by rcases hp with rfl | rfl <;> rfl
    rw [hh]
    exact congrArg _ (receive_ready hperm rfl hr _)
  have hstate : h.rc.state = s.rc.state := by rw [hrc]
  have hready : h.rc.ready = s.rc.ready := by rw [hrc]
  have hqp : h.rc.qp = s.rc.qp := by rw [hrc]
  rw [hexec]
  refine ⟨fun hhold hlow => ?_, fun hns hnh => ?_, fun hout => ?_⟩
  · have hrefused : resetRefused h.rc = true := by simp [resetRefused, hstate, hready, hhold, hlow]
    rw [if_pos hrefused, returnBytes, hstate, hhold, hh]
    rfl
  · have htaken : resetRefused h.rc = false := by simp [resetRefused, hstate, hnh]
    rw [htaken, resetReturn_still (by rwa [hstate]) (by rwa [hstate]), returnBytes, hstate, hh]
    rfl
  · have hreset : resetReturn h = testPlant (disarmed h) :=
      resetReturn_eq (by rw [hstate]; exact hout.imp_right And.left)
    have hplantOf : (disarmed h).rc.ready = s.rc.ready ∧ (disarmed h).rc.qp = s.rc.qp := ⟨hready, hqp⟩
    have htaken : resetRefused h.rc = false := by
      rw [resetRefused, hstate, hready]
      rcases hout with hs | ⟨hs, hl⟩
      · simp [hs]
      · simp [hl]
    have hreply {st : ReturnState} (hst : (resetReturn h).rc.state = st) :
        (if resetRefused h.rc then reply .resetReturn p tag .wrongState (returnBytes h) h
         else reply .resetReturn p tag .done (returnBytes (resetReturn h)) (resetReturn h)) =
          reply .resetReturn p tag .done (name (returnStateCode st)) (resetReturn h) := by
      rw [htaken, ← hst]
      rfl
    by_cases hplant : s.rc.ready = true ∧ 0 < s.rc.qp
    · have ht := startPriming_eq (hreset.trans (testPlant_ready (by rwa [hplantOf.1, hplantOf.2])))
      rw [if_pos hplant, hreply (st := .priming) (by rw [ht])]
      rw [disarmed, hrc, hwg] at ht
      exact ⟨_, rfl, fun _ => ht, fun hn => absurd hplant hn⟩
    · have ht := waitForPlant_eq (hreset.trans (testPlant_notReady (by rwa [hplantOf.1, hplantOf.2])))
      rw [if_neg hplant, hreply (st := .waitingPlant) (by rw [ht])]
      rw [disarmed, hrc, hwg] at ht
      exact ⟨_, rfl, fun hy => absurd hy hplant, fun _ => ht⟩

/-! ## The events of the return (R164 to R169) -/

section
variable {s t : State}

/-- R168: the line goes low in a state with the pump on. -/
theorem takeFall_holds (h : s.rc.state = .priming ∨ s.rc.state = .pumping ∨ s.rc.state = .starved) :
    takeFall s = changeReturn .plantHold
      { s with rc := { s.rc with primingTimer := none, starvation := 0, armed := true, lowFor := 0 } } := by
  rcases h with h | h | h <;> rw [takeFall, h]

theorem takeFall_held (h : s.rc.state = .plantHold) : takeFall s = { s with rc := { s.rc with lowFor := 0 } } := by
  rw [takeFall, h]

theorem takeFall_still (h : s.rc.state = .off ∨ s.rc.state = .waitingPlant) : takeFall s = s := by
  rcases h with h | h <;> rw [takeFall, h]

/-- R164: a return that waits starts. -/
theorem takeRise_starts {low : Nat} (h : s.rc.state = .waitingPlant) (h0 : 0 < s.rc.qp) :
    takeRise low s = startPriming s := by
  rw [takeRise, h]
  exact if_pos h0

/-- R169: the line has been low long enough. -/
theorem takeRise_leaves {low : Nat} (h : s.rc.state = .plantHold) (hl : 2000 ≤ s.rc.lowFor + low) :
    takeRise low s = testPlant (disarmed s) := by
  rw [takeRise, h, disarmed, if_pos h]
  exact if_pos hl

theorem takeRise_still {low : Nat} (h : (s.rc.state ≠ .waitingPlant ∧ s.rc.state ≠ .plantHold) ∨
    (s.rc.state = .waitingPlant ∧ s.rc.qp = 0) ∨ (s.rc.state = .plantHold ∧ s.rc.lowFor + low < 2000)) :
    takeRise low s = s := by
  rcases h with ⟨hw, hh⟩ | ⟨hs, h0⟩ | ⟨hs, hl⟩
  · unfold takeRise
    split
    · contradiction
    · contradiction
    all_goals rfl
  · rw [takeRise, hs]
    exact if_neg (by omega)
  · rw [takeRise, hs]
    exact if_neg (by omega)

end

/-- Settles O59: the four events out of place are the `if` of their commands; in place each is one change of return
state. -/
theorem returnEvents : Obligations.ReturnEvents := by
  refine ⟨fun s => ⟨fun hs => ?_, fun hs => ?_, fun hs => ?_⟩, fun s => ⟨fun hl => ?_, fun hr => ?_⟩,
    fun low s => ⟨fun hr => ?_, fun hl => ?_⟩⟩
  · exact congrArg _ (if_neg hs)
  · exact congrArg _ (if_neg hs)
  · refine ⟨starve s, ?_, starve_eq rfl⟩
    rcases hs with hs | hs
    · rw [if_pos hs]
      exact congrArg _ (if_pos hs)
    · rw [if_neg (by rw [hs]; decide)]
      exact congrArg _ (if_pos hs)
  · exact congrArg _ (if_neg (by simp [hl]))
  · refine ⟨takeFall { s with rc := { s.rc with ready := false } }, congrArg Host.Outcome.next (if_pos hr),
      fun hs => holdReturn_eq (takeFall_holds ?_), fun hs => takeFall_held ?_, fun hs => takeFall_still ?_⟩ <;> exact hs
  · exact congrArg _ (if_pos hr)
  · have hraised : exec (.plantReadyRise low) s = .next (takeRise low { s with rc := { s.rc with ready := true } }) :=
      congrArg Host.Outcome.next (if_neg (by simp [hl]))
    have hleaves (hs : s.rc.state = .plantHold) (hlow : 2000 ≤ s.rc.lowFor + low) :
        takeRise low { s with rc := { s.rc with ready := true } } =
          testPlant (disarmed { s with rc := { s.rc with ready := true } }) :=
      takeRise_leaves (s := { s with rc := { s.rc with ready := true } }) hs hlow
    refine ⟨_, hraised, fun hs h0 => ?_, fun hs hlow h0 => ?_, fun hs => ?_⟩
    · rcases hs with hs | ⟨hs, hlow⟩
      · rw [if_neg (by rw [hs]; decide)]
        exact startPriming_eq (takeRise_starts (s := { s with rc := { s.rc with ready := true } }) hs h0)
      · exact startPriming_eq ((hleaves hs hlow).trans (testPlant_ready ⟨rfl, h0⟩))
    · have ht := waitForPlant_eq ((hleaves hs hlow).trans (testPlant_notReady fun hy => hy.2.ne' h0))
      rw [disarmed, if_pos hs] at ht
      exact ht
    · exact takeRise_still (s := { s with rc := { s.rc with ready := true } }) hs

/-! ## SET_PUMP_DEMAND (R155, R163) -/

/-- R155, R160 to R163: a new demand, whole. -/
theorem demandTaken_eq {qc : Nat} {s t : State} (hne : qc ≠ s.rc.qc) (ht : applySetPumpDemand qc s = .ok t) :
    t = { s with
      rc := { s.rc with
        qc := qc, qEff := if qc = 0 then 0 else min (max qc s.rc.qFloor) s.rc.qp
        short := decide (0 < qc) && decide (s.rc.qp < s.rc.qFloor)
        state := if qc = 0 then .off else if s.rc.state ≠ .off then s.rc.state
                 else if s.rc.ready = true ∧ 0 < s.rc.qp then .priming else .waitingPlant
        pump := if t.rc.state = .priming ∨ t.rc.state = .pumping ∨ t.rc.state = .starved then t.rc.qEff else 0
        primingTimer := if s.rc.state = .off ∧ t.rc.state = .priming then some s.rc.transport.primingTime
                        else if s.rc.state ≠ .off ∧ qc = 0 then none else s.rc.primingTimer
        starvation := if (s.rc.state = .off ∧ t.rc.state = .priming) ∨ (s.rc.state ≠ .off ∧ qc = 0) then 0
                      else s.rc.starvation
        armed := if s.rc.state ≠ .off ∧ qc = 0 then false else s.rc.armed
        feedLimit := if t.rc.state = s.rc.state then s.rc.feedLimit else feedNow t }
      wg := { s.wg with fallbackFlag := if t.rc.state = s.rc.state then s.wg.fallbackFlag else fallbackNow t }
      eu := if t.rc.short && !s.rc.short then latchAll .transportShort s.eu else s.eu } := by
  rw [applySetPumpDemand_eq, if_neg hne] at ht
  have ht := (Except.ok.inj ht).symm
  have hy := demanded_eq qc s
  generalize demanded qc s = y at ht hy
  have hyrc := congrArg State.rc hy
  have hready : y.rc.ready = s.rc.ready := by rw [hyrc]
  have hqp : y.rc.qp = s.rc.qp := by rw [hyrc]
  simp only [← effectiveDemand_eq, ← pumpOn_iff]
  have hstate : y.rc.state = s.rc.state := by rw [hyrc]
  have hq : y.rc.qEff = effectiveDemand qc s.rc.qFloor s.rc.qp := by rw [hyrc]
  have hsh : y.rc.short = (decide (0 < qc) && decide (s.rc.qp < s.rc.qFloor)) := by rw [hyrc]
  by_cases hs : s.rc.state = .off
  · rw [if_pos hs] at ht
    rcases eq_or_ne qc 0 with rfl | h0
    · rw [if_pos rfl] at ht
      rw [ht, hstate, hsh, hs]
      simpa [hs, pumpOn] using hy
    · rw [if_neg h0] at ht
      by_cases hplant : s.rc.ready = true ∧ 0 < s.rc.qp
      · have h1 := startPriming_eq (ht.trans (testPlant_ready (by rwa [hready, hqp])))
        have htrc := congrArg State.rc h1
        have hst : t.rc.state = .priming := by rw [htrc]
        have htsh : t.rc.short = y.rc.short := by rw [htrc]
        have htq : t.rc.qEff = y.rc.qEff := by rw [htrc]
        rw [hst, htsh, hsh, htq, hq, hs, if_neg h0, if_pos hplant]
        conv_lhs => rw [h1, hy]
        rfl
      · have h1 := waitForPlant_eq (ht.trans (testPlant_notReady (by rwa [hready, hqp])))
        have htrc := congrArg State.rc h1
        have hst : t.rc.state = .waitingPlant := by rw [htrc]
        have htsh : t.rc.short = y.rc.short := by rw [htrc]
        rw [hst, htsh, hsh, hs, if_neg h0, if_neg hplant]
        conv_lhs => rw [h1, hy]
        rfl
  · rw [if_neg hs] at ht
    rcases eq_or_ne qc 0 with rfl | h0
    · rw [if_pos rfl] at ht
      have h1 := returnOff_eq ht
      have htrc := congrArg State.rc h1
      have hst : t.rc.state = .off := by rw [htrc]
      have htsh : t.rc.short = y.rc.short := by rw [htrc]
      rw [hst, htsh, hsh, if_neg (Ne.symm hs), if_neg (Ne.symm hs)]
      simp only [hs, false_and, ne_eq, not_false_eq_true, and_self, or_true, if_true, if_false]
      conv_lhs => rw [h1, hy]
      rfl
    · rw [if_neg h0] at ht
      rw [ht]
      simp only [hstate, hs, h0, hsh, hq, if_true, if_false, ne_eq, not_false_eq_true, false_and, or_self, and_false]
      exact hy

/-- R183: the answer to a setpoint that is clamped. -/
theorem status_clamped {ok : Prop} [Decidable ok] {c : Bool} (h : c = true ↔ ¬ ok) :
    (if ok then Status.taken else .takenClamped) = if c then .takenClamped else .taken := by
  by_cases hok : ok
  · rw [if_pos hok, if_neg (by rw [h]; exact not_not.2 hok)]
  · rw [if_neg hok, if_pos (h.2 hok)]

/-- Settles O35: the demand as clamped is what `demandTaken_eq` makes of it on the state that has answered. -/
theorem pumpDemandTaken : Obligations.PumpDemandTaken := by
  intro tag d s a qc hq hl hqc ha
  have hrc : a.rc = { s.rc with feedLimit := a.rc.feedLimit } := ha ▸ hear_rc .cabin s
  have hkeep : a.wg = s.wg ∧ a.eu = s.eu := by simp [ha]
  have hold : a.rc.qc = s.rc.qc := by rw [hrc]
  have hc : decide (qc ≠ natAt d 0) = true ↔ ¬ natAt d 0 ≤ 7000 := by
    rw [decide_eq_true_iff]
    omega
  rw [status_clamped hc] at ha
  have hmake : postPumpDemand d = (.setPumpDemand qc, decide (qc ≠ natAt d 0)) := by rw [hqc]; rfl
  have hposted {t : State} (ht : applySetPumpDemand qc a = .ok t) (hport : t.port .cabin = a.port .cabin) :
      exec (.setPumpDemand .cabin tag d) s = .next t :=
    congrArg _ (post_taken (r := .setPumpDemand qc) hq rfl hl hmake ha rfl ht hport)
  refine ⟨fun he => hposted (if_pos (he.trans hold.symm)) rfl, fun hne => ?_⟩
  obtain ⟨t, hok⟩ : ∃ t, applySetPumpDemand qc a = .ok t := ⟨_, applySetPumpDemand_eq qc a⟩
  have ht := demandTaken_eq (by rwa [hold]) hok
  refine ⟨t, hposted hok (by rw [ht]; rfl), ?_⟩
  rw [hrc, hkeep.1, hkeep.2] at ht
  exact ht

end Sys2Proof.Machine
end

section
/-! SUPPORT. The setpoints of the wheels, taken or held at the head of the cabin's queue (O31, O32). -/

namespace Sys2Proof.Machine

/-! ## A posted request that is held (R186) -/

/-- R186: at a clear queue a request that is held becomes the head, its hold timer at 10,000 ms. -/
theorem post_held {k : Kind} {p : Port} {tag : Byte} {d : List Byte} {make : State → Posted × Bool} {r : Posted}
    {c : Bool} {s a : State} (hq : QueueClear p s) (hp : permitted k p = true) (hl : d.length = payloadLength k)
    (hm : make (hear p s) = (r, c)) (ha : a = answered k p tag (if c then .takenClamped else .taken) [] s)
    (hn : held r a = true) :
    post k p tag d make s =
      a.setPort p { a.port p with queue := [{ request := r, tag := tag }], hold := some 10000 } := by
  rw [post_clear hq hp hl, hm, ← ha]
  exact if_pos hn

/-- R186: a recovery holds the heads that its end releases. -/
theorem held_of_recovery {r : Posted} (h : heldForRecovery r = true) (s : State) :
    held r s = s.sru.record.isSome := by
  cases r
  case setWheelDemand | setRamp | setRecovery => rfl
  all_goals cases h

/-! ## The setpoints as clamped (R49, R50, R99) -/

section
variable {d : List Byte}

theorem postWheelDemand_eq {x : Int} {v : Nat} (hx : x = int16At d 0) (hv : (v : Int) = max 0 (min x 350)) :
    postWheelDemand d = (.setWheelDemand v, decide ((v : Int) ≠ x)) := by
  have hclamp : clampNat (int16At d 0) 350 = v := by
    rw [clampNat_eq]
    omega
  rw [postWheelDemand, hclamp, hx]

theorem postRamp_eq {x v : Nat} (hx : x = natAt d 0) (hv : v = max 5 (min x 100)) :
    postRamp d = (.setRamp v, decide (v ≠ x)) := by
  subst hv hx
  rfl

theorem postPlate_eq {x : Nat} (hx : x = natAt d 1) :
    postPlate d = (.setPlate (byteAt d 0).toNat (min x 100), decide (min x 100 ≠ x)) := by
  subst hx
  rfl

end

theorem demand_clamped {x : Int} {v : Nat} (hv : (v : Int) = max 0 (min x 350)) :
    decide ((v : Int) ≠ x) = true ↔ ¬ (0 ≤ x ∧ x ≤ 350) := by
  rw [decide_eq_true_iff]
  omega

theorem ramp_clamped {x v : Nat} (hv : v = max 5 (min x 100)) : decide (v ≠ x) = true ↔ ¬ (5 ≤ x ∧ x ≤ 100) := by
  rw [decide_eq_true_iff]
  omega

section
variable {tag : Byte} {d : List Byte} {s a : State}

/-- R49: with no recovery the demand as clamped goes to WG. -/
theorem exec_setWheelDemand {x : Int} {v : Nat} (hq : QueueClear .cabin s) (hr : s.sru.record = none)
    (hl : d.length = 2) (hx : x = int16At d 0) (hv : (v : Int) = max 0 (min x 350))
    (ha : a = answered .setWheelDemand .cabin tag (if 0 ≤ x ∧ x ≤ 350 then .taken else .takenClamped) [] s) :
    exec (.setWheelDemand .cabin tag d) s = .next { a with wg := { s.wg with demand := v } } := by
  have hkeep : a.wg = s.wg ∧ a.sru = s.sru := by simp [ha]
  have hn : held (.setWheelDemand v) a = false := by simp [held, hkeep, hr]
  rw [status_clamped (demand_clamped hv)] at ha
  rw [← hkeep.1]
  exact congrArg Host.Outcome.next (post_taken hq rfl hl (postWheelDemand_eq hx hv) ha hn rfl rfl)

/-- R50. -/
theorem exec_setRamp {x v : Nat} (hq : QueueClear .cabin s) (hr : s.sru.record = none) (hl : d.length = 4)
    (hx : x = natAt d 0) (hv : v = max 5 (min x 100))
    (ha : a = answered .setRamp .cabin tag (if 5 ≤ x ∧ x ≤ 100 then .taken else .takenClamped) [] s) :
    exec (.setRamp .cabin tag d) s = .next { a with wg := { s.wg with ramp := v } } := by
  have hkeep : a.wg = s.wg ∧ a.sru = s.sru := by simp [ha]
  have hn : held (.setRamp v) a = false := by simp [held, hkeep, hr]
  rw [status_clamped (ramp_clamped hv)] at ha
  rw [← hkeep.1]
  exact congrArg Host.Outcome.next (post_taken hq rfl hl (postRamp_eq hx hv) ha hn rfl rfl)

end

/-- Settles O31: without a recovery neither head is held, and WG takes the setpoint as clamped. -/
theorem wheelSettings : Obligations.WheelSettings := by
  intro tag d s hq hr
  refine ⟨fun hl => ?_, fun hl => ?_⟩
  · obtain ⟨v, hv⟩ : ∃ v : Nat, (v : Int) = max 0 (min (int16At d 0) 350) :=
      ⟨_, Int.toNat_of_nonneg (le_max_left ..)⟩
    refine ⟨_, exec_setWheelDemand hq hr hl rfl hv rfl, ?_⟩
    rintro _ rfl
    dsimp only
    exact ⟨by omega, by omega, by omega, rfl⟩
  · refine ⟨_, exec_setRamp hq hr hl rfl rfl rfl, ?_⟩
    rintro _ rfl
    dsimp only
    exact ⟨by omega, by omega, by omega, rfl⟩

/-- Settles O32: a recovery holds the three heads of the wheels, and a moving plate its own. -/
theorem heldHeads : Obligations.HeldHeads := by
  intro tag d s hq
  have hheld {k : Kind} {st : Status} {a : State} {r : Posted} (hr : heldForRecovery r = true)
      (hs : s.sru.record.isSome = true) (ha : a = answered k .cabin tag st [] s) : held r a = true := by
    rw [held_of_recovery hr]
    simpa [ha] using hs
  refine ⟨fun hs hl x v a hx hv ha => ?_, fun hs hl x v a hx hv ha => ?_, fun hs hl k a ha hk => ?_,
    fun q x a hq' hmoving hl hx ha => ?_⟩
  · rw [status_clamped (demand_clamped hv)] at ha
    exact congrArg _ (post_held hq rfl hl (postWheelDemand_eq hx hv) ha (hheld rfl hs ha))
  · rw [status_clamped (ramp_clamped hv)] at ha
    exact congrArg _ (post_held hq rfl hl (postRamp_eq hx hv) ha (hheld rfl hs ha))
  · subst hk
    exact congrArg _ (post_held (r := .setRecovery (recoveryAt d)) (c := false) hq rfl hl rfl ha (hheld rfl hs ha))
  · have hc : decide (min x 100 ≠ x) = true ↔ ¬ x ≤ 100 := by
      rw [decide_eq_true_iff]
      omega
    rw [status_clamped hc] at ha
    refine congrArg _ (post_held hq rfl hl (postPlate_eq hx) ha ?_)
    have hpsv : a.psv = s.psv := by simp [ha]
    simp [held, hq', hpsv, hmoving]

end Sys2Proof.Machine
end

section
/-! SUPPORT. CLEAR_JAM, HALT and RELEASE_HALT (O39, O43), and what the clearing of the recovery record leaves to SU and
SLU. -/

namespace Sys2Proof.Machine

/-! ## CLEAR_JAM (R62, R83) -/

/-- R57: a wheel that enters the normal law. -/
theorem enterNormal_eq {g : Wg} {w : Wheel} {target : Int} (ht : target = normalTarget w g.ceiling g.sEff g.trim) :
    enterNormal g w =
      { state := if target = 0 ∧ (g.wheels.get w).acc.natAbs < 10 then .stopped else .running, target := target
        acc := (g.wheels.get w).acc, torqueHold := false, stallTimer := none, zeroGates := 0 } := by
  have hst : (if target ≠ 0 ∨ (g.wheels.get w).present ≠ 0 then WheelState.running else .stopped) =
      if target = 0 ∧ (g.wheels.get w).acc.natAbs < 10 then .stopped else .running := by
    have hrest := present_eq_zero (w := g.wheels.get w)
    by_cases h : target = 0 ∧ (g.wheels.get w).acc.natAbs < 10
    · rw [if_pos h, if_neg (by tauto)]
    · rw [if_neg h, if_pos (by tauto)]
  rw [← hst, ht]
  rfl

theorem jammedOrFault_iff (v : WheelRec) : jammedOrFault v = true ↔ v.state = .jammed ∨ v.state = .tachFault := by
  simp [jammedOrFault]

theorem unjam_iff {g : Wg} {w : Wheel} :
    (jammedOrFault (g.wheels.get w) || decide ((g.wheels.get w).state = .standby)) = true ↔
      (g.wheels.get w).state = .jammed ∨ (g.wheels.get w).state = .tachFault ∨ (g.wheels.get w).state = .standby := by
  rw [Bool.or_eq_true, jammedOrFault_iff, decide_eq_true_iff, or_assoc]

theorem clearJamTaken_wheel (s : State) (w : Wheel) : (clearJamTaken s).wg.wheels.get w = unjam s.wg w := by
  cases w <;> simp [clearJamTaken, PerWheel.get]

/-- What CLEAR_JAM leaves: the wheels change, and the feed limit follows. -/
theorem clearJamTaken_eq {s t : State} (ht : t = clearJamTaken s) :
    t = { s with wg := { s.wg with wheels := t.wg.wheels }, rc := { s.rc with feedLimit := t.rc.feedLimit } } := by
  rw [clearJamTaken, handWheels_feed] at ht
  subst ht
  rfl

theorem someJammed_iff (s : State) : (jammedOrFault s.wg.wheels.a || jammedOrFault s.wg.wheels.b) = true ↔
    ∃ w, (s.wg.wheels.get w).state = .jammed ∨ (s.wg.wheels.get w).state = .tachFault := by
  rw [Bool.or_eq_true, jammedOrFault_iff, jammedOrFault_iff]
  refine ⟨fun h => h.elim (fun h => ⟨.a, h⟩) fun h => ⟨.b, h⟩, fun ⟨w, h⟩ => ?_⟩
  cases w
  · exact .inl h
  · exact .inr h

/-- Settles O39: with a wheel JAMMED or in fault, `clearJamTaken` on the state that has answered. -/
theorem jamCleared : Obligations.JamCleared := by
  intro tag s a hq ha
  have hwg : a.wg = s.wg := by simp [ha]
  refine ⟨fun hjam => ?_, fun hno => ?_⟩
  · obtain ⟨t, ht⟩ : ∃ t, t = clearJamTaken a := ⟨_, rfl⟩
    have heq := clearJamTaken_eq ht
    have hok : applyPosted .cabin .clearJam a = .ok t := by
      rw [ht]
      exact if_pos ((someJammed_iff a).2 (hwg ▸ hjam))
    refine ⟨t, congrArg Host.Outcome.next (post_taken (c := false) hq rfl rfl rfl ha rfl hok (by rw [heq]; rfl)),
      by rw [← hwg]; exact heq, fun hf => ?_, fun w v hv => ⟨fun hs target htarget => ?_, fun hs => ?_⟩⟩
    · have hfed : FeedPublished a := ha ▸ feedPublished_answered hf ..
      have hpub : FeedPublished (clearJamTaken a) := feedPublished_handWheels hfed rfl rfl rfl
      rw [ht]
      exact (feedPublished_iff.1 hpub).2
    · rw [hv, ← hwg] at hs
      rw [hv, ht, clearJamTaken_wheel, ← hwg, unjam, if_pos (unjam_iff.2 hs)]
      exact enterNormal_eq (by rw [hwg]; exact htarget)
    · rw [hv, ← hwg] at hs
      rw [hv, ht, clearJamTaken_wheel, ← hwg, unjam, if_neg (mt unjam_iff.1 hs)]
  · refine congrArg _ (post_refused (r := .clearJam) (c := false) hq rfl rfl rfl ha rfl ?_)
    refine if_neg (mt (someJammed_iff a).1 ?_)
    rintro ⟨w, hw⟩
    rw [hwg] at hw
    exact hw.elim (hno w).1 (hno w).2

/-! ## A change of the recovery record, judged by SU (R130) and SLU (R89) -/

/-- R89, R130: what `u` holds of SU, SLU and the plates is what a change of the record makes of those of `s`. -/
def RecordJudged (s u : State) : Prop :=
  (∀ y, y = { u with su := s.su } → u.su = judgedSu (judgedRun y) y) ∧ u.slu = steeredSlu { u with slu := s.slu } ∧
  u.psv = handedPlates s.slu.commands u.slu.commands s.psv

section
variable {s t u z : State}

theorem steeredSlu_record (hd : t.dr = s.dr) (hm : t.mfe = s.mfe) (hr : t.sru.record = s.sru.record)
    (hl : t.slu = s.slu) : steeredSlu t = steeredSlu s := by
  have hmode : modeNow t = modeNow s := by rw [modeNow, modeNow, hd, hm, hr, hl]
  rw [steeredSlu, steeredSlu, hmode, hl]

theorem judgedSu_record (hd : t.dr = s.dr) (hm : t.mfe = s.mfe) (hr : t.sru.record = s.sru.record)
    (hu : t.su = s.su) : judgedSu (judgedRun t) t = judgedSu (judgedRun s) s := by
  rw [judgedSu, judgedRun, accumulateOk, hd, hm, hr, hu]
  rfl

theorem RecordJudged.congr (h : RecordJudged s u) (hd : t.dr = u.dr) (hm : t.mfe = u.mfe)
    (hr : t.sru.record = u.sru.record) (hu : t.su = u.su) (hl : t.slu = u.slu) (hp : t.psv = u.psv) :
    RecordJudged s t := by
  obtain ⟨hsu, hslu, hpsv⟩ := h
  refine ⟨?_, ?_, by rw [hp, hl, hpsv]⟩
  · rintro y rfl
    rw [hu, hsu _ rfl]
    exact (judgedSu_record (s := { u with su := s.su }) (t := { t with su := s.su }) hd hm hr rfl).symm
  · rw [hl, hslu]
    exact (steeredSlu_record (s := { u with slu := s.slu }) (t := { t with slu := s.slu }) hd hm hr rfl).symm

/-- The state judged, whole. -/
theorem rejudged_eq (z : State) :
    reevaluate (judgeRecovery z) = steered { z with su := judgedSu (judgedRun z) z } := by
  rw [reevaluate_eq, judgeRecovery_eq]

theorem recordJudged_rejudged (hu : z.su = s.su) (hl : z.slu = s.slu) (hp : z.psv = s.psv) :
    RecordJudged s (reevaluate (judgeRecovery z)) := by
  rw [rejudged_eq]
  refine ⟨?_, ?_, ?_⟩
  · rintro y rfl
    exact judgedSu_record rfl rfl rfl hu
  · exact steeredSlu_record rfl rfl rfl hl
  · rw [← hl, ← hp]
    rfl

/-- R74, R84: the record cleared. -/
theorem clearRecord_judged (hu : z.su = s.su) (hl : z.slu = s.slu) (hp : z.psv = s.psv) :
    (clearRecord z).sru = { z.sru with record := none } ∧ RecordJudged s (clearRecord z) := by
  refine ⟨?_, recordJudged_rejudged hu hl hp⟩
  rw [clearRecord, rejudged_eq]
  rfl

/-! ## HALT (R63, R64, R84) -/

theorem abortRecovery_none (h : s.sru.record = none) : abortRecovery s = s := by
  rw [abortRecovery, h]

/-- R84: a recovery aborted. -/
theorem abortRecovery_some {r : Recovery} (h : s.sru.record = some r) (hu : s.su = t.su) (hl : s.slu = t.slu)
    (hp : s.psv = t.psv) :
    (abortRecovery s).sru = { s.sru with record := none, lastEnd := .aborted, lastWheel := r.wheel
                                         lastBurst := r.burst } ∧ RecordJudged t (abortRecovery s) := by
  have ha : abortRecovery s = setOutcome .aborted r (clearRecord s) := by rw [abortRecovery, h]
  obtain ⟨hsru, hj⟩ := clearRecord_judged hu hl hp
  rw [ha]
  refine ⟨?_, hj.congr rfl rfl rfl rfl rfl rfl⟩
  rw [setOutcome, hsru]

/-- R63: the wheels once a recovery has been aborted. -/
def halted (s : State) : State :=
  { abortRecovery s with wg := { (abortRecovery s).wg with
      wheels := { a := haltWheel (abortRecovery s).wg.wheels.a, b := haltWheel (abortRecovery s).wg.wheels.b } } }

theorem haltWheels_eq (s : State) :
    haltWheels s = { halted s with
      rc := { s.rc with feedLimit := (haltWheels s).rc.feedLimit }
      eu := (raiseHalted s.wg.wheels (halted s)).eu } := by
  have h : haltWheels s = handWheels s.wg.wheels (raiseHalted s.wg.wheels (halted s)) := rfl
  have hrc : (halted s).rc = s.rc := by simp [halted]
  rw [h, handWheels_feed, raiseHalted_eu]
  simp only [hrc]

theorem halted_wheel (w : Wheel) : (halted s).wg.wheels.get w = haltWheel (s.wg.wheels.get w) := by
  cases w <;> simp [halted, PerWheel.get]

/-- A state that keeps all but the blocks that a halt reaches. -/
theorem haltWheels_frame {u : State} (hu : u = haltWheels s) :
    u = { s with wg := { s.wg with wheels := u.wg.wheels }, sru := u.sru, su := u.su, slu := u.slu, psv := u.psv
                 rc := { s.rc with feedLimit := u.rc.feedLimit }, eu := u.eu } := by
  have hrc : u.rc = { s.rc with feedLimit := u.rc.feedLimit } := hu ▸ haltWheels_rc s
  have hwg : u.wg = { s.wg with wheels := u.wg.wheels } := by
    rw [hu, haltWheels_eq]
    simp [halted]
  obtain ⟨hmfe, hdr, hzt, hpi, hpending, hfree⟩ := haltWheels_keeps s
  rw [← hu] at hmfe hdr hzt hpi hpending hfree
  rw [← hrc, ← hwg, ← hmfe, ← hdr, ← hzt, ← hpi, ← hpending, ← hfree]

/-- R63: HALTED is raised for a wheel that is at rest at once. -/
theorem haltWheels_eu : (haltWheels s).eu = (raiseHalted s.wg.wheels (halted s)).eu := by
  rw [haltWheels_eq]

/-- R171. -/
theorem feedPublished_haltWheels (h : FeedPublished s) : FeedPublished (haltWheels s) := by
  refine feedPublished_handWheels h ?_ ?_ ?_ <;> simp

end

/-! ## RELEASE_HALT (R65) -/

theorem releaseWheels_wheel (s : State) (w : Wheel) :
    (releaseWheels s).wg.wheels.get w = releaseWheel (s.wg.wheels.get w) := by
  cases w <;> simp [releaseWheels, PerWheel.get]

theorem releaseWheels_eq {s t : State} (ht : t = releaseWheels s) :
    t = { s with wg := { s.wg with wheels := t.wg.wheels }, rc := { s.rc with feedLimit := t.rc.feedLimit } } := by
  rw [releaseWheels, handWheels_feed] at ht
  subst ht
  rfl

theorem exec_halt {tag : Byte} {s h : State} (hr : s.pi.hub = .ready) (hh : h = hear .cabin s) :
    exec (.halt .cabin tag []) s = .next (reply .halt .cabin tag .done [] (haltTaken h)) := by
  rw [hh]
  exact congrArg _ (receive_ready rfl rfl hr _)

theorem exec_releaseHalt {tag : Byte} {s h : State} (hr : s.pi.hub = .ready) (hh : h = hear .cabin s) :
    exec (.releaseHalt .cabin tag []) s = .next
      (if someHalting h then reply .releaseHalt .cabin tag .wrongState [] h
       else reply .releaseHalt .cabin tag .done [] (releaseWheels h)) := by
  rw [hh]
  exact congrArg _ (receive_ready rfl rfl hr _)

/-- Settles O43: the halt is `haltWheels` on the state that has heard the frame, its record cleared by
`abortRecovery_some`. (`haltTaken` is a function of the model.) -/
theorem haltTaken_holds : Obligations.HaltTaken := by
  intro tag s h hr hh
  have hrc : h.rc = { s.rc with feedLimit := h.rc.feedLimit } := hh ▸ hear_rc .cabin s
  obtain ⟨_, _, hwg, hsru, hslu, hpsv, hsu, heu, _⟩ := hear_keeps .cabin s
  rw [← hh] at hwg hsru hslu hpsv hsu heu
  have heuHalted : (halted h).eu = s.eu := by simp [halted, heu]
  refine ⟨?_, ?_, ?_⟩
  · obtain ⟨u, hu⟩ : ∃ u, u = haltWheels h := ⟨_, rfl⟩
    have hframe := haltWheels_frame hu
    rw [hrc, hwg] at hframe
    refine ⟨u, ?_, hframe, fun w v hv => ?_, fun hn => ?_, fun r hrec => ?_, fun hf => ?_, fun hx => ?_, fun hx => ?_⟩
    · rw [exec_halt hr hh, haltTaken, ← hu, hsru]
    · rw [hu, haltWheels_wheels, hwg, hv, haltWheel_eq]
    · rw [hu, haltWheels_eq]
      simp only [halted, abortRecovery_none (hsru ▸ hn : h.sru.record = none)]
      exact ⟨hsru, hsu, hslu, hpsv⟩
    · obtain ⟨hout, hj⟩ := abortRecovery_some (hsru ▸ hrec : h.sru.record = some r) hsu hslu hpsv
      have hkeep : u.sru = (abortRecovery h).sru ∧ RecordJudged s u := by
        rw [hu, haltWheels_eq]
        exact ⟨rfl, hj.congr rfl rfl rfl rfl rfl rfl⟩
      exact ⟨by rw [hkeep.1, hout, hsru], hkeep.2⟩
    · have hpub : FeedPublished h := hh ▸ feedPublished_hear hf .cabin
      rw [hu]
      exact (feedPublished_iff.1 (feedPublished_haltWheels hpub)).2
    · obtain ⟨w, hw, hbefore⟩ := hx
      rw [hu, haltWheels_wheels, ← halted_wheel] at hw
      rw [hu, haltWheels_eu, raiseHalted_fresh ⟨w, hw, by rwa [hwg]⟩, raise_eq (by decide), heuHalted]
    · rw [hu, haltWheels_eu, raiseHalted_same fun w hw => ?_, heuHalted]
      rw [hwg]
      refine hx w ?_
      rwa [hu, haltWheels_wheels, ← halted_wheel]
  · rintro hsome
    rw [exec_releaseHalt hr hh, if_pos ((someHalting_iff h).2 (hwg ▸ hsome)), hh]
    rfl
  · intro hno hf
    obtain ⟨t, ht⟩ : ∃ t, t = releaseWheels h := ⟨_, rfl⟩
    have hpub : FeedPublished h := hh ▸ feedPublished_hear hf .cabin
    have hfed : FeedPublished (releaseWheels h) := feedPublished_handWheels hpub rfl rfl rfl
    rw [← ht] at hfed
    have heq := releaseWheels_eq ht
    rw [(feedPublished_iff.1 hfed).2, hrc, hwg] at heq
    refine ⟨t, ?_, heq, fun w v hv => ?_⟩
    · rw [exec_releaseHalt hr hh, if_neg (mt (someHalting_iff h).1 fun ⟨w, hw⟩ => hno w (hwg ▸ hw)), ht]
    · rw [ht, releaseWheels_wheel, hwg, hv, releaseWheel]

end Sys2Proof.Machine
end

section
/-! SUPPORT. The expiries of a stall, a phase and a burst, and the tach fault (O57). -/

namespace Sys2Proof.Machine

/-! ## A wheel that leaves the normal law (R59, R61, R74) -/

/-- The wheel `w` and its partner replaced. -/
def setBoth (w : Wheel) (v o : WheelRec) (ws : PerWheel WheelRec) : PerWheel WheelRec := (ws.set w v).set (other w) o

theorem setBoth_get (w : Wheel) (v o : WheelRec) (ws : PerWheel WheelRec) :
    (setBoth w v o ws).get w = v ∧ (setBoth w v o ws).get (other w) = o := by
  cases w <;> exact ⟨rfl, rfl⟩

/-- R59, R74: the stall as SU and SLU find it. -/
def stalled (w : Wheel) (s : State) : State :=
  { s with
    wg := { s.wg with
      wheels := setBoth w (quietWheel .recovering 0 (s.wg.wheels.get w))
                  (quietWheel .standby 0 (noReverse (s.wg.wheels.get (other w)))) s.wg.wheels }
    sru := { s.sru with record := some { wheel := w, phase := .stopping, burst := 1, phaseTimer := none
                                         burstTimer := none } }
    eu := latchAll .stall s.eu }

section
variable {s t u x : State} {w : Wheel}

theorem noReverse_eq (v : WheelRec) : noReverse v = { v with acc := if v.acc ≤ -10 then 0 else v.acc } := by
  unfold noReverse
  by_cases h : v.acc ≤ -10
  · rw [if_pos (present_neg_iff.2 h), if_pos h]
  · rw [if_neg (mt present_neg_iff.1 h), if_neg h]

theorem takeStall_rejudged (h : (s.wg.wheels.get w).state = .running) :
    takeStall w s = recomputeFeed (reevaluate (judgeRecovery (stalled w s))) := by
  have hs : takeStall w s = handWheels s.wg.wheels (reevaluate (judgeRecovery (stalled w s))) := rfl
  rw [hs, handWheels_changed ⟨w, ?_⟩]
  rw [rejudged_eq, h]
  change ((setBoth w _ _ s.wg.wheels).get w).state ≠ .running
  rw [(setBoth_get ..).1]
  simp [quietWheel]

theorem exec_stallTimerExpiry (h : (s.wg.wheels.get w).state = .running)
    (ht : (s.wg.wheels.get w).stallTimer.isSome = true) (hr : s.sru.record = none) :
    exec (.stallTimerExpiry w) s = .next (takeStall w s) :=
  congrArg Host.Outcome.next (if_pos ⟨h, ht, by rw [hr]; rfl⟩)

/-- A state judged anew whose feed limit is then recomputed. -/
theorem rejudgedFed_eq (ht : t = recomputeFeed (reevaluate (judgeRecovery x))) :
    t = { x with su := t.su, slu := t.slu, psv := t.psv, rc := { x.rc with feedLimit := feedNow t } } := by
  rw [rejudged_eq] at ht
  subst ht
  rfl

/-- R59, R74: what a stall leaves. -/
theorem takeStall_frame (h : (s.wg.wheels.get w).state = .running) (ht : t = takeStall w s) :
    t = { stalled w s with su := t.su, slu := t.slu, psv := t.psv, rc := { s.rc with feedLimit := feedNow t } } ∧
    RecordJudged s t ∧ t.su.state = judgedRun (stalled w s) := by
  rw [takeStall_rejudged h] at ht
  refine ⟨rejudgedFed_eq ht, ?_, ?_⟩
  · rw [ht]
    exact (recordJudged_rejudged (z := stalled w s) rfl rfl rfl).congr rfl rfl rfl rfl rfl rfl
  · rw [ht, rejudged_eq]
    exact judgedSu_state ..

/-- R130: a run holds while a recovery exists. -/
theorem judgedRun_recovering {r : Recovery} (h : s.sru.record = some r) :
    (s.su.state = .accumulating → judgedRun s = .holding) ∧
    (s.su.state ≠ .accumulating → judgedRun s = s.su.state) := by
  have hno : accumulateOk s = false := by simp [accumulateOk, h]
  refine ⟨fun hs => ?_, fun hs => ?_⟩
  · rw [judgedRun, hs]
    exact if_neg (by simp [hno])
  · rw [judgedRun]
    cases hst : s.su.state
    case accumulating => exact absurd hst hs
    case holding => exact if_neg (by simp [hno])
    all_goals rfl

/-- R61: the fault of a wheel of the normal law. -/
theorem takeTachFault_frame (h : (s.wg.wheels.get w).state = .running) (ht : t = takeTachFault w s) :
    t = { s with
      wg := { s.wg with
        wheels := setBoth w (quietWheel .tachFault 0 { s.wg.wheels.get w with acc := 0 })
                    (standAside (s.wg.wheels.get (other w))) s.wg.wheels }
      rc := { s.rc with feedLimit := feedNow t }, eu := latchAll .tachFault s.eu } := by
  unfold takeTachFault at ht
  dsimp only at ht
  rw [handWheels_changed ⟨w, ?_⟩] at ht
  · subst ht
    rfl
  · rw [h]
    change ((setBoth w _ _ s.wg.wheels).get w).state ≠ .running
    rw [(setBoth_get ..).1]
    simp [quietWheel]

/-- R57: a partner that a tach fault finds. -/
theorem standAside_eq (o : WheelRec) :
    standAside o =
      if o.state = .stopped ∨ o.state = .running
      then { state := .standby, target := 0, acc := o.acc, torqueHold := false, stallTimer := none, zeroGates := 0 }
      else { o with torqueHold := false } := rfl

/-! ## The end of a recovery (R81, R82) -/

/-- The record cleared, once the feed limit has been recomputed. -/
theorem clearRecord_fed (hu : u = clearRecord (recomputeFeed x)) (hsu : x.su = s.su) (hl : x.slu = s.slu)
    (hp : x.psv = s.psv) :
    u = { x with sru := { x.sru with record := none }, su := u.su, slu := u.slu, psv := u.psv
                 rc := { x.rc with feedLimit := feedNow u } } ∧ RecordJudged s u := by
  refine ⟨?_, ?_⟩
  · rw [clearRecord, rejudged_eq] at hu
    subst hu
    rfl
  · rw [hu]
    exact (clearRecord_judged (z := recomputeFeed x) hsu hl hp).2

/-- R82: both wheels handed back, and the record cleared. -/
def handedBack (s : State) : State :=
  clearRecord (recomputeFeed
    { s with wg := { s.wg with wheels := { a := handBack s.wg .a, b := handBack s.wg .b } } })

/-- R81: the wheel of the record JAMMED, and the record cleared. -/
def jammedAt (w : Wheel) (s : State) : State :=
  clearRecord (recomputeFeed (s.setWheel w (quietWheel .jammed 0 { s.wg.wheels.get w with acc := 0 })))

/-- The end of a recovery noted, and its event raised. -/
theorem noted_eq {e : Event} (he : e ≠ .segmentClosed) (how : RecoveryEnd) (r : Recovery) (v : State) :
    raise e (setOutcome how r v) =
      { v with sru := { v.sru with lastEnd := how, lastWheel := r.wheel, lastBurst := r.burst }
               eu := latchAll e v.eu } := by
  rw [raise_eq he]
  rfl

/-- R82: what the recovered end leaves, before the head it held is released. -/
theorem handedBack_frame (hu : u = handedBack s) :
    u = { s with wg := { s.wg with wheels := u.wg.wheels }, su := u.su, slu := u.slu, psv := u.psv
                 sru := { s.sru with record := none }, rc := { s.rc with feedLimit := feedNow u } } ∧
    RecordJudged s u ∧ ∀ w, u.wg.wheels.get w = handBack s.wg w := by
  obtain ⟨hframe, hjudged⟩ := clearRecord_fed hu rfl rfl rfl
  have hwheels := congrArg (·.wg.wheels) hframe
  refine ⟨?_, hjudged, fun w => ?_⟩
  · rw [hwheels]
    exact hframe
  · rw [hwheels]
    cases w <;> rfl

/-- R81: what the jammed end leaves, before the head it held is released. -/
theorem jammedAt_frame (hu : u = jammedAt w s) :
    u = { s with wg := { s.wg with wheels := u.wg.wheels }, su := u.su, slu := u.slu, psv := u.psv
                 sru := { s.sru with record := none }, rc := { s.rc with feedLimit := feedNow u } } ∧
    RecordJudged s u ∧
    u.wg.wheels = s.wg.wheels.set w (quietWheel .jammed 0 { s.wg.wheels.get w with acc := 0 }) := by
  obtain ⟨hframe, hjudged⟩ := clearRecord_fed hu rfl rfl rfl
  have hwheels := congrArg (·.wg.wheels) hframe
  refine ⟨?_, hjudged, hwheels⟩
  rw [hwheels]
  exact hframe

theorem exec_phaseTimerExpiry_recovered {r : Recovery} (hr : s.sru.record = some r)
    (ht : r.phaseTimer.isSome = true) (hp : r.phase = .probe) :
    exec .phaseTimerExpiry s =
      .next (raise .recovered (setOutcome .recovered r (releaseRecovery (handedBack s)))) :=
  exec_phaseTimerExpiry_probe hr ht hp

theorem exec_burstStallTimerExpiry_jammed {r : Recovery} (hr : s.sru.record = some r)
    (ht : r.burstTimer.isSome = true) (hb : s.sru.settings.bursts ≤ r.burst) :
    exec .burstStallTimerExpiry s =
      .next (raise .jammed (setOutcome .jammed r (releaseRecovery (jammedAt r.wheel s)))) := by
  rw [exec_burstStallTimerExpiry hr ht, failBurst, if_neg (Nat.not_lt.2 hb)]
  rfl

theorem exec_phaseTimerExpiry_next {r : Recovery} {p : Phase} (hr : s.sru.record = some r)
    (ht : r.phaseTimer.isSome = true) (hp : nextPhase r.phase = some p) :
    exec .phaseTimerExpiry s = .next
      { s with sru := { s.sru with
          record := some { r with phase := p, phaseTimer := none, burstTimer := none } } } := by
  have he : exec .phaseTimerExpiry s = execPhaseTimerExpiry s := rfl
  rw [he, execPhaseTimerExpiry, hr]
  dsimp only
  rw [if_pos ht, hp]
  rfl

theorem exec_phaseTimerExpiry_idle {r : Recovery} (hr : s.sru.record = some r) (ht : r.phaseTimer = none) :
    exec .phaseTimerExpiry s = .next s := by
  have he : exec .phaseTimerExpiry s = execPhaseTimerExpiry s := rfl
  rw [he, execPhaseTimerExpiry, hr]
  dsimp only
  rw [if_neg (by simp [ht])]

theorem exec_burstStallTimerExpiry_idle {r : Recovery} (hr : s.sru.record = some r) (ht : r.burstTimer = none) :
    exec .burstStallTimerExpiry s = .next s := by
  have he : exec .burstStallTimerExpiry s = execBurstStallTimerExpiry s := rfl
  rw [he, execBurstStallTimerExpiry, hr]
  dsimp only
  rw [if_neg (by simp [ht])]

theorem exec_recoveryTimers_none (h : s.sru.record = none) :
    exec .phaseTimerExpiry s = .next s ∧ exec .burstStallTimerExpiry s = .next s := by
  have he : exec .phaseTimerExpiry s = execPhaseTimerExpiry s ∧
      exec .burstStallTimerExpiry s = execBurstStallTimerExpiry s := ⟨rfl, rfl⟩
  rw [he.1, he.2, execPhaseTimerExpiry, execBurstStallTimerExpiry, h]
  exact ⟨rfl, rfl⟩

/-! ## The head that a recovery held (R186) -/

theorem heldForRecovery_iff (r : Posted) :
    heldForRecovery r = true ↔ r.kind = .setWheelDemand ∨ r.kind = .setRamp ∨ r.kind = .setRecovery := by
  cases r <;> simp [heldForRecovery, Posted.kind]

theorem releaseRecovery_still (h : u.pi.ports.cabin.hold = none ∨ u.pi.ports.cabin.queue = []) :
    releaseRecovery u = u := by
  unfold releaseRecovery releaseHead
  split
  · next hh hq =>
    rcases h with h | h
    · simp [h] at hh
    · simp [h] at hq
  · rfl

theorem releaseRecovery_head {e : Entry} {es : List Entry} (hh : u.pi.ports.cabin.hold.isSome = true)
    (hq : u.pi.ports.cabin.queue = e :: es) :
    releaseRecovery u = if heldForRecovery e.request then drainList .cabin (e :: es) u else u := by
  obtain ⟨n, hn⟩ := Option.isSome_iff_exists.1 hh
  have hdrain : drain .cabin u = drainList .cabin (e :: es) u := by
    rw [← hq]
    rfl
  rw [← hdrain, releaseRecovery, releaseHead, hn, hq]

/-- The requests that a recovery holds leave the record when they are taken. -/
theorem applyPosted_record {p : Port} {r : Posted} (h : heldForRecovery r = true) (ht : applyPosted p r s = .ok t) :
    t.sru.record = s.sru.record := by
  cases r
  case setWheelDemand | setRamp => cases ht; rfl
  case setRecovery =>
    simp only [applyPosted, applySetRecovery] at ht
    split at ht <;> cases ht
    rfl
  all_goals cases h

theorem applyEntry_record {p : Port} {e : Entry} (h : heldForRecovery e.request = true) :
    (applyEntry p e s).sru.record = s.sru.record := by
  unfold applyEntry
  split
  · next ht => exact applyPosted_record h ht
  · simp [recordRefusal]

/-- R186: the one head that a recovery held leaves the queue at its end. -/
theorem releaseRecovery_alone {e : Entry} (hr : u.sru.record = none) (hh : u.pi.ports.cabin.hold.isSome = true)
    (hq : u.pi.ports.cabin.queue = [e]) (he : heldForRecovery e.request = true) :
    (releaseRecovery u).sru.record = none ∧ (releaseRecovery u).pi.ports.cabin.queue = [] ∧
    (releaseRecovery u).pi.ports.cabin.hold = none := by
  have hfree : held e.request u = false := by
    rw [held_of_recovery he, hr]
    rfl
  have hdrain : releaseRecovery u = setQueue .cabin [] none (applyEntry .cabin e u) := by
    rw [releaseRecovery_head hh hq, if_pos he, drainList, hfree]
    rfl
  rw [hdrain]
  exact ⟨(applyEntry_record he).trans hr, rfl, rfl⟩

end

/-- Settles O57: a stall is `takeStall_frame`, a fault `takeTachFault_frame`, and the two ends of a recovery are
`clearRecord_fed` on the wheels handed back or jammed. -/
theorem recoveryEvents : Obligations.RecoveryEvents := by
  refine ⟨fun w s v o hv ho => ⟨fun hout => ?_, fun hrun ht hr => ?_, fun hout => ?_, fun hrun => ?_⟩,
    fun s => ⟨exec_recoveryTimers_none, fun r hr => ⟨exec_phaseTimerExpiry_idle hr, fun r' ht hp hr' => ?_,
      fun ht hp => ?_, exec_burstStallTimerExpiry_idle hr, fun r' ht hb hr' => ?_, fun ht hb => ?_⟩⟩,
    fun u => ⟨releaseRecovery_still, fun e es hh hq => ?_⟩, fun s r x hr hh hq hx => ⟨fun ht hp => ?_, fun ht hb => ?_⟩⟩
  · refine congrArg _ (if_neg ?_)
    rintro ⟨hs, hsome, hnone⟩
    rw [hv] at hout
    rcases hout with hout | hout | hout
    · exact hout hs
    · simp [hout] at hsome
    · simp [Option.isNone_iff_eq_none.1 hnone] at hout
  · subst hv ho
    obtain ⟨t, htake⟩ : ∃ t, t = takeStall w s := ⟨_, rfl⟩
    obtain ⟨hframe, ⟨hsu, hslu, hpsv⟩, hstate⟩ := takeStall_frame hrun htake
    obtain ⟨hacc, hother⟩ := judgedRun_recovering (s := stalled w s) rfl
    have hwheels : t.wg.wheels = (stalled w s).wg.wheels := by rw [hframe]
    refine ⟨t, htake ▸ exec_stallTimerExpiry hrun ht hr, ?_, ?_, ?_, hslu, hpsv, hsu, fun ha => ?_, fun ha => ?_⟩
    · rw [hwheels]
      exact hframe
    · rw [hwheels]
      exact (setBoth_get ..).1
    · rw [hwheels]
      refine (setBoth_get ..).2.trans ?_
      rw [noReverse_eq]
      rfl
    · rw [hstate, hacc ha]
    · rw [hstate, hother ha]
      rfl
  · rw [hv] at hout
    exact congrArg _ (if_neg hout)
  · subst hv ho
    obtain ⟨t, htake⟩ : ∃ t, t = takeTachFault w s := ⟨_, rfl⟩
    have hframe := takeTachFault_frame hrun htake
    have hwheels := congrArg (·.wg.wheels) hframe
    refine ⟨t, htake ▸ exec_tachFault hrun, ?_, ?_, ?_⟩
    · rw [hwheels]
      exact hframe
    · rw [hwheels]
      exact (setBoth_get ..).1
    · rw [hwheels]
      exact (setBoth_get ..).2.trans (standAside_eq _)
  · rw [hr']
    refine exec_phaseTimerExpiry_next hr ht ?_
    cases hph : r.phase
    case probe => exact absurd hph hp
    all_goals rfl
  · obtain ⟨u, hu⟩ : ∃ u, u = handedBack s := ⟨_, rfl⟩
    obtain ⟨hframe, ⟨hsu, hslu, hpsv⟩, hwheels⟩ := handedBack_frame hu
    refine ⟨u, _, ?_, rfl, hframe, fun w => ?_, hsu, hslu, hpsv⟩
    · rw [exec_phaseTimerExpiry_recovered hr ht hp, ← hu, noted_eq (by decide)]
    · rw [hwheels, handBack, noReverse_eq]
      rfl
  · rw [exec_burstStallTimerExpiry hr ht, failBurst, if_pos hb, hr']
    rfl
  · obtain ⟨u, hu⟩ : ∃ u, u = jammedAt r.wheel s := ⟨_, rfl⟩
    obtain ⟨hframe, ⟨hsu, hslu, hpsv⟩, hwheels⟩ := jammedAt_frame hu
    refine ⟨u, _, ?_, rfl, hframe, ?_, ?_, hsu, hslu, hpsv⟩
    · rw [exec_burstStallTimerExpiry_jammed hr ht hb, ← hu, noted_eq (by decide)]
    · rw [hwheels, PerWheel.get_set_same]
      rfl
    · rw [hwheels, PerWheel.get_set_other]
  · rw [releaseRecovery_head hh hq]
    exact if_congr (heldForRecovery_iff _) rfl rfl
  · have hu := (handedBack_frame (s := s) rfl).1
    have hreleased := releaseRecovery_alone (u := handedBack s) (e := x) (by rw [hu]) (by rw [hu]; exact hh)
      (by rw [hu]; exact hq) hx
    rw [exec_phaseTimerExpiry_recovered hr ht hp, noted_eq (by decide)]
    exact ⟨_, rfl, hreleased⟩
  · have hu := (jammedAt_frame (s := s) (w := r.wheel) rfl).1
    have hreleased := releaseRecovery_alone (u := jammedAt r.wheel s) (e := x) (by rw [hu]) (by rw [hu]; exact hh)
      (by rw [hu]; exact hq) hx
    rw [exec_burstStallTimerExpiry_jammed hr ht hb, noted_eq (by decide)]
    exact ⟨_, rfl, hreleased⟩

end Sys2Proof.Machine
end

section
/-! SUPPORT. What each operation makes of the recovery settings and of the recovery record (R71, R73, R75, R80, R81), and
every command and every millisecond keeps both within their ranges (O17). -/

namespace Sys2Proof.Machine

/-! ## What the operations with more than one branch leave of SRU -/

@[simp] theorem leaveHold_sru (s : State) : (leaveHold s).sru = s.sru := by simp [leaveHold]

@[simp] theorem resetReturn_sru (s : State) : (resetReturn s).sru = s.sru := by
  unfold resetReturn; split <;> simp

@[simp] theorem takeRise_sru (low : Nat) (s : State) : (takeRise low s).sru = s.sru := by
  unfold takeRise riseInHold; (repeat' split) <;> simp

@[simp] theorem takeFall_sru (s : State) : (takeFall s).sru = s.sru := by
  unfold takeFall; split <;> simp

@[simp] theorem judgeFlow_sru (s : State) : (judgeFlow s).sru = s.sru := by
  unfold judgeFlow; (repeat' split) <;> simp

@[simp] theorem takeCeiling_sru (qp : Nat) (s : State) : (takeCeiling qp s).sru = s.sru := by
  unfold takeCeiling ceilingIntoState; (repeat' split) <;> simp

@[simp] theorem stopSurvey_sru (s : State) : (stopSurvey s).sru = s.sru := by rw [stopSurvey_eq]

@[simp] theorem startCheck_sru (s : State) : (startCheck s).sru = s.sru := by
  unfold startCheck; dsimp only; split <;> simp

@[simp] theorem takeInvalid_sru (s : State) : (takeInvalid s).sru = s.sru := by
  unfold takeInvalid; dsimp only; split <;> simp [loseSensor]

@[simp] theorem takeValid_sru (x y psi : Int) (s : State) : (takeValid x y psi s).sru = s.sru := by
  unfold takeValid; dsimp only; split <;> simp [endStarting]

@[simp] theorem judgeGate_sru (w : Wheel) (pulses : Nat) (s : State) : (judgeGate w pulses s).sru = s.sru := by
  unfold judgeGate; dsimp only; (repeat' split) <;> simp

@[simp] theorem releaseWheels_sru (s : State) : (releaseWheels s).sru = s.sru := by simp [releaseWheels]

@[simp] theorem restWheels_sru (s : State) : (restWheels s).sru = s.sru := by simp [restWheels]

@[simp] theorem clearRecord_record (s : State) : (clearRecord s).sru.record = none := by simp [clearRecord]

/-- R185: of the posted requests SET_RECOVERY alone changes SRU, and only within the ranges of R71. -/
theorem applyPosted_sru {p : Port} {r : Posted} {s t : State} (ht : applyPosted p r s = .ok t) :
    t.sru = s.sru ∨ ∃ k, r = .setRecovery k ∧ recoveryOk k = true ∧ t.sru = { s.sru with settings := k } := by
  cases r
  case setRecovery k =>
    simp only [applyPosted, applySetRecovery] at ht
    split at ht <;> cases ht
    next hk => exact .inr ⟨k, rfl, hk, rfl⟩
  all_goals
    refine .inl ?_
    simp only [applyPosted, applySetScaler, applySetDepthCheck, applyLoadZone, applyDropZone, applySetWheelDemand,
      applySetRamp, applySetFallbackSpeed, applyClearJam, applySetSteerMode, applySetTrimManual, applySetSteerGains,
      applySetPlate, applyClearPlate, applySetPumpDemand, applySetTransport, applySetPortTimeout, applyAckEvents,
      applySetEventEnables, applySetAlertLine, applySetMarkWidth] at ht
    (repeat' split at ht) <;> cases ht <;> simp

/-! ## The record (R73, R75, R80) -/

/-- R80: the burst stall condition is judged in REVERSING and in PROBE only. -/
theorem burstStallCondition_resting {p : Phase} (h : p = .stopping ∨ p = .rest) (w : WheelRec) (pressure stall : Nat)
    (speed : Int) : burstStallCondition p w pressure stall speed = false := by
  rcases h with rfl | rfl <;> simp [burstStallCondition, slowInPhase]

/-- R71: every phase but STOPPING is served within 10,000 ms. -/
theorem phaseTime_le {k : RecoverySettings} (hk : recoveryOk k = true) {p : Phase} (hp : p ≠ .stopping) :
    ∃ limit, phaseTime k p = some limit ∧ limit ≤ 10000 := by
  obtain ⟨_, _, ⟨_, hreverse⟩, ⟨_, hrest⟩, _, _, hprobe⟩ := (recoveryOk_iff k).1 hk
  cases p with
  | stopping => exact absurd rfl hp
  | reversing => exact ⟨_, rfl, by omega⟩
  | rest => exact ⟨_, rfl, by omega⟩
  | probe => exact ⟨_, rfl, hprobe⟩

namespace RecordLegal
variable {k : RecoverySettings} {r : Recovery}

/-- A burst in range with both timers stopped is legal in every phase. -/
theorem stopped (h1 : 1 ≤ r.burst) (h2 : r.burst ≤ k.bursts) (hp : r.phaseTimer = none) (hb : r.burstTimer = none) :
    RecordLegal k r := by
  refine ⟨h1, h2, ?_, ?_, fun _ => hp, fun _ => hb⟩
  · rw [hp]; exact Nat.zero_le _
  · rw [hb]; exact Nat.zero_le _

theorem enterPhase (h : RecordLegal k r) (p : Phase) : RecordLegal k (enterPhase p r) := by
  obtain ⟨h1, h2, _⟩ := h
  exact stopped h1 h2 rfl rfl

/-- R75, step 1: a phase timer advanced that has not served its phase is still below the time of the phase. -/
theorem advance (h : RecordLegal k r) (hk : recoveryOk k = true) (hn : phaseServed k (advanceTimer r) = false) :
    RecordLegal k (advanceTimer r) := by
  obtain ⟨h1, h2, _, hburst, hstop, hrest⟩ := h
  have htime : timeOf (advanceTimer r).phaseTimer ≤ 10000 := by
    cases ht : r.phaseTimer with
    | none => simp [advanceTimer, ht, timeOf]
    | some v =>
      obtain ⟨limit, hlimit, hle⟩ := phaseTime_le hk (p := r.phase) fun hp => by simp [hstop hp] at ht
      have hlt : v + 100 < limit := by simpa [phaseServed, advanceTimer, ht, hlimit] using hn
      simp only [advanceTimer, ht, Option.map_some, timeOf, Option.getD_some]
      omega
  exact ⟨h1, h2, htime, hburst, fun hp => by simp [advanceTimer, hstop hp], hrest⟩

/-- R75, step 3. -/
theorem arrive (h : RecordLegal k r) : RecordLegal k (arrive r) := by
  obtain ⟨h1, h2, htime, hburst, hstop, hrest⟩ := id h
  unfold Machine.arrive
  split
  · exact h.enterPhase _
  all_goals
    next hp =>
    split
    · exact ⟨h1, h2, Nat.zero_le _, hburst, fun hs => by simp [hp] at hs, hrest⟩
    · exact h

/-- R80, R81: a burst stall timer run on, short of 1,000 ms. -/
theorem runBurst (h : RecordLegal k r) {w : WheelRec} {pressure stall : Nat} {speed : Int} {v : Option Nat}
    (hv : v = runTimer (burstStallCondition r.phase w pressure stall speed) r.burstTimer) (hlt : timeOf v < 1000) :
    RecordLegal k { r with burstTimer := v } := by
  obtain ⟨h1, h2, htime, _, hstop, _⟩ := h
  refine ⟨h1, h2, htime, hlt.le, hstop, fun hp => ?_⟩
  rw [hv, burstStallCondition_resting hp]
  rfl

end RecordLegal

/-! ## The settings and the record, operation by operation -/

namespace RecoveryLegal
variable {s t : State}

theorem same (h : RecoveryLegal s) (he : t.sru = s.sru) : RecoveryLegal t := by
  unfold RecoveryLegal
  rw [he]
  exact h

theorem ofNoRecord (hk : recoveryOk s.sru.settings = true) (hr : s.sru.record = none) : RecoveryLegal s :=
  ⟨hk, by simp [hr]⟩

theorem ofRecord {r : Recovery} (hk : recoveryOk s.sru.settings = true) (hr : s.sru.record = some r)
    (hl : RecordLegal s.sru.settings r) : RecoveryLegal s :=
  ⟨hk, fun _ hm => Option.some.inj (hr.symm.trans hm) ▸ hl⟩

theorem ite {c : Prop} [Decidable c] {u : State} (ht : c → RecoveryLegal t) (hu : ¬ c → RecoveryLegal u) :
    RecoveryLegal (if c then t else u) := by
  split
  · next hc => exact ht hc
  · next hc => exact hu hc

/-! ### Depth and the wheels -/

theorem haltWheels (h : RecoveryLegal s) : RecoveryLegal (haltWheels s) := by
  refine ofNoRecord ?_ ?_ <;> rw [haltWheels_sru]
  · simpa using h.1
  · exact (abortRecovery_sru s).1

/-- R74: a fresh record stands at burst 1 with its timers stopped. -/
theorem takeStall {w : Wheel} (h : RecoveryLegal s) : RecoveryLegal (takeStall w s) := by
  obtain ⟨hk, _⟩ := h
  obtain ⟨⟨hbursts, _⟩, _⟩ := (recoveryOk_iff _).1 hk
  refine ofRecord (r := { wheel := w, phase := .stopping, burst := 1, phaseTimer := none, burstTimer := none }) ?_ ?_
    (.stopped le_rfl ?_ rfl rfl) <;> simp [Machine.takeStall, hk, hbursts]

/-! ### The posted queues (R184 to R186) -/

/-- R72, R186: while a recovery exists SET_RECOVERY is held, so the settings change only without a record. -/
theorem applyEntry {p : Port} {e : Entry} (h : RecoveryLegal s) (he : held e.request s = false) :
    RecoveryLegal (applyEntry p e s) := by
  unfold Machine.applyEntry
  split
  · next ht =>
    rcases applyPosted_sru ht with hsame | ⟨k, hr, hk, hsru⟩
    · exact h.same hsame
    · have hnone : s.sru.record = none := by simpa [hr, held] using he
      exact ofNoRecord (by rw [hsru]; exact hk) (by rw [hsru]; exact hnone)
  · exact h.same (by simp [recordRefusal])

theorem drainList {p : Port} {es : List Entry} (h : RecoveryLegal s) : RecoveryLegal (drainList p es s) := by
  induction es generalizing s with
  | nil => exact h.same rfl
  | cons e es ih => exact .ite (fun _ => h.same rfl) fun he => ih (h.applyEntry (Bool.not_eq_true _ ▸ he))

theorem releaseHead {concerns : Posted → Bool} (h : RecoveryLegal s) : RecoveryLegal (releaseHead concerns s) := by
  unfold Machine.releaseHead
  split
  · exact .ite (fun _ => h.drainList) fun _ => h
  · exact h

theorem joinQueue {p : Port} {e : Entry} (h : RecoveryLegal s) : RecoveryLegal (joinQueue p e s) :=
  .ite (fun _ => h.drainList) fun _ => h.same rfl

/-! ### The step of SRU (R75 to R82) -/

/-- R81, R82: an end of a recovery clears the record, releases the head it held and notes the outcome. -/
theorem ended {e : Event} {how : RecoveryEnd} {r : Recovery} (hk : recoveryOk s.sru.settings = true) :
    RecoveryLegal (raise e (setOutcome how r (releaseRecovery (clearRecord s)))) := by
  have hreleased : RecoveryLegal (releaseRecovery (clearRecord s)) :=
    releaseHead (ofNoRecord (by simpa using hk) (by simp))
  have hnoted : RecoveryLegal (setOutcome how r (releaseRecovery (clearRecord s))) := hreleased
  exact hnoted.same (by simp)

theorem endRecovered {r : Recovery} (hk : recoveryOk s.sru.settings = true) : RecoveryLegal (endRecovered r s) :=
  ended (s := recomputeFeed _) hk

theorem endJammed {r : Recovery} (hk : recoveryOk s.sru.settings = true) : RecoveryLegal (endJammed r s) :=
  ended (s := recomputeFeed _) hk

/-- R81: the next burst begins with its timers stopped, and no burst follows the last. -/
theorem failBurst {r : Recovery} (hk : recoveryOk s.sru.settings = true) : RecoveryLegal (failBurst r s) :=
  .ite (fun hlt => ofRecord hk rfl (.stopped (Nat.le_add_left 1 _) hlt rfl rfl)) fun _ => endJammed hk

/-- R75, steps 2 to 4. -/
theorem driveRecovery {r : Recovery} (hk : recoveryOk s.sru.settings = true) (hr : RecordLegal s.sru.settings r) :
    RecoveryLegal (driveRecovery r s) := by
  have harrived (c : Prop) [Decidable c] : RecordLegal s.sru.settings (if c then arrive r else r) := by
    split
    · exact hr.arrive
    · exact hr
  exact .ite (fun _ => failBurst hk) fun hlt =>
    ofRecord hk rfl ((harrived _).runBurst rfl (Nat.lt_of_not_le hlt))

theorem stepRecovery {r : Recovery} (hk : recoveryOk s.sru.settings = true) (hr : RecordLegal s.sru.settings r) :
    RecoveryLegal (stepRecovery r s) := by
  refine .ite (fun _ => ?_) fun hn => driveRecovery hk (hr.advance hk (Bool.not_eq_true _ ▸ hn))
  split
  · obtain ⟨h1, h2, _⟩ := hr
    exact driveRecovery hk (.stopped h1 h2 rfl rfl)
  · exact endRecovered hk

theorem takeStalls (h : RecoveryLegal s) : RecoveryLegal (takeStalls s) := by
  unfold Machine.takeStalls
  split
  · exact h.takeStall
  · exact h

/-- R54: an update takes a stall where no recovery existed at its start, and is SRU's step where one did. -/
theorem governorStep {pa pb : Int} (h : RecoveryLegal s) : RecoveryLegal (governorStep pa pb s) := by
  have hg : RecoveryLegal (governed pa pb s) := h.same rfl
  suffices hstep : RecoveryLegal (stepSru s (restWheels (Machine.takeStalls (governed pa pb s)))) by
    rw [governorStep_eq]
    exact hstep.same (by simp)
  cases hr : s.sru.record with
  | none =>
    rw [stepSru_none hr]
    exact hg.takeStalls.same (by simp)
  | some r =>
    obtain ⟨hk, hrecord⟩ := id h
    rw [takeStalls_recovering (governed_record.trans hr), stepSru, hr]
    refine .ite (fun _ => stepRecovery ?_ ?_) fun _ => hg.same (by simp)
    · rw [restWheels_sru]; exact hk
    · rw [restWheels_sru]; exact hrecord r hr

theorem phaseTimerExpiry (h : RecoveryLegal s) : ∃ t, execPhaseTimerExpiry s = .next t ∧ RecoveryLegal t := by
  obtain ⟨hk, hrecord⟩ := id h
  refine ⟨_, rfl, ?_⟩
  split
  · exact h
  · next r hr =>
    refine .ite (fun _ => ?_) fun _ => h
    split
    · exact ofRecord hk rfl ((hrecord r hr).enterPhase _)
    · exact endRecovered hk

theorem burstStallTimerExpiry (h : RecoveryLegal s) :
    ∃ t, execBurstStallTimerExpiry s = .next t ∧ RecoveryLegal t := by
  refine ⟨_, rfl, ?_⟩
  split
  · exact h
  · exact .ite (fun _ => failBurst h.1) fun _ => h

/-! ### Requests (R177, R182) -/

theorem hear {p : Port} (h : RecoveryLegal s) : RecoveryLegal (hear p s) := h.same (by simp)

theorem reply {k : Kind} {p : Port} {tag : Byte} {st : Status} {d : List Byte} (h : RecoveryLegal s) :
    RecoveryLegal (reply k p tag st d s) := h.same rfl

theorem receive {k : Kind} {p : Port} {tag : Byte} {d : List Byte} {body : State → State} (h : RecoveryLegal s)
    (hb : ∀ t, RecoveryLegal t → RecoveryLegal (body t)) : RecoveryLegal (receive k p tag d body s) :=
  .ite (fun _ => h.hear.reply) fun _ => .ite (fun _ => h.hear.reply) fun _ => .ite (fun _ => h.hear.reply) fun _ =>
    hb _ h.hear

/-- A request whose effect leaves SRU as it was. -/
theorem receive_same {k : Kind} {p : Port} {tag : Byte} {d : List Byte} {body : State → State} (h : RecoveryLegal s)
    (hb : ∀ t, (body t).sru = t.sru) : RecoveryLegal (Machine.receive k p tag d body s) :=
  h.receive fun t ht => ht.same (hb t)

theorem post {k : Kind} {p : Port} {tag : Byte} {d : List Byte} {make : State → Posted × Bool} (h : RecoveryLegal s) :
    RecoveryLegal (post k p tag d make s) :=
  h.receive fun _ ht => .ite (fun _ => ht.reply) fun _ => ht.reply.joinQueue

theorem runRequest {k : Kind} {p : Port} {tag : Byte} {d : List Byte} {refusal : State → Option Status}
    {effect : State → State} (h : RecoveryLegal s) (he : ∀ t, (effect t).sru = t.sru) :
    RecoveryLegal (runRequest k p tag d refusal effect s) := by
  refine h.receive_same fun t => ?_
  (repeat' split)
  · rfl
  · rfl
  · exact he t

/-- R84: HALT aborts the recovery, and then releases the head it held. -/
theorem haltTaken (h : RecoveryLegal s) : RecoveryLegal (haltTaken s) :=
  .ite (fun _ => h.haltWheels.releaseHead) fun _ => h.haltWheels

/-- R70, R191: a restart clears the record and leaves the settings. -/
theorem restartHub (h : RecoveryLegal s) : RecoveryLegal (restartHub s) := by
  have ht := restartHub_eq (s := s) rfl rfl
  rw [restarting_eq] at ht
  generalize Machine.restartHub s = t at ht
  exact ofNoRecord (by rw [ht]; exact h.1) (by rw [ht])

/-! ### The hub's own events -/

theorem postedHeadApply (h : RecoveryLegal s) (p : Port) :
    ∃ t, execPostedHeadApply p s = .next t ∧ RecoveryLegal t := by
  refine ⟨_, rfl, ?_⟩
  split
  · exact h
  · exact .ite (fun _ => h) fun _ => h.drainList

theorem holdTimerExpiry (h : RecoveryLegal s) (p : Port) :
    ∃ t, execHoldTimerExpiry p s = .next t ∧ RecoveryLegal t := by
  refine ⟨_, rfl, ?_⟩
  split
  · exact drainList (h.same (by simp [recordRefusal]))
  · exact h

theorem handEnd {q : PlateId} {before : PerPlate Plate} (h : RecoveryLegal s) : RecoveryLegal (handEnd q before s) :=
  .ite (fun _ => h.releaseHead) fun _ => h

theorem plateStep {n1 n2 s1 s2 : Int} (h : RecoveryLegal s) : RecoveryLegal (plateStep n1 n2 s1 s2 s) :=
  handEnd (handEnd (handEnd (handEnd (h.same rfl))))

theorem handLoss {p : Port} (h : RecoveryLegal s) : RecoveryLegal (handLoss p s) := by
  cases p
  · exact h.haltWheels.same rfl
  · exact h.same (by simp [Machine.handLoss])
  · exact h.same (by simp [Machine.handLoss])

theorem silence {p : Port} (h : RecoveryLegal s) :
    RecoveryLegal (surveyLoss p (Machine.handLoss p (raisePortLost p (losePort p s)))) := by
  have hlost : RecoveryLegal (raisePortLost p (losePort p s)) := h.same (by simp)
  exact (handLoss (p := p) hlost).same (by simp)

/-! ### Every command -/

/-- What a command answers. -/
theorem exec (h : RecoveryLegal s) (c : Instr) : ∃ t, exec c s = .next t ∧ RecoveryLegal t := by
  cases c with
  | powerOn =>
    have hreset : RecoveryLegal State.reset := by decide
    exact ⟨_, rfl, hreset.same rfl⟩
  | badFrame => exact ⟨_, rfl, .ite (fun _ => h.same rfl) fun _ => h⟩
  | unknownKind => exact ⟨_, rfl, h.hear.same rfl⟩
  | setScaler | setDepthCheck | loadZone | dropZone | setWheelDemand | setRamp | setFallbackSpeed | clearJam
  | setRecovery | setSteerMode | setTrimManual | setSteerGains | setPlate | clearPlate | setPumpDemand
  | setTransport | setPortTimeout | ackEvents | setEventEnables | setAlertLine | setMarkWidth =>
    exact ⟨_, rfl, h.post⟩
  | queryMeasurements | queryDepth | queryDemand | queryWheels | queryRecovery | querySteering | queryPlates
  | querySurvey | queryStatus | queryEvents => exact ⟨_, rfl, h.receive_same fun _ => rfl⟩
  | reportRopeCount | setPlantCeiling => exact ⟨_, rfl, h.receive_same fun t => by simp⟩
  | queryPort | queryCheck | queryReturn | surveyClaim | surveyRelease | testInject | setDatum | releaseHalt
  | resetReturn =>
    refine ⟨_, rfl, h.receive_same fun t => ?_⟩
    (repeat' split) <;> simp
  | queryZone | readNext | reportDensity | surveyWindow =>
    refine ⟨_, rfl, h.receive_same fun t => ?_⟩
    dsimp only
    (repeat' split) <;> rfl
  | halt => exact ⟨_, rfl, h.receive fun _ ht => ht.haltTaken.reply⟩
  | surveyConfig | surveyClear | surveySetPointer => exact ⟨_, rfl, h.runRequest fun _ => rfl⟩
  | surveyStart => exact ⟨_, rfl, h.runRequest fun t => by simp [startSurvey]⟩
  | surveyStop => exact ⟨_, rfl, h.runRequest stopSurvey_sru⟩
  | surveyCheck => exact ⟨_, rfl, h.runRequest startCheck_sru⟩
  | headRestart => exact ⟨_, rfl, h.receive fun _ ht => ht.reply.restartHub⟩
  | postedHeadApply p => exact h.postedHeadApply p
  | holdTimerExpiry p => exact h.holdTimerExpiry p
  | sampleSlot =>
    refine ⟨_, rfl, h.same ?_⟩
    split <;> simp
  | sensorLost => exact ⟨_, rfl, .ite (fun _ => h.same (by simp [loseSensor])) fun _ => h⟩
  | tachGateEnd | flowGateEnd | headPressureSample => exact ⟨_, rfl, h.same (by simp)⟩
  | governorUpdate => exact ⟨_, rfl, h.governorStep⟩
  | plateSample => exact ⟨_, rfl, h.plateStep⟩
  | snapshotIntervalExpiry => exact ⟨_, rfl, .ite (fun _ => h.same (by simp [pushSnapshot])) fun _ => h.same rfl⟩
  | stallTimerExpiry => exact ⟨_, rfl, .ite (fun _ => h.takeStall) fun _ => h⟩
  | tachFault | depthDisagree | disagreeClear | primingTimerExpiry | starvationCountExpiry =>
    exact ⟨_, rfl, .ite (fun _ => h.same (by simp)) fun _ => h⟩
  | phaseTimerExpiry => exact h.phaseTimerExpiry
  | burstStallTimerExpiry => exact h.burstStallTimerExpiry
  | settleTimerExpiry | moveTimerExpiry => exact ⟨_, rfl, .ite (fun _ => releaseHead (h.same rfl)) fun _ => h⟩
  | plantReadyRise => exact ⟨_, rfl, .ite (fun _ => h) fun _ => h.same (by simp)⟩
  | plantReadyFall => exact ⟨_, rfl, .ite (fun _ => h.same (by simp)) fun _ => h⟩
  | silenceTimerExpiry => exact ⟨_, rfl, .ite (fun _ => h.silence) fun _ => h⟩
  | startUpTimerExpiry => exact ⟨_, rfl, .ite (fun _ => h.same rfl) fun _ => h⟩
  | widthTimerExpiry => exact ⟨_, rfl, h.same rfl⟩

end RecoveryLegal

/-- Settles O17: a record is made at burst 1, a burst follows another only below the set number, a timer that reaches its
time is stopped in the same step, and while a record stands the settings are held. -/
theorem recoveryLegalKept : Obligations.RecoveryLegalKept := by
  intro s t hs h
  unfold step at h
  split at h
  · cases h
    exact hs.same rfl
  · next c rest _ =>
    have hrest : RecoveryLegal { s with pending := rest } := hs.same rfl
    obtain ⟨u, hu, hk⟩ := hrest.exec c
    cases hu.symm.trans h
    exact hk

end Sys2Proof.Machine
end

section
/-! SUPPORT. The steering law (O28) and the requests of the steering chapter at a clear queue (O33, O34). -/

namespace Sys2Proof.Machine

/-! ## The steering law (R94 to R96) -/

/-- R96, step 4: each plate command is the two shares that act on it, at most 100. -/
theorem plateCommand_int (u v : Int) :
    ((min 100 (positivePart u + positivePart v) : Nat) : Int) = min 100 (max 0 u + max 0 v) := by
  unfold positivePart
  omega

/-- Settles O28: the slopes, the errors, the trim and the demands are the model's own formulas; the plate commands are
naturals, and their shares the positive parts of the demands. -/
theorem steeringLaw : Obligations.SteeringLaw := by
  refine ⟨fun k sEff dx dy mx my mpsi => ?_, by decide, by decide, by decide, by decide⟩
  exact ⟨rfl, rfl, rfl, rfl, rfl, rfl, rfl, rfl, plateCommand_int .., plateCommand_int .., plateCommand_int ..,
    plateCommand_int ..⟩

/-! ## SET_STEER_MODE, SET_TRIM_MANUAL and SET_STEER_GAINS (R87, R98, R100) -/

/-- R87: the name bytes of the two modes. -/
theorem applySetSteerMode_eq (mode : Nat) (s : State) : applySetSteerMode mode s =
    if mode = 1 then .ok (steered { s with slu := { s.slu with chosenAuto := true } })
    else if mode = 2 then .ok (steered { s with slu := { s.slu with chosenAuto := false } })
    else .error .outOfRange := by
  unfold applySetSteerMode
  split
  · rw [reevaluate_eq]; rfl
  · rw [reevaluate_eq]; rfl
  · next h1 h2 => rw [if_neg h1, if_neg h2]

theorem gainsOk_iff (k : SteerSettings) : gainsOk k = true ↔
    k.kx ≤ 200 ∧ k.ky ≤ 500 ∧ k.kt ≤ 500 ∧ k.deadband ≤ 100 ∧ k.twistDeadband ≤ 100 ∧
    20 ≤ k.lr10 ∧ k.lr10 ≤ 200 ∧ k.trimLimit ≤ 60 ∧ k.startDepth ≤ 200000 := by
  simp only [gainsOk, Bool.and_eq_true, inRange_iff, Nat.zero_le, true_and, and_assoc]

/-- R89, R100: the eight settings replaced together; the mode is re-evaluated when the start depth changes. -/
theorem applySetSteerGains_eq (k : SteerSettings) {s u : State}
    (hu : u = { s with slu := { s.slu with settings := k } }) : applySetSteerGains k s =
    if gainsOk k then .ok (if k.startDepth = s.slu.settings.startDepth then u else steered u)
    else .error .outOfRange := by
  subst hu
  simp only [applySetSteerGains, reevaluate_eq]

section
variable {tag : Byte} {d : List Byte} {s a : State}

theorem exec_setSteerMode (hq : QueueClear .cabin s) (hl : d.length = 1)
    (ha : a = answered .setSteerMode .cabin tag .taken [] s) :
    ((byteAt d 0).toNat = 1 →
      exec (.setSteerMode .cabin tag d) s = .next (steered { a with slu := { a.slu with chosenAuto := true } })) ∧
    ((byteAt d 0).toNat = 2 →
      exec (.setSteerMode .cabin tag d) s = .next (steered { a with slu := { a.slu with chosenAuto := false } })) ∧
    ((byteAt d 0).toNat ≠ 1 → (byteAt d 0).toNat ≠ 2 →
      exec (.setSteerMode .cabin tag d) s = .next (refusedAt .setSteerMode .cabin tag .outOfRange a)) := by
  have happly := applySetSteerMode_eq (nameAt d 0) a
  have take {t : State} (ht : applySetSteerMode (nameAt d 0) a = .ok t) (hport : t.port .cabin = a.port .cabin) :
      exec (.setSteerMode .cabin tag d) s = .next t :=
    congrArg _ (post_taken (r := .setSteerMode (nameAt d 0)) (c := false) hq rfl hl rfl ha rfl ht hport)
  refine ⟨fun h1 => ?_, fun h2 => ?_, fun h1 h2 => ?_⟩
  · exact take (happly.trans (if_pos h1)) rfl
  · refine take (happly.trans ((if_neg ?_).trans (if_pos h2))) rfl
    unfold nameAt
    omega
  · exact congrArg _ (post_refused (r := .setSteerMode (nameAt d 0)) (c := false) hq rfl hl rfl ha rfl
      (happly.trans ((if_neg h1).trans (if_neg h2))))

theorem exec_setTrimManual {v lim : Int} (hq : QueueClear .cabin s) (hl : d.length = 4)
    (hlim : lim = (min s.slu.settings.trimLimit (s.wg.sEff / 4) : Nat)) (hv : v = max (-lim) (min (intAt d 0) lim))
    (ha : a = answered .setTrimManual .cabin tag (if v = intAt d 0 then .taken else .takenClamped) [] s) :
    exec (.setTrimManual .cabin tag d) s = .next
      { a with slu := { s.slu with manualTrim := v
                                   offeredTrim := if s.slu.actual = .manual then v else s.slu.offeredTrim } } := by
  have hmake : postTrimManual d (hear .cabin s) = (.setTrimManual v, decide (v ≠ intAt d 0)) := by
    simp only [postTrimManual, trimLim, hear_keeps, ← hlim, clampInt, ← hv]
  have hslu : a.slu = s.slu := by simp [ha]
  rw [status_clamped (c := decide (v ≠ intAt d 0)) decide_eq_true_iff] at ha
  rw [← hslu]
  exact congrArg _ (post_taken hq rfl hl hmake ha rfl rfl rfl)

theorem exec_setSteerGains {u : State} (hq : QueueClear .cabin s) (hl : d.length = 32)
    (ha : a = answered .setSteerGains .cabin tag .taken [] s)
    (hu : u = { a with slu := { a.slu with settings := gainsAt d } }) :
    exec (.setSteerGains .cabin tag d) s = .next
      (if gainsOk (gainsAt d) then if natAt d 28 = s.slu.settings.startDepth then u else steered u
       else refusedAt .setSteerGains .cabin tag .outOfRange a) := by
  have hslu : a.slu = s.slu := by simp [ha]
  rw [← hslu]
  refine congrArg _ (post_judged (r := .setSteerGains (gainsAt d)) (c := false) hq rfl hl rfl ha rfl
    (applySetSteerGains_eq _ hu) ?_)
  subst hu
  split <;> exact ⟨rfl, rfl⟩

end

/-- Settles O33: each request is posted at a clear queue, where SLU judges it at once. -/
theorem steeringSettings : Obligations.SteeringSettings := by
  intro tag d s hq
  refine ⟨fun hl a ha => exec_setSteerMode hq hl ha, fun hl v lim hlim hv a ha => exec_setTrimManual hq hl hlim hv ha,
    fun hl a ha => ⟨fun hin u hu => ?_, fun hout => ?_⟩⟩
  · rw [exec_setSteerGains hq hl ha hu, if_pos ((gainsOk_iff _).2 hin)]
  · rw [exec_setSteerGains hq hl ha rfl, if_neg (mt (gainsOk_iff _).1 hout)]

/-! ## SET_PLATE and CLEAR_PLATE (R99, R109, R111) -/

theorem plateNamed_eq_none {n : Nat} (h : 3 < n) : plateNamed n = none := by
  obtain ⟨m, rfl⟩ : ∃ m, n = m + 4 := ⟨n - 4, by omega⟩
  rfl

section
variable {n v : Nat} {q : PlateId} {s : State}

/-- R99: the manual extension is handed at once in MANUAL, when it is a new command (R97). -/
theorem applySetPlate_eq (hq : plateNamed n = some q) : applySetPlate n v s =
    if s.slu.chosenAuto then .error .wrongState
    else .ok (if s.slu.actual = .manual then
      { s with slu := { s.slu with manualPlates := s.slu.manualPlates.set q v
                                   commands := s.slu.commands.set q v }
               psv := s.psv.set q (if s.slu.commands.get q = v then s.psv.get q
                                   else takeCommand v (s.psv.get q)) }
      else { s with slu := { s.slu with manualPlates := s.slu.manualPlates.set q v } }) := by
  simp only [applySetPlate, hq, commandPlate_eq]

/-- R111, R112: a STUCK plate stands SETTLED at its extension, and takes the command SLU applies as one handed. -/
theorem applyClearPlate_eq (hq : plateNamed n = some q) : applyClearPlate n s =
    if (s.psv.get q).move = .stuck then
      .ok { s with psv := s.psv.set q (takeCommand (s.slu.commands.get q) (freePlate (s.psv.get q))) }
    else .error .wrongState := by
  have hset (w x : Plate) : (s.psv.set q w).set q x = s.psv.set q x := by cases q <;> rfl
  simp only [applyClearPlate, hq, handPlate, PerPlate.get_set_same, hset]

end

/-- R106, R111: the freed plate begins a move exactly when the command lies outside the band of its extension. -/
theorem takeCommand_freePlate (c : Nat) (p : Plate) :
    takeCommand c (freePlate p) = { p with
      command := c, demand := c, settleTimer := none
      move := if p.extension.value + 2 < c ∨ c + 2 < p.extension.value then .moving else .settled
      moveTimer := if p.extension.value + 2 < c ∨ c + 2 < p.extension.value then some 8000 else none } := by
  have hband : outsideBand c p.extension.value = true ↔ p.extension.value + 2 < c ∨ c + 2 < p.extension.value := by
    simp [outsideBand]
  simp only [takeCommand, freePlate, judgeBegin, hband, beginMove]
  split <;> rfl

section
variable {tag : Byte} {d : List Byte} {s a : State} {q : PlateId}

/-- R184: SET_PLATE as the queue takes it in, at a plate that does not hold it. -/
theorem held_setPlate {n v : Nat} (h : ∀ q, plateNamed n = some q → (s.psv.get q).move ≠ .moving) :
    held (.setPlate n v) s = false := by
  unfold held
  dsimp only
  split
  · next q hq => exact decide_eq_false (h q hq)
  · rfl

theorem plate_clamped (x : Nat) : decide (min x 100 ≠ x) = true ↔ ¬ x ≤ 100 := by
  rw [decide_eq_true_iff]
  omega

theorem exec_setPlate_refused {code : Status} (hq : QueueClear .cabin s) (hl : d.length = 5)
    (ha : a = answered .setPlate .cabin tag (if natAt d 1 ≤ 100 then .taken else .takenClamped) [] s)
    (hm : ∀ q, plateNamed (byteAt d 0).toNat = some q → (s.psv.get q).move ≠ .moving)
    (ht : applySetPlate (byteAt d 0).toNat (min (natAt d 1) 100) a = .error code) :
    exec (.setPlate .cabin tag d) s = .next (refusedAt .setPlate .cabin tag code a) := by
  have hpsv : a.psv = s.psv := by simp [ha]
  rw [status_clamped (plate_clamped _)] at ha
  exact congrArg _ (post_refused (r := .setPlate (byteAt d 0).toNat (min (natAt d 1) 100)) hq rfl hl
    (postPlate_eq rfl) ha (held_setPlate (by rwa [hpsv])) ht)

theorem exec_setPlate_taken {t : State} (hq : QueueClear .cabin s) (hl : d.length = 5)
    (ha : a = answered .setPlate .cabin tag (if natAt d 1 ≤ 100 then .taken else .takenClamped) [] s)
    (hm : ∀ q, plateNamed (byteAt d 0).toNat = some q → (s.psv.get q).move ≠ .moving)
    (ht : applySetPlate (byteAt d 0).toNat (min (natAt d 1) 100) a = .ok t) (hport : t.port .cabin = a.port .cabin) :
    exec (.setPlate .cabin tag d) s = .next t := by
  have hpsv : a.psv = s.psv := by simp [ha]
  rw [status_clamped (plate_clamped _)] at ha
  exact congrArg _ (post_taken hq rfl hl (postPlate_eq rfl) ha (held_setPlate (by rwa [hpsv])) ht hport)

theorem exec_setPlate {v : Nat} (hq : QueueClear .cabin s) (hl : d.length = 5) (hv : v = min (natAt d 1) 100)
    (ha : a = answered .setPlate .cabin tag (if natAt d 1 ≤ 100 then .taken else .takenClamped) [] s)
    (hn : plateNamed (byteAt d 0).toNat = some q) (hm : (s.psv.get q).move ≠ .moving) :
    (s.slu.chosenAuto = true →
      exec (.setPlate .cabin tag d) s = .next (refusedAt .setPlate .cabin tag .wrongState a)) ∧
    (s.slu.chosenAuto = false →
      (s.slu.actual ≠ .manual ∨ s.slu.commands.get q = v →
        exec (.setPlate .cabin tag d) s = .next
          { a with slu := { s.slu with manualPlates := s.slu.manualPlates.set q v } }) ∧
      (s.slu.actual = .manual → s.slu.commands.get q ≠ v →
        exec (.setPlate .cabin tag d) s = .next
          { a with slu := { s.slu with manualPlates := s.slu.manualPlates.set q v
                                       commands := s.slu.commands.set q v }
                   psv := s.psv.set q (takeCommand v (s.psv.get q)) })) := by
  subst hv
  have hslu : a.slu = s.slu := by simp [ha]
  have hpsv : a.psv = s.psv := by simp [ha]
  have hstill : ∀ p, plateNamed (byteAt d 0).toNat = some p → (s.psv.get p).move ≠ .moving := by
    intro p hp
    cases hn.symm.trans hp
    exact hm
  have happly := applySetPlate_eq (s := a) (v := min (natAt d 1) 100) hn
  rw [hslu, hpsv] at happly
  refine ⟨fun hauto => exec_setPlate_refused hq hl ha hstill (happly.trans (if_pos hauto)), fun hauto => ?_⟩
  rw [if_neg (by simp [hauto])] at happly
  refine ⟨fun hsame => exec_setPlate_taken hq hl ha hstill (happly.trans (congrArg _ ?_)) rfl, fun hman hnew =>
    exec_setPlate_taken hq hl ha hstill (happly.trans (congrArg _ ?_)) rfl⟩
  · split
    · next hman =>
      have hc := hsame.resolve_left (not_not.2 hman)
      rw [if_pos hc, ← hc, PerPlate.set_get, PerPlate.set_get, ← hpsv]
    · rw [← hpsv]
  · rw [if_pos hman, if_neg hnew]

theorem exec_clearPlate (hq : QueueClear .cabin s) (hl : d.length = 1)
    (ha : a = answered .clearPlate .cabin tag .taken [] s) (hn : plateNamed (byteAt d 0).toNat = some q) :
    exec (.clearPlate .cabin tag d) s = .next
      (if (s.psv.get q).move = .stuck then
         { a with psv := s.psv.set q (takeCommand (s.slu.commands.get q) (freePlate (s.psv.get q))) }
       else refusedAt .clearPlate .cabin tag .wrongState a) := by
  have hslu : a.slu = s.slu := by simp [ha]
  have hpsv : a.psv = s.psv := by simp [ha]
  rw [← hslu, ← hpsv]
  exact congrArg _ (post_judged (r := .clearPlate (nameAt d 0)) (c := false) hq rfl hl rfl ha rfl
    (applyClearPlate_eq hn) ⟨rfl, rfl⟩)

end

/-- Settles O34: a plate that does not move holds no head, so SLU judges SET_PLATE at once; PSV frees a STUCK plate and
takes the applied command as one handed. -/
theorem plateCommandsTaken : Obligations.PlateCommands := by
  intro tag d s hq
  refine ⟨fun hl v a hv ha => ⟨fun hn => ?_, fun q hn hm => exec_setPlate hq hl hv ha hn hm⟩,
    fun hl a ha => ⟨fun hout => ?_, fun q hn => ⟨fun hm => ?_, fun hm c e v hc he hv => ?_⟩⟩⟩
  · exact exec_setPlate_refused hq hl ha (fun q hq => by rw [hn] at hq; cases hq) (by simp only [applySetPlate, hn])
  · refine congrArg _ (post_refused (r := .clearPlate (nameAt d 0)) (c := false) hq rfl hl rfl ha rfl ?_)
    simp only [applyPosted, applyClearPlate, nameAt, plateNamed_eq_none hout]
  · rw [exec_clearPlate hq hl ha hn, if_neg hm]
  · rw [exec_clearPlate hq hl ha hn, if_pos hm, takeCommand_freePlate, hv, hc, he]

end Sys2Proof.Machine
end

section
/-! SUPPORT. What the steering mode and the plates follow from (`Helm`), and what each operation makes of it (O13, O14).
`KeepsHelm s t` says that a state `t` has each of the two invariants that `s` has; most operations leave what they read
as it was, and SLU re-evaluates the mode at each change of its inputs. -/

namespace Sys2Proof.Machine

/-! ## What the two invariants read -/

/-- What `PlatesLegal` reads of a state. -/
structure Rig where
  actual : SteerMode
  commands : PerPlate Nat
  manual : PerPlate Nat
  plates : PerPlate Plate
  queues : Port → List Entry

def rig (s : State) : Rig :=
  { actual := s.slu.actual, commands := s.slu.commands, manual := s.slu.manualPlates, plates := s.psv
    queues := fun p => (s.pi.ports.get p).queue }

/-- What `PlatesLegal` and `ModeFollows` read of a state: the rig and the inputs of the mode (R88). -/
structure Helm where
  rig : Rig
  startDepth : Nat
  chosenAuto : Bool
  depthState : DepthState
  depth : Nat
  disagree : Bool
  sensor : SensorState
  recovering : Bool

def helm (s : State) : Helm :=
  { rig := rig s, startDepth := s.slu.settings.startDepth, chosenAuto := s.slu.chosenAuto, depthState := s.dr.state
    depth := s.dr.depth, disagree := s.dr.disagree, sensor := s.mfe.sensor, recovering := s.sru.record.isSome }

theorem ModeFollows.congr {s t : State} (h : ModeFollows s) (he : helm t = helm s) : ModeFollows t := by
  obtain ⟨hrig, hstart, hchosen, hstate, hdepth, hdisagree, hsensor, hrecord⟩ := Helm.mk.inj he
  obtain ⟨hactual, _⟩ := Rig.mk.inj hrig
  unfold ModeFollows modeNow
  rw [hactual, hstart, hchosen, hstate, hdepth, hdisagree, hsensor, hrecord]
  exact h

/-- `PlatesLegal`, with one condition for the four plates and one for the three ports. -/
structure RigLegal (r : Rig) : Prop where
  off : r.actual = .off → r.commands = noPlates
  plates : ∀ q, PlateLegal (r.commands.get q) (r.manual.get q) (r.plates.get q)
  queues : ∀ p, ∀ e ∈ r.queues p, extensionQueued e.request = true

theorem queueClamped_iff (q : PortRec) : queueClamped q = true ↔ ∀ e ∈ q.queue, extensionQueued e.request = true :=
  List.all_eq_true

theorem platesLegal_iff (s : State) : PlatesLegal s ↔ RigLegal (rig s) := by
  constructor
  · rintro ⟨hoff, hn1, hn2, hs1, hs2, hcabin, hplant, hhoist⟩
    exact ⟨hoff, fun q => by cases q <;> assumption, fun p => (queueClamped_iff _).1 (by cases p <;> assumption)⟩
  · rintro ⟨hoff, hplates, hqueues⟩
    exact ⟨hoff, hplates .n1, hplates .n2, hplates .s1, hplates .s2, (queueClamped_iff _).2 (hqueues .cabin),
      (queueClamped_iff _).2 (hqueues .plant), (queueClamped_iff _).2 (hqueues .hoist)⟩

/-! ## One plate (R104 to R112) -/

/-- What `PlateLegal` asks of a plate apart from the command SLU handed it. -/
def PlateRuns (q : Plate) : Prop :=
  q.command ≤ 100 ∧ q.extension.value ≤ 100 ∧ (q.moveTimer.isSome = true ↔ q.move = .moving) ∧
  (q.settleTimer.isSome = true → q.move = .moving)

section
variable {v w m : Nat} {q : Plate}

theorem plateLegal_iff : PlateLegal v m q ↔
    PlateRuns q ∧ v ≤ 100 ∧ m ≤ 100 ∧ q.demand = v ∧ (q.move ≠ .stuck → q.command = v) := by
  constructor
  · rintro ⟨hv, hm, hd, hc, he, hs, ht⟩
    exact ⟨⟨hc, he, ht⟩, hv, hm, hd, fun h => (hs h).trans hd⟩
  · rintro ⟨⟨hc, he, ht⟩, hv, hm, hd, hs⟩
    exact ⟨hv, hm, hd, hc, he, fun h => (hs h).trans hd.symm, ht⟩

/-- R106: a SETTLED plate, its timers stopped, judged against its command. -/
theorem plateRuns_judgeBegin (hc : q.command ≤ 100) (he : q.extension.value ≤ 100) (hq : q.move = .settled)
    (hm : q.moveTimer = none) (hs : q.settleTimer = none) : PlateRuns (judgeBegin q) := by
  unfold judgeBegin
  split
  · exact ⟨hc, he, by simp [beginMove], by simp [beginMove]⟩
  · exact ⟨hc, he, by simp [hq, hm], by simp [hs]⟩

/-- A plate that does not move has its timers stopped. -/
theorem PlateRuns.still (h : PlateRuns q) (hq : q.move ≠ .moving) : q.moveTimer = none ∧ q.settleTimer = none := by
  obtain ⟨_, _, hm, hs⟩ := h
  exact ⟨Option.not_isSome_iff_eq_none.1 (mt hm.1 hq), Option.not_isSome_iff_eq_none.1 (mt hs hq)⟩

theorem judgeBegin_demand (q : Plate) : (judgeBegin q).demand = q.demand := by
  unfold judgeBegin
  split <;> rfl

theorem judgeBegin_command (q : Plate) : (judgeBegin q).command = q.command := by
  unfold judgeBegin
  split <;> rfl

/-- R109: a command handed to a plate of any state becomes its demand, and its command unless it is STUCK. -/
theorem plateLegal_takeCommand (h : PlateRuns q) (hv : v ≤ 100) (hm : m ≤ 100) : PlateLegal v m (takeCommand v q) := by
  obtain ⟨hc, he, ht, hs⟩ := id h
  refine plateLegal_iff.2 ?_
  unfold takeCommand
  split
  · next hq =>
    obtain ⟨hnone, hnone'⟩ := h.still (by rw [hq]; decide)
    exact ⟨plateRuns_judgeBegin hv he hq hnone hnone', hv, hm, judgeBegin_demand _, fun _ => judgeBegin_command _⟩
  · exact ⟨⟨hv, he, ht, nofun⟩, hv, hm, rfl, fun _ => rfl⟩
  · next hq => exact ⟨⟨hc, he, ht, hs⟩, hv, hm, rfl, fun hn => absurd hq hn⟩

/-- R97: a command is handed when it differs from the one last handed. -/
theorem PlateLegal.handed (h : PlateLegal v m q) (hw : w ≤ 100) :
    PlateLegal w m (if v = w then q else takeCommand w q) := by
  split
  · next hsame => exact hsame ▸ h
  · obtain ⟨hruns, _, hm, _⟩ := plateLegal_iff.1 h
    exact plateLegal_takeCommand hruns hw hm

/-- R111. -/
theorem PlateRuns.free (h : PlateRuns q) : PlateRuns (freePlate q) := by
  obtain ⟨_, he, _⟩ := h
  exact ⟨he, he, by simp [freePlate], by simp [freePlate]⟩

/-- R107: a move that ends leaves the plate at its command. -/
theorem PlateLegal.settle (h : PlateLegal v m q) (hq : q.move = .moving) : PlateLegal v m (settlePlate q) := by
  obtain ⟨⟨hc, he, _⟩, hv, hm, hd, hs⟩ := plateLegal_iff.1 h
  exact plateLegal_iff.2 ⟨⟨hc, he, by simp [settlePlate], by simp [settlePlate]⟩, hv, hm, hd,
    fun _ => hs (by rw [hq]; decide)⟩

/-- R108: a plate given up as STUCK stands at its extension, its demand kept. -/
theorem PlateLegal.stick (h : PlateLegal v m q) : PlateLegal v m (stickPlate q) := by
  obtain ⟨⟨_, he, _⟩, hv, hm, hd, _⟩ := plateLegal_iff.1 h
  exact plateLegal_iff.2 ⟨⟨he, he, by simp [stickPlate], by simp [stickPlate]⟩, hv, hm, hd, fun hn => absurd rfl hn⟩

theorem PlateLegal.tick (h : PlateLegal v m q) : PlateLegal v m (tickPlate q) := by
  obtain ⟨⟨hc, he, ht, hst⟩, hv, hm, hd, hs⟩ := plateLegal_iff.1 h
  exact plateLegal_iff.2 ⟨⟨hc, he, by simpa [tickPlate, runDown] using ht, hst⟩, hv, hm, hd, hs⟩

/-- R105: a new reading is within the range, and leaves the rest to be judged. -/
theorem PlateLegal.extend (h : PlateLegal v m q) (x : Int) : PlateLegal v m { q with extension := extensionOf x } := by
  obtain ⟨⟨hc, _, ht⟩, hv, hm, hd, hs⟩ := plateLegal_iff.1 h
  exact plateLegal_iff.2 ⟨⟨hc, Nat.min_le_right .., ht⟩, hv, hm, hd, hs⟩

/-- R107: the settle timer runs in a move only. -/
theorem PlateLegal.judgeSettle (h : PlateLegal v m q) (hq : q.move = .moving) : PlateLegal v m (judgeSettle q) := by
  have htimer (t : Option Nat) : PlateLegal v m { q with settleTimer := t } := by
    obtain ⟨⟨hc, he, ht, _⟩, hrest⟩ := plateLegal_iff.1 h
    exact plateLegal_iff.2 ⟨⟨hc, he, ht, fun _ => hq⟩, hrest⟩
  unfold Machine.judgeSettle
  split
  · exact htimer none
  · split
    · exact htimer _
    · split
      · exact h.settle hq
      · exact htimer _

/-- R105 to R107. -/
theorem PlateLegal.sample (h : PlateLegal v m q) (x : Int) : PlateLegal v m (samplePlate x q) := by
  have hread := h.extend x
  unfold samplePlate
  split
  · next hq =>
    obtain ⟨hruns, hv, hm, hd, hs⟩ := plateLegal_iff.1 hread
    obtain ⟨hnone, hnone'⟩ := hruns.still (by rw [hq]; decide)
    obtain ⟨hc, he, _⟩ := hruns
    exact plateLegal_iff.2 ⟨plateRuns_judgeBegin hc he hq hnone hnone', hv, hm, (judgeBegin_demand _).trans hd,
      fun _ => (judgeBegin_command _).trans (hs (by rw [hq]; decide))⟩
  · next hq => exact hread.judgeSettle hq
  · exact hread

/-- R115. -/
theorem PlateRuns.restart (h : PlateRuns q) : PlateLegal 0 0 (restartPlate q) := by
  obtain ⟨_, he, _⟩ := h
  exact plateLegal_iff.2 ⟨plateRuns_judgeBegin (Nat.zero_le _) he rfl rfl rfl, Nat.zero_le _, Nat.zero_le _,
    judgeBegin_demand _, fun _ => judgeBegin_command _⟩

end

/-! ## The rig (R90 to R92, R97 to R99, R111) -/

theorem handedPlates_get (old new : PerPlate Nat) (p : PerPlate Plate) (q : PlateId) :
    (handedPlates old new p).get q = if old.get q = new.get q then p.get q else takeCommand (new.get q) (p.get q) := by
  cases q <;> rfl

theorem noPlates_get (q : PlateId) : noPlates.get q = 0 := by cases q <;> rfl

namespace RigLegal
variable {r : Rig}

theorem runs (h : RigLegal r) (q : PlateId) : PlateRuns (r.plates.get q) := (plateLegal_iff.1 (h.plates q)).1

theorem commands_le (h : RigLegal r) (q : PlateId) : r.commands.get q ≤ 100 := (h.plates q).1

theorem manual_le (h : RigLegal r) (q : PlateId) : r.manual.get q ≤ 100 := (h.plates q).2.1

/-- R97: new commands, each handed when it differs from the one last handed. -/
theorem handed (h : RigLegal r) {m : SteerMode} {c : PerPlate Nat} (hoff : m = .off → c = noPlates)
    (hc : ∀ q, c.get q ≤ 100) :
    RigLegal { r with actual := m, commands := c, plates := handedPlates r.commands c r.plates } := by
  refine ⟨hoff, fun q => ?_, h.queues⟩
  rw [handedPlates_get]
  exact PlateLegal.handed (h.plates q) (hc q)

/-- R99: a manual extension set. -/
theorem setManual (h : RigLegal r) {q : PlateId} {v : Nat} (hv : v ≤ 100) :
    RigLegal { r with manual := r.manual.set q v } := by
  refine ⟨h.off, fun q' => ?_, h.queues⟩
  obtain ⟨hc, _, hrest⟩ := h.plates q'
  by_cases hq : q' = q
  · subst hq
    rw [PerPlate.get_set_same]
    exact ⟨hc, hv, hrest⟩
  · rw [PerPlate.get_set_ne _ _ hq]
    exact h.plates q'

/-- R99, R97: one command set outside OFF, handed when it differs from the one last handed. -/
theorem setCommand (h : RigLegal r) (hm : r.actual ≠ .off) {q : PlateId} {v : Nat} (hv : v ≤ 100) :
    RigLegal { r with
      commands := r.commands.set q v
      plates := r.plates.set q (if r.commands.get q = v then r.plates.get q else takeCommand v (r.plates.get q)) } := by
  refine ⟨fun ho => absurd ho hm, fun q' => ?_, h.queues⟩
  by_cases hq : q' = q
  · subst hq
    rw [PerPlate.get_set_same, PerPlate.get_set_same]
    exact PlateLegal.handed (h.plates q') hv
  · rw [PerPlate.get_set_ne _ _ hq, PerPlate.get_set_ne _ _ hq]
    exact h.plates q'

/-- One plate replaced. -/
theorem setPlate (h : RigLegal r) {q : PlateId} {x : Plate} (hx : PlateLegal (r.commands.get q) (r.manual.get q) x) :
    RigLegal { r with plates := r.plates.set q x } := by
  refine ⟨h.off, fun q' => ?_, h.queues⟩
  by_cases hq : q' = q
  · subst hq
    rw [PerPlate.get_set_same]
    exact hx
  · rw [PerPlate.get_set_ne _ _ hq]
    exact h.plates q'

/-- One queue replaced. -/
theorem setQueue (h : RigLegal r) {p : Port} {es : List Entry} (hes : ∀ e ∈ es, extensionQueued e.request = true) :
    RigLegal { r with queues := Function.update r.queues p es } := by
  refine ⟨h.off, h.plates, fun p' => ?_⟩
  by_cases hp : p' = p
  · subst hp
    simpa using hes
  · simpa [hp] using h.queues p'

end RigLegal

/-- R96, step 4. -/
theorem plateCommands_le (uy ut : Int) (q : PlateId) : (plateCommands uy ut).get q ≤ 100 := by
  cases q <;> exact Nat.min_le_left ..

/-- R90 to R92: the commands of the mode that SLU enters. -/
theorem rigLegal_steered {s : State} (h : RigLegal (rig s)) : RigLegal (rig (steered s)) := by
  have hrig : rig (steered s) = { rig s with
      actual := (steeredSlu s).actual, commands := (steeredSlu s).commands
      plates := handedPlates s.slu.commands (steeredSlu s).commands s.psv } := by
    simp only [rig, steered, steeredSlu]
    split
    · rfl
    · cases modeNow s <;> rfl
  rw [hrig]
  unfold steeredSlu
  split
  · exact h.handed h.off h.commands_le
  · cases modeNow s with
    | off => exact h.handed (fun _ => rfl) fun q => by simp [enteredSlu, noPlates_get]
    | auto | frozen => exact h.handed nofun h.commands_le
    | manual => exact h.handed nofun h.manual_le

/-- R93, R97. -/
theorem rigLegal_steerSample {s : State} (h : RigLegal (rig s)) : RigLegal (rig (steerSample s)) := by
  cases hm : s.slu.actual with
  | auto =>
    rw [steerSample_auto hm rfl]
    exact h.handed (fun ho => by simp [hm] at ho) (plateCommands_le _ _)
  | manual => rw [steerSample_manual hm]; exact h
  | off => rwa [steerSample_still (.inl hm)]
  | frozen => rwa [steerSample_still (.inr hm)]

/-! ## What leaves the helm as it was -/

/-- A port's record replaced: only its queue is read. -/
theorem rig_setPort (p : Port) (q : PortRec) (s : State) :
    rig (s.setPort p q) = { rig s with queues := Function.update (rig s).queues p q.queue } := by
  have hqueues : (rig (s.setPort p q)).queues = Function.update (rig s).queues p q.queue := by
    funext p'
    by_cases hp : p' = p
    · subst hp
      simp [rig, State.setPort]
    · simp [rig, State.setPort, hp]
  exact congrArg (fun queues => { rig s with queues := queues }) hqueues

theorem helm_setPort {p : Port} {q : PortRec} {s : State} (hq : q.queue = (s.port p).queue) :
    helm (s.setPort p q) = helm s := by
  have hrig : rig (s.setPort p q) = rig s := by
    rw [rig_setPort, hq]
    exact congrArg (fun queues => { rig s with queues := queues }) (Function.update_eq_self p _)
  exact congrArg (fun r => { helm s with rig := r }) hrig

@[simp] theorem helm_reply (k : Kind) (p : Port) (tag : Byte) (st : Status) (d : List Byte) (s : State) :
    helm (reply k p tag st d s) = helm s := helm_setPort rfl

@[simp] theorem helm_resumeCrossCheck (s : State) : helm (resumeCrossCheck s) = helm s := by
  unfold resumeCrossCheck
  split <;> rfl

@[simp] theorem helm_hear (p : Port) (s : State) : helm (hear p s) = helm s := by
  have hactive : helm (s.setPort p { s.port p with link := .active, silence := some (s.port p).timeout }) = helm s :=
    helm_setPort rfl
  unfold hear
  dsimp only
  split
  · exact hactive
  · cases p
    · exact hactive
    · rw [helm_resumeCrossCheck, hactive]
    · exact hactive

theorem helm_refused (p : Port) (e : Entry) (c : Status) (s : State) : helm (recordRefusal p e c s) = helm s :=
  helm_setPort (p := p) (q := { s.port p with
    rejection := some { kind := e.request.kind, tag := e.tag, code := c }
    refused := min 255 ((s.port p).refused + 1) }) rfl

theorem helm_raisePortLost (p : Port) (s : State) : helm (raisePortLost p s) = helm s := by cases p <;> rfl

theorem helm_handWheels (before : PerWheel WheelRec) (s : State) : helm (handWheels before s) = helm s := by
  unfold handWheels
  split <;> rfl

theorem helm_surveySample (v : SampleSet) (saturated : Bool) (s : State) :
    helm (surveySample v saturated s) = helm s := by rw [surveySample_eq]; rfl

theorem replaceScaler_sensor (scaler : Nat) (k : Scaler) (m : Mfe) : (replaceScaler scaler k m).sensor = m.sensor := by
  unfold replaceScaler
  split <;> rfl

theorem helm_surveyLoss (p : Port) (s : State) : helm (surveyLoss p s) = helm s := by simp [helm, rig]

theorem helm_stopSurvey (s : State) : helm (stopSurvey s) = helm s := by rw [stopSurvey_eq]; rfl

theorem helm_startCheck (s : State) : helm (startCheck s) = helm s := by
  unfold startCheck
  dsimp only
  split <;> simp [helm, rig]

theorem helm_setFeedRate (v : Nat) (s : State) : helm (setFeedRate v s) = helm s := by rw [setFeedRate_eq]; rfl

theorem helm_takeCeiling (qp : Nat) (s : State) : helm (takeCeiling qp s) = helm s := by
  unfold takeCeiling ceilingIntoState
  (repeat' split) <;> simp [helm, rig]

theorem helm_resetReturn (s : State) : helm (resetReturn s) = helm s := by
  unfold resetReturn leaveHold
  split <;> simp [helm, rig]

theorem helm_takeRise (low : Nat) (s : State) : helm (takeRise low s) = helm s := by
  unfold takeRise riseInHold leaveHold
  (repeat' split) <;> simp [helm, rig]

theorem helm_takeFall (s : State) : helm (takeFall s) = helm s := by
  unfold takeFall
  split <;> simp [helm, rig]

theorem helm_judgeFlow (s : State) : helm (judgeFlow s) = helm s := by
  unfold judgeFlow
  (repeat' split) <;> simp [helm, rig]

theorem helm_judgeGate (w : Wheel) (pulses : Nat) (s : State) : helm (judgeGate w pulses s) = helm s := by
  unfold judgeGate
  dsimp only
  (repeat' split) <;> simp [helm, rig]

/-- R54: the wheels as an update leaves them, before SRU steps. -/
theorem helm_restWheels (s : State) : helm (restWheels s) = helm s := by
  rw [restWheels_eq, raiseHalted_eu]
  rfl

end Sys2Proof.Machine
end

section
/-! SUPPORT. Every command and every millisecond keeps the mode as its conditions give it and the plates legal (O13,
O14). -/

namespace Sys2Proof.Machine

/-- Each of the two invariants that holds of `s` holds of `t`. -/
structure KeepsHelm (s t : State) : Prop where
  mode : ModeFollows s → ModeFollows t
  plates : RigLegal (rig s) → RigLegal (rig t)

namespace KeepsHelm

variable {a s t : State}

theorem refl (s : State) : KeepsHelm s s := ⟨id, id⟩

theorem same (h : KeepsHelm a s) (he : helm t = helm s) : KeepsHelm a t :=
  have hrig : rig t = rig s := congrArg Helm.rig he
  ⟨fun ha => (h.mode ha).congr he, fun ha => hrig ▸ h.plates ha⟩

theorem ite {c : Prop} [Decidable c] {u : State} (ht : c → KeepsHelm a t) (hu : ¬ c → KeepsHelm a u) :
    KeepsHelm a (if c then t else u) := by
  split
  · next hc => exact ht hc
  · next hc => exact hu hc

/-! ## The mode and the plates -/

/-- R89: whatever inputs of the mode have changed, the mode follows once it is re-evaluated. -/
theorem reevaluated (h : KeepsHelm a s) (he : rig t = rig s) : KeepsHelm a (reevaluate t) := by
  rw [reevaluate_eq]
  exact ⟨fun _ => (steeredSlu_actual t).trans (modeNow_steered t).symm,
    fun ha => rigLegal_steered (he ▸ h.plates ha)⟩

/-- R93, R97: SLU computes in the mode that stands. -/
theorem steerSample (h : KeepsHelm a s) : KeepsHelm a (steerSample s) := by
  have hactual : (Machine.steerSample s).slu.actual = s.slu.actual := by
    cases hm : s.slu.actual with
    | auto => rw [steerSample_auto hm rfl]; exact hm
    | manual => rw [steerSample_manual hm]; exact hm
    | off => rw [steerSample_still (.inl hm)]; exact hm
    | frozen => rw [steerSample_still (.inr hm)]; exact hm
  exact ⟨fun ha => hactual.trans ((h.mode ha).trans (modeNow_steerSample s).symm),
    fun ha => rigLegal_steerSample (h.plates ha)⟩

/-- A change of the plates, of the commands handed to them or of the queues, in the mode that stands. -/
theorem setRig (h : KeepsHelm a s) (hr : RigLegal (rig a) → RigLegal (rig s) → RigLegal (rig t))
    (he : helm t = { helm s with rig := rig t }) (hm : t.slu.actual = s.slu.actual) : KeepsHelm a t := by
  refine ⟨fun ha => ?_, fun ha => hr ha (h.plates ha)⟩
  obtain ⟨_, hstart, hchosen, hstate, hdepth, hdisagree, hsensor, hrecord⟩ := Helm.mk.inj he
  have hs := h.mode ha
  unfold ModeFollows modeNow at hs ⊢
  rw [hm, hstart, hchosen, hstate, hdepth, hdisagree, hsensor, hrecord]
  exact hs

/-- One plate replaced. -/
theorem setPlate {q : PlateId} {x : Plate} (h : KeepsHelm a s)
    (hx : ∀ v m, PlateLegal v m (s.psv.get q) → PlateLegal v m x) : KeepsHelm a { s with psv := s.psv.set q x } :=
  h.setRig (fun _ hs => hs.setPlate (hx _ _ (hs.plates q))) rfl rfl

/-- A port's record replaced, its queue with entries as clamped. -/
theorem setPort {p : Port} {q : PortRec} (h : KeepsHelm a s)
    (hq : RigLegal (rig a) → RigLegal (rig s) → ∀ e ∈ q.queue, extensionQueued e.request = true) :
    KeepsHelm a (s.setPort p q) :=
  h.setRig (fun ha hs => by rw [rig_setPort]; exact hs.setQueue (hq ha hs)) rfl rfl

theorem emptyQueue {p : Port} {q : PortRec} (h : KeepsHelm a s) (hq : q.queue = []) : KeepsHelm a (s.setPort p q) :=
  h.setPort fun _ _ => by simp [hq]

theorem raiseRefused {p : Port} (h : KeepsHelm a s) : KeepsHelm a (raiseRefused p s) := h.same rfl

/-! ## Depth (R20 to R31) -/

/-- R22: a depth update re-evaluates the mode. -/
theorem handDepth (h : KeepsHelm a s) (he : rig t = rig s) : KeepsHelm a (handDepth t) :=
  (h.reevaluated (t := surveyDepth (selectZone t.dr.depth t)) (by rw [← he]; simp [rig])).same rfl

theorem reportCount {count : Int} (h : KeepsHelm a s) : KeepsHelm a (reportCount count s) := by
  unfold Machine.reportCount
  split
  · exact h.same rfl
  all_goals exact h.handDepth (by simp [rig])

theorem takeDatum {v : Nat} (h : KeepsHelm a s) : KeepsHelm a (takeDatum v s) := h.handDepth (by simp [rig])

theorem goStale (h : KeepsHelm a s) : KeepsHelm a (goStale s) := .ite (fun _ => h.handDepth rfl) fun _ => h

theorem setDisagree {d : Bool} (h : KeepsHelm a s) : KeepsHelm a (setDisagree d s) :=
  .ite (fun _ => h) fun _ => h.reevaluated (by simp [rig])

theorem suspendCrossCheck (h : KeepsHelm a s) : KeepsHelm a (suspendCrossCheck s) := setDisagree (h.same rfl)

theorem raiseDisagree (h : KeepsHelm a s) : KeepsHelm a (raiseDisagree s) := setDisagree (h.same rfl)

theorem compareDepth (h : KeepsHelm a s) : KeepsHelm a (compareDepth s) :=
  .ite (fun _ => .ite (fun _ => raiseDisagree (h.same rfl)) fun _ => h.same rfl) fun _ =>
    .ite (fun _ => setDisagree (h.same rfl)) fun _ => h.same rfl

theorem takeHeadPressure {r : Reading} (h : KeepsHelm a s) : KeepsHelm a (takeHeadPressure r s) :=
  .ite (fun _ => compareDepth (h.same rfl)) fun _ => h.same rfl

/-! ## The sensor (R7 to R9) -/

theorem loseSensor (h : KeepsHelm a s) : KeepsHelm a (loseSensor s) := h.reevaluated (by simp [rig])

theorem takeInvalid (h : KeepsHelm a s) : KeepsHelm a (takeInvalid s) :=
  .ite (fun _ => loseSensor (h.same rfl)) fun _ => h.same rfl

/-- R8, R9: a set that leaves the sensor as it was, or one that makes it OK and the mode re-evaluated. -/
theorem takeValid {x y psi : Int} (h : KeepsHelm a s) : KeepsHelm a (takeValid x y psi s) := by
  unfold Machine.takeValid
  dsimp only
  split
  · next hsame =>
    have hset := congrArg (fun sensor => { helm s with sensor := sensor }) hsame
    exact steerSample (h.same ((helm_surveySample ..).trans hset))
  · exact (h.reevaluated (by simp [rig, endStarting])).steerSample

/-! ## The wheels (R59 to R66, R84) -/

theorem clearRecord (h : KeepsHelm a s) : KeepsHelm a (clearRecord s) := h.reevaluated (by simp [rig])

theorem abortRecovery (h : KeepsHelm a s) : KeepsHelm a (abortRecovery s) := by
  unfold Machine.abortRecovery
  split
  · exact h
  · exact h.clearRecord.same rfl

theorem haltWheels (h : KeepsHelm a s) : KeepsHelm a (haltWheels s) :=
  h.abortRecovery.same (by simp [Machine.haltWheels, helm, rig])

/-- R74: the record of a stall is an input of the mode. -/
theorem takeStall {w : Wheel} (h : KeepsHelm a s) : KeepsHelm a (takeStall w s) := by
  have hmode : KeepsHelm a (reevaluate (judgeRecovery (stalled w s))) := h.reevaluated (by simp [rig, stalled])
  exact hmode.same (helm_handWheels ..)

/-! ## A posted request applied (R185) -/

/-- R99: a manual extension as clamped is offered, and in MANUAL handed. -/
theorem setManual {n v : Nat} (h : KeepsHelm a s) (hv : RigLegal (rig a) → v ≤ 100)
    (ht : applySetPlate n v s = .ok t) : KeepsHelm a t := by
  cases hn : plateNamed n with
  | none => simp [applySetPlate, hn] at ht
  | some q =>
    rw [applySetPlate_eq hn] at ht
    split at ht <;> cases ht
    split
    · next hm =>
      exact h.setRig (fun ha hs => (hs.setManual (hv ha)).setCommand (by simp [rig, hm]) (hv ha)) rfl rfl
    · exact h.setRig (fun ha hs => hs.setManual (hv ha)) rfl rfl

theorem clearPlate {n : Nat} (h : KeepsHelm a s) (ht : applyClearPlate n s = .ok t) : KeepsHelm a t := by
  cases hn : plateNamed n with
  | none => simp [applyClearPlate, hn] at ht
  | some q =>
    rw [applyClearPlate_eq hn] at ht
    split at ht <;> cases ht
    exact h.setRig (fun _ hs => hs.setPlate
      (plateLegal_takeCommand (hs.runs q).free (hs.commands_le q) (hs.manual_le q))) rfl rfl

theorem applied {p : Port} {r : Posted} (h : KeepsHelm a s) (hr : RigLegal (rig a) → extensionQueued r = true)
    (ht : applyPosted p r s = .ok t) : KeepsHelm a t := by
  cases r
  case setSteerMode =>
    simp only [applyPosted, applySetSteerMode] at ht
    split at ht <;> cases ht <;> exact h.reevaluated rfl
  case setSteerGains =>
    simp only [applyPosted, applySetSteerGains] at ht
    split at ht <;> cases ht
    split
    · next hstart => exact h.same (by simp [helm, rig, hstart])
    · exact h.reevaluated rfl
  case setPlate => exact h.setManual (fun ha => of_decide_eq_true (hr ha)) ht
  case clearPlate => exact h.clearPlate ht
  case setPortTimeout =>
    simp only [applyPosted, applySetPortTimeout] at ht
    (repeat' split at ht) <;> cases ht
    exact h.same (helm_setPort rfl)
  case setPumpDemand =>
    rw [applyPosted, applySetPumpDemand_eq] at ht
    cases ht
    refine h.same ?_
    (repeat' split) <;> simp [demanded, helm, rig]
  case setScaler =>
    simp only [applyPosted, applySetScaler] at ht
    (repeat' split at ht) <;> cases ht
    exact h.same (by simp [helm, rig, replaceScaler_sensor])
  case setWheelDemand | setRamp | setTrimManual => cases ht; exact h.same rfl
  all_goals
    simp only [applyPosted, applySetDepthCheck, applyLoadZone, applyDropZone, applySetFallbackSpeed,
      applyClearJam, applySetRecovery, applySetTransport, applyAckEvents, applySetEventEnables, applySetAlertLine,
      applySetMarkWidth] at ht
    (repeat' split at ht) <;> cases ht <;> exact h.same (by simp [helm, rig])

theorem applyEntry {p : Port} {e : Entry} (h : KeepsHelm a s)
    (he : RigLegal (rig a) → extensionQueued e.request = true) : KeepsHelm a (applyEntry p e s) := by
  unfold Machine.applyEntry
  split
  · next ht => exact h.applied he ht
  · exact h.same (helm_refused ..)

/-! ## The posted queues (R184 to R186) -/

/-- Entries that carry extensions as clamped are applied, or stand in the queue. -/
theorem drainList {p : Port} {es : List Entry} (h : KeepsHelm a s)
    (hes : RigLegal (rig a) → ∀ e ∈ es, extensionQueued e.request = true) : KeepsHelm a (drainList p es s) := by
  induction es generalizing s with
  | nil => exact h.setPort fun ha _ => hes ha
  | cons e es ih =>
    exact .ite (fun _ => h.setPort fun ha _ => hes ha) fun _ =>
      ih (h.applyEntry fun ha => (List.forall_mem_cons.1 (hes ha)).1) fun ha => (List.forall_mem_cons.1 (hes ha)).2

theorem drain {p : Port} (h : KeepsHelm a s) : KeepsHelm a (drain p s) :=
  h.drainList fun ha => (h.plates ha).queues p

theorem releaseHead {concerns : Posted → Bool} (h : KeepsHelm a s) : KeepsHelm a (releaseHead concerns s) := by
  unfold Machine.releaseHead
  split
  · exact .ite (fun _ => h.drain) fun _ => h
  · exact h

theorem joinQueue {p : Port} {e : Entry} (h : KeepsHelm a s) (he : extensionQueued e.request = true) :
    KeepsHelm a (joinQueue p e s) := by
  have hone : ∀ e' ∈ [e], extensionQueued e'.request = true := fun e' hm => List.mem_singleton.1 hm ▸ he
  refine .ite (fun _ => h.drainList fun _ => hone) fun _ => h.setPort fun _ hs e' hm => ?_
  exact (List.mem_append.1 hm).elim (hs.queues p e') (hone e')

/-! ## The governor update and the recovery (R54, R75) -/

/-- R81, R82: an end of a recovery clears the record, releases the head it held and notes the outcome. -/
theorem ended {e : Event} {how : RecoveryEnd} {r : Recovery} (h : KeepsHelm a s) :
    KeepsHelm a (raise e (setOutcome how r (releaseRecovery (Machine.clearRecord s)))) := by
  have hreleased : KeepsHelm a (releaseRecovery (Machine.clearRecord s)) := releaseHead h.clearRecord
  exact hreleased.same rfl

theorem endRecovered {r : Recovery} (h : KeepsHelm a s) : KeepsHelm a (endRecovered r s) := ended (h.same rfl)

theorem endJammed {r : Recovery} (h : KeepsHelm a s) : KeepsHelm a (endJammed r s) := ended (h.same rfl)

/-- R81: another burst is one of the record that stands. -/
theorem failBurst {r : Recovery} (h : KeepsHelm a s) (hr : s.sru.record.isSome = true) :
    KeepsHelm a (failBurst r s) :=
  .ite (fun _ => h.same (by simp [State.setRecord, helm, rig, hr])) fun _ => h.endJammed

/-- R75, steps 2 to 4. -/
theorem driveRecovery {r : Recovery} (h : KeepsHelm a s) (hr : s.sru.record.isSome = true) :
    KeepsHelm a (driveRecovery r s) := by
  have hmoved (v : WheelRec) (r2 : Recovery) : KeepsHelm a ((s.setWheel r.wheel v).setRecord (some r2)) :=
    h.same (by simp [State.setRecord, helm, rig, hr])
  exact .ite (fun _ => failBurst (hmoved _ _) rfl) fun _ => hmoved _ _

theorem stepRecovery {r : Recovery} (h : KeepsHelm a s) (hr : s.sru.record.isSome = true) :
    KeepsHelm a (stepRecovery r s) := by
  unfold Machine.stepRecovery
  dsimp only
  (repeat' split)
  · exact h.driveRecovery hr
  · exact h.endRecovered
  · exact h.driveRecovery hr

theorem takeStalls (h : KeepsHelm a s) : KeepsHelm a (takeStalls s) := by
  unfold Machine.takeStalls
  split
  · exact h.takeStall
  · exact h

/-- R54: the update, whole. A recovery that stood at its start stands until SRU steps it. -/
theorem governorStep {pa pb : Int} (h : KeepsHelm a s) : KeepsHelm a (governorStep pa pb s) := by
  have hg : KeepsHelm a (governed pa pb s) := h.same rfl
  have hr : KeepsHelm a (restWheels (Machine.takeStalls (governed pa pb s))) := hg.takeStalls.same (helm_restWheels _)
  have hstep : KeepsHelm a (stepSru s (restWheels (Machine.takeStalls (governed pa pb s)))) := by
    unfold stepSru
    split
    · exact hr
    · next r hrec =>
      refine .ite (fun _ => hr.stepRecovery ?_) fun _ => hr
      rw [takeStalls_recovering (governed_record.trans hrec), restWheels_sru, governed_record, hrec]
      rfl
  rw [governorStep_eq]
  exact hstep.same (helm_handWheels ..)

theorem phaseTimerExpiry (h : KeepsHelm a s) : ∃ t, execPhaseTimerExpiry s = .next t ∧ KeepsHelm a t := by
  refine ⟨_, rfl, ?_⟩
  split
  · exact h
  · next r hr =>
    refine .ite (fun _ => ?_) fun _ => h
    split
    · exact h.same (by simp [State.setRecord, helm, rig, hr])
    · exact h.endRecovered

theorem burstStallTimerExpiry (h : KeepsHelm a s) : ∃ t, execBurstStallTimerExpiry s = .next t ∧ KeepsHelm a t := by
  refine ⟨_, rfl, ?_⟩
  split
  · exact h
  · next r hr => exact .ite (fun _ => h.failBurst (by rw [hr]; rfl)) fun _ => h

/-! ## Requests (R177, R182, R187) -/

theorem hear {p : Port} (h : KeepsHelm a s) : KeepsHelm a (hear p s) := h.same (helm_hear ..)

theorem reply {k : Kind} {p : Port} {tag : Byte} {st : Status} {d : List Byte} (h : KeepsHelm a s) :
    KeepsHelm a (reply k p tag st d s) := h.same (helm_reply ..)

theorem receive {k : Kind} {p : Port} {tag : Byte} {d : List Byte} {body : State → State} (h : KeepsHelm a s)
    (hb : ∀ t, KeepsHelm a t → KeepsHelm a (body t)) : KeepsHelm a (receive k p tag d body s) :=
  .ite (fun _ => h.hear.reply) fun _ => .ite (fun _ => h.hear.reply) fun _ => .ite (fun _ => h.hear.reply) fun _ =>
    hb _ h.hear

/-- A request whose effect leaves what the two invariants read as it was. -/
theorem receive_same {k : Kind} {p : Port} {tag : Byte} {d : List Byte} {body : State → State} (h : KeepsHelm a s)
    (hb : ∀ t, helm (body t) = helm t) : KeepsHelm a (Machine.receive k p tag d body s) :=
  h.receive fun t ht => ht.same (hb t)

/-- R184: an entry that joins a queue joins it as clamped. -/
theorem post {k : Kind} {p : Port} {tag : Byte} {d : List Byte} {make : State → Posted × Bool} (h : KeepsHelm a s)
    (hm : ∀ t, extensionQueued (make t).1 = true) : KeepsHelm a (post k p tag d make s) :=
  h.receive fun _ ht => .ite (fun _ => ht.reply) fun _ => ht.reply.joinQueue (hm _)

theorem runRequest {k : Kind} {p : Port} {tag : Byte} {d : List Byte} {refusal : State → Option Status}
    {effect : State → State} (h : KeepsHelm a s) (he : ∀ t, helm (effect t) = helm t) :
    KeepsHelm a (runRequest k p tag d refusal effect s) := by
  refine h.receive_same fun t => ?_
  (repeat' split) <;> simp [he]

theorem setDatum (h : KeepsHelm a s) (p : Port) (tag : Byte) (d : List Byte) :
    ∃ t, execSetDatum p tag d s = .next t ∧ KeepsHelm a t := by
  refine ⟨_, rfl, h.receive fun t ht => ?_⟩
  split
  · exact ht.reply
  · exact ht.takeDatum.reply

theorem haltTaken (h : KeepsHelm a s) : KeepsHelm a (haltTaken s) :=
  .ite (fun _ => h.haltWheels.releaseHead) fun _ => h.haltWheels

/-- R103, R115, R191: a restart empties the queues, commands every plate in and takes the mode as its conditions give
it. -/
theorem restartHub (h : KeepsHelm a s) : KeepsHelm a (restartHub s) := by
  have ht := restartHub_eq (s := s) rfl rfl
  rw [restarting_eq] at ht
  generalize Machine.restartHub s = t at ht
  refine ⟨fun _ => ?_, fun ha => ?_⟩
  · unfold ModeFollows
    generalize modeNow t = m at ht
    rw [ht]
  · have hs := h.plates ha
    have hslu : t.slu.commands = noPlates ∧ t.slu.manualPlates = noPlates := by rw [ht]; exact ⟨rfl, rfl⟩
    have hpsv : t.psv = (restartPsv s).psv := by rw [ht]; rfl
    have hpi : t.pi = (restartPi s).pi := by rw [ht]
    obtain ⟨hcommands, hmanual⟩ := hslu
    refine ⟨fun _ => hcommands, fun q => ?_, fun p e he => ?_⟩
    · simp only [rig, hcommands, hmanual, hpsv, restartPsv_get, noPlates_get]
      exact (hs.runs q).restart
    · have hqueue : (rig t).queues p = [] := by
        change (t.port p).queue = []
        rw [State.port, hpi, ← State.port, restartPi_port]
        rfl
      rw [hqueue] at he
      cases he

/-! ## The hub's own events -/

theorem powered (ready : Bool) (s : State) (pending : List Instr) (free : Nat) :
    KeepsHelm s { State.powered ready with pending := pending, free := free } := by
  have hm : ModeFollows (State.powered ready) := rfl
  have hp : PlatesLegal (State.powered ready) := by cases ready <;> decide
  exact ⟨fun _ => hm, fun _ => (platesLegal_iff _).1 hp⟩

theorem postedHeadApply (h : KeepsHelm a s) (p : Port) : ∃ t, execPostedHeadApply p s = .next t ∧ KeepsHelm a t := by
  refine ⟨_, rfl, ?_⟩
  split
  · exact h
  · exact .ite (fun _ => h) fun _ => h.drain

/-- R186: the entries behind a head that is given up become heads in turn. -/
theorem holdTimerExpiry (h : KeepsHelm a s) (p : Port) : ∃ t, execHoldTimerExpiry p s = .next t ∧ KeepsHelm a t := by
  refine ⟨_, rfl, ?_⟩
  split
  · next hq =>
    refine drainList (h.same (helm_refused ..)) fun ha e he => (h.plates ha).queues p e ?_
    have hqueue : (rig s).queues p = _ := hq
    rw [hqueue]
    exact List.mem_cons_of_mem _ he
  · exact h

/-- R105: each plate takes its reading. -/
theorem samplePlates {n1 n2 s1 s2 : Int} (h : KeepsHelm a s) :
    KeepsHelm a { s with psv := { n1 := samplePlate n1 s.psv.n1, n2 := samplePlate n2 s.psv.n2
                                  s1 := samplePlate s1 s.psv.s1, s2 := samplePlate s2 s.psv.s2 } } :=
  h.setRig (fun _ hs => ⟨hs.off, fun q => by cases q <;> exact PlateLegal.sample (hs.plates _) _, hs.queues⟩) rfl rfl

theorem handEnd {q : PlateId} {before : PerPlate Plate} (h : KeepsHelm a s) : KeepsHelm a (handEnd q before s) :=
  .ite (fun _ => h.releaseHead) fun _ => h

theorem plateStep {n1 n2 s1 s2 : Int} (h : KeepsHelm a s) : KeepsHelm a (plateStep n1 n2 s1 s2 s) :=
  h.samplePlates.handEnd.handEnd.handEnd.handEnd

theorem losePort {p : Port} (h : KeepsHelm a s) : KeepsHelm a (losePort p s) :=
  .ite (fun _ => h.emptyQueue rfl) fun _ => raiseRefused (h.emptyQueue rfl)

theorem handLoss {p : Port} (h : KeepsHelm a s) : KeepsHelm a (handLoss p s) := by
  cases p
  · exact h.haltWheels.same rfl
  · exact h.suspendCrossCheck
  · exact h.goStale

theorem silence {p : Port} (h : KeepsHelm a s) :
    KeepsHelm a (surveyLoss p (Machine.handLoss p (raisePortLost p (Machine.losePort p s)))) := by
  have hlost : KeepsHelm a (raisePortLost p (Machine.losePort p s)) := h.losePort.same (helm_raisePortLost ..)
  exact (handLoss (p := p) hlost).same (helm_surveyLoss ..)

/-- R106: a move timer that runs on is one of the same move. -/
theorem tick (s : State) : KeepsHelm s (tick s) := by
  refine (refl s).setRig (fun _ hs => ⟨hs.off, fun q => ?_, fun p => ?_⟩) rfl rfl
  · cases q <;> exact PlateLegal.tick (hs.plates _)
  · cases p
    · exact hs.queues .cabin
    · exact hs.queues .plant
    · exact hs.queues .hoist

/-! ## Every command -/

/-- What a command answers keeps the two invariants. -/
theorem exec (c : Instr) (s : State) : ∃ t, exec c s = .next t ∧ KeepsHelm s t := by
  have h := refl s
  cases c with
  | powerOn ready => exact ⟨_, rfl, powered ready s _ _⟩
  | badFrame => exact ⟨_, rfl, .ite (fun _ => h.same (helm_setPort rfl)) fun _ => h⟩
  | unknownKind => exact ⟨_, rfl, h.hear.same (helm_setPort rfl)⟩
  | setPlate => exact ⟨_, rfl, h.post fun _ => decide_eq_true (Nat.min_le_right ..)⟩
  | setScaler | setDepthCheck | loadZone | dropZone | setWheelDemand | setRamp | setFallbackSpeed | clearJam
  | setRecovery | setSteerMode | setTrimManual | setSteerGains | clearPlate | setPumpDemand
  | setTransport | setPortTimeout | ackEvents | setEventEnables | setAlertLine | setMarkWidth =>
    exact ⟨_, rfl, h.post fun _ => rfl⟩
  | queryMeasurements | queryDepth | queryDemand | queryWheels | queryRecovery | querySteering | queryPlates
  | querySurvey | queryStatus | queryEvents => exact ⟨_, rfl, h.receive_same fun _ => helm_reply ..⟩
  | queryPort | queryCheck | queryReturn | surveyClaim | surveyRelease =>
    refine ⟨_, rfl, h.receive_same fun t => ?_⟩
    (repeat' split) <;> exact helm_reply ..
  | queryZone | reportDensity =>
    refine ⟨_, rfl, h.receive_same fun t => ?_⟩
    dsimp only
    (repeat' split) <;> exact helm_reply ..
  | testInject | readNext | surveyWindow =>
    refine ⟨_, rfl, h.receive_same fun t => ?_⟩
    dsimp only
    (repeat' split) <;> simp [helm_setPort]
  | reportRopeCount => exact ⟨_, rfl, h.receive fun _ ht => ht.reportCount.reply⟩
  | setDatum p tag d => exact h.setDatum p tag d
  | halt => exact ⟨_, rfl, h.receive fun _ ht => ht.haltTaken.reply⟩
  | releaseHalt =>
    exact ⟨_, rfl, h.receive fun _ ht => .ite (fun _ => ht.reply) fun _ =>
      reply (ht.same (by simp [releaseWheels, helm, rig]))⟩
  | surveyConfig | surveyClear | surveySetPointer => exact ⟨_, rfl, h.runRequest fun _ => rfl⟩
  | surveyStart => exact ⟨_, rfl, h.runRequest fun t => by simp [startSurvey, helm, rig]⟩
  | surveyStop => exact ⟨_, rfl, h.runRequest helm_stopSurvey⟩
  | surveyCheck => exact ⟨_, rfl, h.runRequest helm_startCheck⟩
  | setPlantCeiling => exact ⟨_, rfl, h.receive fun t ht => reply (ht.same (helm_takeCeiling ..))⟩
  | resetReturn =>
    exact ⟨_, rfl, h.receive fun t ht => .ite (fun _ => ht.reply) fun _ => reply (ht.same (helm_resetReturn _))⟩
  | headRestart => exact ⟨_, rfl, h.receive fun _ ht => ht.reply.restartHub⟩
  | postedHeadApply p => exact h.postedHeadApply p
  | holdTimerExpiry p => exact h.holdTimerExpiry p
  | sampleSlot =>
    refine ⟨_, rfl, ?_⟩
    split
    · exact h.takeInvalid
    · exact h.takeInvalid
    · exact h.takeInvalid
    · exact h.takeValid
  | sensorLost => exact ⟨_, rfl, .ite (fun _ => loseSensor (h.same rfl)) fun _ => h⟩
  | tachGateEnd => exact ⟨_, rfl, h.same (helm_judgeGate ..)⟩
  | flowGateEnd => exact ⟨_, rfl, h.same (helm_judgeFlow _)⟩
  | governorUpdate => exact ⟨_, rfl, h.governorStep⟩
  | headPressureSample => exact ⟨_, rfl, h.takeHeadPressure⟩
  | plateSample => exact ⟨_, rfl, h.plateStep⟩
  | snapshotIntervalExpiry =>
    exact ⟨_, rfl, .ite (fun _ => h.same (helm_setFeedRate ..)) fun _ => h.same rfl⟩
  | stallTimerExpiry => exact ⟨_, rfl, .ite (fun _ => h.takeStall) fun _ => h⟩
  | tachFault => exact ⟨_, rfl, .ite (fun _ => h.same (by simp [helm, rig])) fun _ => h⟩
  | depthDisagree => exact ⟨_, rfl, .ite (fun _ => raiseDisagree (h.same rfl)) fun _ => h⟩
  | disagreeClear => exact ⟨_, rfl, .ite (fun _ => setDisagree (h.same rfl)) fun _ => h⟩
  | phaseTimerExpiry => exact h.phaseTimerExpiry
  | burstStallTimerExpiry => exact h.burstStallTimerExpiry
  | settleTimerExpiry =>
    exact ⟨_, rfl, .ite (fun ⟨hm, _⟩ => releaseHead (h.setPlate fun _ _ hl => hl.settle hm)) fun _ => h⟩
  | moveTimerExpiry =>
    exact ⟨_, rfl, .ite (fun _ => releaseHead (same (h.setPlate fun _ _ hl => hl.stick) rfl)) fun _ => h⟩
  | primingTimerExpiry | starvationCountExpiry =>
    exact ⟨_, rfl, .ite (fun _ => h.same (by simp [helm, rig])) fun _ => h⟩
  | plantReadyRise => exact ⟨_, rfl, .ite (fun _ => h) fun _ => h.same (helm_takeRise ..)⟩
  | plantReadyFall => exact ⟨_, rfl, .ite (fun _ => h.same (helm_takeFall _)) fun _ => h⟩
  | silenceTimerExpiry => exact ⟨_, rfl, .ite (fun _ => h.silence) fun _ => h⟩
  | startUpTimerExpiry => exact ⟨_, rfl, .ite (fun _ => h.same rfl) fun _ => h⟩
  | widthTimerExpiry => exact ⟨_, rfl, h.same rfl⟩

end KeepsHelm

/-- A step, of a command or of a millisecond, keeps the two invariants. -/
theorem step_keepsHelm {s t : State} (h : step s = .next t) : KeepsHelm s t := by
  unfold step at h
  split at h
  · cases h
    exact .tick s
  · next c rest _ =>
    have hr : KeepsHelm s { s with pending := rest } := (KeepsHelm.refl s).same rfl
    obtain ⟨u, hu, hk⟩ := KeepsHelm.exec c { s with pending := rest }
    cases hu.symm.trans h
    exact ⟨hk.mode ∘ hr.mode, hk.plates ∘ hr.plates⟩

/-- Settles O13: every operation that changes an input of the mode (R88) ends in its re-evaluation (`reevaluated`), and
no other operation changes the mode. -/
theorem modeFollowsKept : Obligations.ModeFollowsKept :=
  fun _ _ hs h => (step_keepsHelm h).mode hs

/-- Settles O14: SLU hands commands as clamped (`RigLegal.handed`), all 0 when it enters OFF, and each operation on a
plate keeps its timers with its move (`plateLegal_takeCommand`, `PlateLegal.sample`). -/
theorem platesLegalKept : Obligations.PlatesLegalKept :=
  fun s t hs h => (platesLegal_iff t).2 ((step_keepsHelm h).plates ((platesLegal_iff s).1 hs))

end Sys2Proof.Machine
end

section
/-! SUPPORT. The plates' own events (O58): one plate at a sample, the two timers of a move, and the head that a move
held. -/

namespace Sys2Proof.Machine

/-! ## One plate at a sample (R105 to R107) -/

theorem extensionOf_eq (v : Int) :
    extensionOf v = { value := (max 0 (min v 100)).toNat, saturated := decide (v < 0 ∨ 100 < v) } := by
  rw [extensionOf, clampNat_eq]
  rfl

/-- R106: the band as a distance. -/
theorem outsideBand_eq (c e : Nat) : outsideBand c e = decide (2 < ((c : Int) - e).natAbs) := by
  rw [outsideBand, Bool.eq_iff_iff, Bool.or_eq_true, decide_eq_true_iff, decide_eq_true_iff, decide_eq_true_iff]
  omega

/-- R107: the settle timer starts inside the band, and its 300 ms are up at the sample that finds it at 200. -/
theorem judgeSettle_eq (q : Plate) : judgeSettle q =
    if outsideBand q.command q.extension.value then { q with settleTimer := none }
    else if q.settleTimer = none then { q with settleTimer := some 0 }
    else if 200 ≤ timeOf q.settleTimer then settlePlate q
    else { q with settleTimer := q.settleTimer.map (· + 100) } := by
  unfold judgeSettle
  refine if_congr Iff.rfl rfl ?_
  cases q.settleTimer with
  | none => rfl
  | some t =>
    have hup : 300 ≤ t + 100 ↔ 200 ≤ timeOf (some t) := Nat.add_le_add_iff_right (m := 200) (k := t) (n := 100)
    rw [if_neg (Option.some_ne_none t)]
    exact if_congr hup rfl rfl

section
variable {v : Int} {q : Plate}

theorem samplePlate_settled (h : q.move = .settled) :
    samplePlate v q = judgeBegin { q with extension := extensionOf v } := by
  rw [samplePlate, h]

theorem samplePlate_moving (h : q.move = .moving) :
    samplePlate v q = judgeSettle { q with extension := extensionOf v } := by
  rw [samplePlate, h]

theorem samplePlate_stuck (h : q.move = .stuck) : samplePlate v q = { q with extension := extensionOf v } := by
  rw [samplePlate, h]

end

/-! ## The head that a move held (R110, R186) -/

section
variable {q : PlateId} {s : State}

theorem releaseHead_unheld {concerns : Posted → Bool} (h : s.pi.ports.cabin.hold = none) :
    releaseHead concerns s = s := by
  rw [releaseHead, h]

theorem releaseHead_held {concerns : Posted → Bool} {e : Entry} {es : List Entry}
    (hh : s.pi.ports.cabin.hold.isSome = true) (hq : s.pi.ports.cabin.queue = e :: es)
    (he : concerns e.request = true) : releaseHead concerns s = drainList .cabin (e :: es) s := by
  obtain ⟨n, hn⟩ := Option.isSome_iff_exists.1 hh
  rw [releaseHead, hn, hq]
  dsimp only
  rw [if_pos he, ← hq]
  rfl

/-- R186: the one head that a plate held leaves the queue once the plate does not move. -/
theorem releasePlate_alone {plate v : Nat} {tag : Byte} (hn : plateNamed plate = some q)
    (hq : s.pi.ports.cabin.queue = [{ request := .setPlate plate v, tag := tag }])
    (hh : s.pi.ports.cabin.hold.isSome = true) (hm : (s.psv.get q).move ≠ .moving) :
    (releasePlate q s).pi.ports.cabin.queue = [] ∧ (releasePlate q s).pi.ports.cabin.hold = none := by
  have hfree : held (.setPlate plate v) s = false :=
    held_setPlate fun q' hq' => Option.some.inj (hn.symm.trans hq') ▸ hm
  rw [releasePlate, releaseHead_held hh hq (decide_eq_true hn), drainList, hfree]
  exact ⟨rfl, rfl⟩

theorem handEnd_unheld {before : PerPlate Plate} (h : s.pi.ports.cabin.hold = none) : handEnd q before s = s := by
  rw [handEnd, releasePlate, releaseHead_unheld h, ite_self]

end

/-! ## The four plates at a sample -/

/-- R105: each plate judged by its own reading. -/
def sampledPlates (v : PerPlate Int) (p : PerPlate Plate) : PerPlate Plate :=
  { n1 := samplePlate v.n1 p.n1, n2 := samplePlate v.n2 p.n2, s1 := samplePlate v.s1 p.s1, s2 := samplePlate v.s2 p.s2 }

theorem sampledPlates_get (v : PerPlate Int) (p : PerPlate Plate) (q : PlateId) :
    (sampledPlates v p).get q = samplePlate (v.get q) (p.get q) := by
  cases q <;> rfl

theorem exec_plateSample {v : PerPlate Int} {s : State} (h : s.pi.ports.cabin.hold = none) :
    exec (.plateSample v.n1 v.n2 v.s1 v.s2) s = .next { s with psv := sampledPlates v s.psv } := by
  have hend (q : PlateId) : handEnd q s.psv { s with psv := sampledPlates v s.psv } =
      { s with psv := sampledPlates v s.psv } := handEnd_unheld h
  calc exec (.plateSample v.n1 v.n2 v.s1 v.s2) s
      = .next (handEnd .s2 s.psv (handEnd .s1 s.psv (handEnd .n2 s.psv (handEnd .n1 s.psv
          { s with psv := sampledPlates v s.psv })))) := rfl
    _ = .next { s with psv := sampledPlates v s.psv } := by rw [hend, hend, hend, hend]

/-! ## The timers of a move (R107, R108) -/

section
variable {q : PlateId} {s : State}

theorem exec_settleTimerExpiry_idle (h : (s.psv.get q).move ≠ .moving ∨ (s.psv.get q).settleTimer = none) :
    exec (.settleTimerExpiry q) s = .next s := by
  refine congrArg _ (if_neg ?_)
  rintro ⟨hm, ht⟩
  rcases h with h | h
  · exact h hm
  · simp [h] at ht

theorem exec_settleTimerExpiry (hm : (s.psv.get q).move = .moving) (ht : (s.psv.get q).settleTimer.isSome = true) :
    exec (.settleTimerExpiry q) s =
      .next (releasePlate q { s with psv := s.psv.set q (settlePlate (s.psv.get q)) }) :=
  congrArg _ (if_pos ⟨hm, ht⟩)

theorem exec_moveTimerExpiry_idle (h : (s.psv.get q).move ≠ .moving) : exec (.moveTimerExpiry q) s = .next s :=
  congrArg _ (if_neg h)

theorem exec_moveTimerExpiry (hm : (s.psv.get q).move = .moving) :
    exec (.moveTimerExpiry q) s = .next (releasePlate q
      { s with psv := s.psv.set q (stickPlate (s.psv.get q)), eu := latchAll .plateStuck s.eu }) := by
  have hraise := raise_eq (e := .plateStuck) (by decide) { s with psv := s.psv.set q (stickPlate (s.psv.get q)) }
  rw [← hraise]
  exact congrArg _ (if_pos hm)

end

/-- Settles O58: without a held head an event is its effect on the plates alone (`releaseHead_unheld`); with one, the
plate whose move has ended no longer holds it (`releasePlate_alone`). -/
theorem plateEvents : Obligations.PlateEvents := by
  refine ⟨fun n1 n2 s1 s2 s hh => ⟨_, exec_plateSample (v := ⟨n1, n2, s1, s2⟩) hh, rfl,
      fun q v p e hv hp he x out hx hout => ?_⟩, fun q s p hp => ?_,
    fun q s plate v tag hn hq hh hm => ⟨?_, fun ht => ?_⟩⟩
  · have hread : extensionOf v = x := by rw [extensionOf_eq, hx, he]
    have hband : outsideBand p.command x.value = out := by rw [hout, outsideBand_eq, hx]
    have hreading : PerPlate.get ⟨n1, n2, s1, s2⟩ q = v := by
      rw [hv]
      cases q <;> rfl
    have hget : (sampledPlates ⟨n1, n2, s1, s2⟩ s.psv).get q = samplePlate v p := by
      rw [sampledPlates_get, hreading, hp]
    refine ⟨fun hm => ?_, fun hm => ?_, fun hm => ?_⟩
    · rw [hget, samplePlate_settled hm, hread, judgeBegin, hband]
      rfl
    · rw [hget, samplePlate_moving hm, hread, judgeSettle_eq, hband]
      rfl
    · rw [hget, samplePlate_stuck hm, hread]
  · subst hp
    refine ⟨exec_settleTimerExpiry_idle, fun hm ht hh => ?_, exec_moveTimerExpiry_idle, fun hm hh v hv => ?_⟩
    · exact (exec_settleTimerExpiry hm ht).trans (congrArg _ (releaseHead_unheld hh))
    · subst hv
      exact (exec_moveTimerExpiry hm).trans (congrArg _ (releaseHead_unheld hh))
  · exact ⟨_, exec_moveTimerExpiry hm, releasePlate_alone hn hq hh (by simp [stickPlate])⟩
  · exact ⟨_, exec_settleTimerExpiry hm ht, releasePlate_alone hn hq hh (by simp [settlePlate])⟩

end Sys2Proof.Machine
end

section
/-! SUPPORT. The closed forms of a run's operations: a segment opened, a record written, the table full, the boundaries
a depth update closes (R129 to R135). -/

namespace Sys2Proof.Machine

/-! ## The requests taken (R120, R123 to R126, R143) -/

/-- A list of checks refuses nothing when its first check passes and the rest refuses nothing. -/
theorem refusal_none {c : Prop} [Decidable c] {a : Status} {o : Option Status} :
    (if c then some a else o) = none ↔ ¬ c ∧ o = none := by
  by_cases hc : c <;> simp [hc]

theorem releaseRefusal_none (p : Port) (u : Su) :
    releaseRefusal p u = none ↔ u.claimant = some p ∧ u.state.running = false := by
  simp only [releaseRefusal, refusal_none]
  simp

theorem configRefusal_none (d : List Byte) (s : State) :
    configRefusal d s = none ↔ s.su.state.running = false ∧ s.su.state ≠ .full ∧
      configOk (natAt d 0) (natAt d 4) (natAt d 8) (natAt d 12) = true := by
  simp only [configRefusal, refusal_none]
  simp

theorem runningRefusal_none (s : State) : runningRefusal s = none ↔ s.su.state.running = false := by
  simp only [runningRefusal, refusal_none]
  simp

theorem pointerRefusal_none (n : Nat) (s : State) :
    pointerRefusal n s = none ↔ s.su.state.running = false ∧ n ≤ s.su.records.length := by
  simp only [pointerRefusal, refusal_none]
  simp [Su.pointer]

theorem startRefusal_none (s : State) :
    startRefusal s = none ↔ s.su.state.running = false ∧ s.su.state ≠ .full ∧ s.su.records.length < 1024 ∧
      s.dr.state = .valid := by
  simp only [startRefusal, refusal_none]
  simp [Su.pointer]

theorem checkRefusal_none (s : State) :
    checkRefusal s = none ↔ (s.su.state = .closed ∨ s.su.state = .full) ∧ s.su.records ≠ [] ∧ s.dr.state = .valid := by
  simp only [checkRefusal, refusal_none]
  simp [Su.pointer, or_iff_not_imp_left]

/-! ## One segment (R129, R132, R135) -/

/-- R129. -/
theorem openedSegment_eq {s : State} {top : Nat} {z : ZoneEntry} (hz : z = zoneAt s top) :
    openedSegment s top =
      { top := top, length := if z.selector = .l0 then s.su.l0 else s.su.l1, selector := z.selector, cls := z.cls
        count := 0, sumX := 0, sumY := 0, sumPsi := 0
        flags := { noFlags with held := decide (s.su.state = .holding) } } := by
  subst hz
  rw [openedSegment]
  cases (zoneAt s top).selector <;> rfl

/-- R132, R134, R199. -/
theorem writeRecord_eq (g : Segment) (bottom : Nat) (short : Bool) (s : State) :
    writeRecord g bottom short s = { s with
      su := { s.su with
        records := s.su.records ++ [closedRecord s g bottom short], segment := none
        rx := s.su.rx + (closedRecord s g bottom short).meanX * ((bottom : Int) - g.top)
        ry := s.su.ry + (closedRecord s g bottom short).meanY * ((bottom : Int) - g.top) }
      eu := startMark (latchAll .segmentClosed s.eu) } := rfl

@[simp] theorem writeRecord_pointer (g : Segment) (bottom : Nat) (short : Bool) (s : State) :
    (writeRecord g bottom short s).su.pointer = s.su.records.length + 1 := by
  simp [writeRecord_eq, Su.pointer]

/-- R135. -/
theorem fillTable_eq (s : State) :
    fillTable s = { s with
      su := { s.su with state := if s.su.claimant = none then .idle else .full, segment := none }
      eu := latchAll .surveyFull s.eu } := by
  rw [fillTable, raise_eq (by decide)]
  cases s.su.claimant <;> rfl

/-! ## The boundaries passed (R132, R134) -/

section
variable {n : Nat} {s : State} {g : Segment}

theorem closePassed_none (hg : s.su.segment = none) : closePassed n s = s := by
  cases n with
  | zero => rfl
  | succ n => simp only [closePassed, hg]

theorem closePassed_within (hg : s.su.segment = some g) (hd : s.dr.depth < g.top + g.length) : closePassed n s = s := by
  cases n with
  | zero => rfl
  | succ n =>
    rw [closePassed, hg]
    exact if_neg (Nat.not_le.2 hd)

theorem closePassed_next (hg : s.su.segment = some g) (hd : g.top + g.length ≤ s.dr.depth)
    (hroom : s.su.records.length < 1023) :
    closePassed (n + 1) s =
      closePassed n (openSegment (g.top + g.length) (writeRecord g (g.top + g.length) false s)) := by
  rw [closePassed, hg]
  simp only [if_pos hd, writeRecord_pointer]
  exact if_neg (by omega)

theorem closePassed_full (hg : s.su.segment = some g) (hd : g.top + g.length ≤ s.dr.depth)
    (hfull : 1023 ≤ s.su.records.length) :
    closePassed (n + 1) s = fillTable (writeRecord g (g.top + g.length) false s) := by
  rw [closePassed, hg]
  simp only [if_pos hd, writeRecord_pointer]
  exact if_pos (by omega)

end

/-- What a close that opens the next segment keeps, and a close that fills the table keeps, all the closes of a depth
update keep. -/
theorem closePassed_induction {P : State → Prop}
    (hnext : ∀ (s : State) (g : Segment), P s → s.su.segment = some g → s.su.records.length < 1023 →
      P (openSegment (g.top + g.length) (writeRecord g (g.top + g.length) false s)))
    (hfull : ∀ (s : State) (g : Segment), P s → s.su.segment = some g → 1023 ≤ s.su.records.length →
      P (fillTable (writeRecord g (g.top + g.length) false s)))
    (n : Nat) {s : State} (h : P s) : P (closePassed n s) := by
  induction n generalizing s with
  | zero => exact h
  | succ n ih =>
    cases hg : s.su.segment with
    | none => rwa [closePassed_none hg]
    | some g =>
      by_cases hd : s.dr.depth < g.top + g.length
      · rwa [closePassed_within hg hd]
      · by_cases hroom : s.su.records.length < 1023
        · rw [closePassed_next hg (Nat.not_lt.1 hd) hroom]
          exact ih (hnext s g h hg hroom)
        · rw [closePassed_full hg (Nat.not_lt.1 hd) (Nat.not_lt.1 hroom)]
          exact hfull s g h hg (Nat.not_lt.1 hroom)

/-- R132, R134: closes enough for the room left in the table end with the depth inside the open segment, or with none
open. -/
theorem closePassed_settles {n : Nat} {s : State} (hroom : s.su.records.length < 1024)
    (hn : 1024 ≤ s.su.records.length + n) :
    ∀ g ∈ (closePassed n s).su.segment, s.dr.depth < g.top + g.length := by
  induction n generalizing s with
  | zero => omega
  | succ n ih =>
    cases hg : s.su.segment with
    | none => simp [closePassed_none hg, hg]
    | some g =>
      by_cases hd : s.dr.depth < g.top + g.length
      · rw [closePassed_within hg hd, hg]
        rintro _ ⟨⟩
        exact hd
      · by_cases hlast : s.su.records.length < 1023
        · have hlength : (openSegment (g.top + g.length)
              (writeRecord g (g.top + g.length) false s)).su.records.length = s.su.records.length + 1 :=
            writeRecord_pointer ..
          rw [closePassed_next hg (Nat.not_lt.1 hd) hlast]
          have hnext := ih (s := openSegment (g.top + g.length) (writeRecord g (g.top + g.length) false s))
            (by omega) (by omega)
          simpa using hnext
        · rw [closePassed_full hg (Nat.not_lt.1 hd) (Nat.not_lt.1 hlast), fillTable_eq]
          simp

/-! ## A run stopped (R127) -/

/-- R127: the segment of a stop that is long enough and has counted is written short, and may be the last of the
table. -/
theorem stopRun_writes {s x : State} {g : Segment} (hg : s.su.segment = some g) (hc : 1 ≤ g.count)
    (ht : g.top + 500 ≤ s.dr.toe) (hx : x = writeRecord g (min s.dr.toe (g.top + g.length)) true s) :
    stopRun s = refreshLive (if 1023 ≤ s.su.records.length then fillTable x
                             else { x with su := { x.su with state := .closed } }) := by
  subst hx
  rw [stopRun, hg]
  simp only [if_pos (And.intro hc ht), writeRecord_pointer]
  rcases Nat.lt_or_ge s.su.records.length 1023 with hroom | hfull
  · rw [if_neg (by omega), if_neg (by omega)]
    rfl
  · rw [if_pos (by omega), if_pos hfull]

/-! ## The arming (R128) -/

/-- R128: a run whose first segment is about to open. -/
def begun (s : State) : State :=
  { s with su := { s.su with state := if accumulateOk s = true then .accumulating else .holding, nextTop := 0 } }

theorem begun_runs (s : State) : (begun s).su.state = .accumulating ∨ (begun s).su.state = .holding := by
  unfold begun
  dsimp only
  split
  · exact .inl rfl
  · exact .inr rfl

theorem judgeArming_waits {s : State} (h : s.dr.depth < s.su.nextTop) : judgeArming s = s := if_neg (Nat.not_le.2 h)

theorem judgeArming_opens {s : State} (h : s.su.nextTop ≤ s.dr.depth) :
    judgeArming s = refreshLive (closePassed 1024 (openSegment s.su.nextTop (begun s))) := if_pos h

end Sys2Proof.Machine
end

section
/-! SUPPORT. The survey table as a chain, and what each operation makes of the table and of the run (R116 to R118, R129,
R134). -/

namespace Sys2Proof.Machine

/-! ## The chain (R117) -/

/-- Each record is closed below its top, and the next one begins at its bottom. -/
theorem chained_iff (rs : List SurveyRecord) :
    chained rs = true ↔ (∀ r ∈ rs, r.top < r.bottom) ∧ rs.IsChain fun r q => r.bottom = q.top := by
  induction rs with
  | nil => simp [chained]
  | cons r rs ih =>
    cases rs with
    | nil => simp [chained]
    | cons q rest =>
      rw [chained, Bool.and_eq_true, Bool.and_eq_true, ih, List.isChain_cons_cons, List.forall_mem_cons (a := r)]
      simp only [decide_eq_true_eq]
      tauto

theorem chained_append {rs : List SurveyRecord} {r : SurveyRecord} (h : chained rs = true) (hr : r.top < r.bottom)
    (ho : OpensAt rs r.top) : chained (rs ++ [r]) = true := by
  rw [chained_iff] at h ⊢
  obtain ⟨hb, hc⟩ := h
  refine ⟨fun q hq => ?_, List.isChain_append.2 ⟨hc, .singleton r, ?_⟩⟩
  · rcases List.mem_append.1 hq with hq | hq
    · exact hb q hq
    · exact List.mem_singleton.1 hq ▸ hr
  · rintro q hq _ ⟨⟩
    exact ho q hq

theorem chained_take {rs : List SurveyRecord} (n : Nat) (h : chained rs = true) : chained (rs.take n) = true := by
  rw [chained_iff] at h ⊢
  obtain ⟨hb, hc⟩ := h
  exact ⟨fun q hq => hb q (List.mem_of_mem_take hq), hc.take n⟩

/-- The tops and the bottoms of a table. -/
def bounds (rs : List SurveyRecord) : List (Nat × Nat) := rs.map fun r => (r.top, r.bottom)

theorem length_of_bounds {rs rs' : List SurveyRecord} (he : bounds rs' = bounds rs) : rs'.length = rs.length := by
  simpa [bounds] using congrArg List.length he

/-- The chain is one of tops and bottoms. -/
theorem chained_congr {rs rs' : List SurveyRecord} (he : bounds rs' = bounds rs) : chained rs' = chained rs := by
  induction rs generalizing rs' with
  | nil => rw [List.map_eq_nil_iff.1 he]
  | cons r rs ih =>
    cases rs' with
    | nil => cases he
    | cons r' rs' =>
      obtain ⟨hr, hrest⟩ := List.cons.inj he
      obtain ⟨htop, hbottom⟩ := Prod.mk.inj hr
      have hchain := ih hrest
      cases rs with
      | nil =>
        rw [List.map_eq_nil_iff.1 hrest]
        simp [chained, htop, hbottom]
      | cons q rest =>
        cases rs' with
        | nil => cases hrest
        | cons q' rest' =>
          obtain ⟨hq, _⟩ := List.cons.inj hrest
          obtain ⟨hqtop, _⟩ := Prod.mk.inj hq
          simp only [chained, htop, hbottom, hqtop, hchain]

/-! ## The invariant in two parts -/

/-- R116, R117: the table and the settings, whatever the state. -/
def RecordsLegal (u : Su) : Prop :=
  chained u.records = true ∧ u.records.length ≤ 1024 ∧ (2500 ≤ u.l0 ∧ u.l0 ≤ 50000) ∧ (2500 ≤ u.l1 ∧ u.l1 ≤ 50000)

/-- R118, R129, R134, R135: what each state says of the claimant, the open segment and the table. -/
def RunLegal (u : Su) : Prop :=
  match u.state, u.segment with
  | .idle, none => u.claimant = none
  | .claimed, none | .closed, none => u.claimant.isSome = true
  | .full, none => u.claimant.isSome = true ∧ u.records.length = 1024
  | .armed, none => OpensAt u.records u.nextTop ∧ u.records.length < 1024
  | .accumulating, some g | .holding, some g => SegmentLegal u g
  | .checking, none | .checkHolding, none => True
  | _, _ => False

theorem surveyLegal_iff (s : State) : SurveyLegal s ↔ RecordsLegal s.su ∧ RunLegal s.su := by
  unfold SurveyLegal RecordsLegal RunLegal ClaimLegal
  generalize s.su = u
  obtain ⟨st, _, _, _, _, _, _, _, seg, _⟩ := u
  cases st <;> cases seg <;> simp <;> tauto

section
variable {u v : Su} {g : Segment}

theorem RecordsLegal.same (h : RecordsLegal u) (hr : v.records = u.records) (h0 : v.l0 = u.l0) (h1 : v.l1 = u.l1) :
    RecordsLegal v := by
  unfold RecordsLegal
  rw [hr, h0, h1]
  exact h

theorem RecordsLegal.bounds (h : RecordsLegal u) (hr : bounds v.records = bounds u.records) (h0 : v.l0 = u.l0)
    (h1 : v.l1 = u.l1) : RecordsLegal v := by
  unfold RecordsLegal
  rw [chained_congr hr, length_of_bounds hr, h0, h1]
  exact h

theorem RunLegal.same (h : RunLegal u) (hs : v.state = u.state) (hg : v.segment = u.segment)
    (hc : v.claimant = u.claimant) (hr : v.records = u.records) (ht : v.nextTop = u.nextTop) : RunLegal v := by
  unfold RunLegal SegmentLegal
  rw [hs, hg, hc, hr, ht]
  exact h

theorem RunLegal.running (hs : u.state = .accumulating ∨ u.state = .holding) (hg : u.segment = some g)
    (h : SegmentLegal u g) : RunLegal u := by
  unfold RunLegal
  rw [hg]
  rcases hs with hs | hs <;> rw [hs] <;> exact h

/-- R129: while a segment is open the run accumulates or holds. -/
theorem RunLegal.segment (h : RunLegal u) (hg : u.segment = some g) :
    (u.state = .accumulating ∨ u.state = .holding) ∧ SegmentLegal u g := by
  unfold RunLegal at h
  rw [hg] at h
  cases hs : u.state <;> rw [hs] at h
  case accumulating => exact ⟨.inl rfl, h⟩
  case holding => exact ⟨.inr rfl, h⟩
  all_goals exact h.elim

/-- R129: in every other state none is open. -/
theorem RunLegal.noSegment (h : RunLegal u) (ha : u.state ≠ .accumulating) (hh : u.state ≠ .holding) :
    u.segment = none := by
  cases hg : u.segment with
  | none => rfl
  | some g =>
    obtain ⟨hs | hs, _⟩ := h.segment hg
    · exact absurd hs ha
    · exact absurd hs hh

theorem RunLegal.pass (h : RunLegal u) (hs : u.state = .checking ∨ u.state = .checkHolding) : u.segment = none := by
  rcases hs with hs | hs <;> exact h.noSegment (by simp [hs]) (by simp [hs])

/-- R129, R134: in ACCUMULATING and HOLDING a segment is open. -/
theorem RunLegal.open (h : RunLegal u) (hs : u.state = .accumulating ∨ u.state = .holding) :
    ∃ g, u.segment = some g ∧ SegmentLegal u g := by
  cases hg : u.segment with
  | none =>
    unfold RunLegal at h
    rw [hg] at h
    rcases hs with hs | hs <;> rw [hs] at h <;> exact h.elim
  | some g => exact ⟨g, rfl, (h.segment hg).2⟩

theorem RunLegal.opens (h : RunLegal u) (hs : u.state = .armed) :
    OpensAt u.records u.nextTop ∧ u.records.length < 1024 := by
  have hg := h.noSegment (by simp [hs]) (by simp [hs])
  unfold RunLegal at h
  rwa [hg, hs] at h

theorem RunLegal.armed (hg : u.segment = none) (hs : u.state = .armed) (ho : OpensAt u.records u.nextTop)
    (hroom : u.records.length < 1024) : RunLegal u := by
  unfold RunLegal
  rw [hg, hs]
  exact ⟨ho, hroom⟩

theorem RunLegal.tableFull (h : RunLegal u) (hs : u.state = .full) : u.records.length = 1024 := by
  have hg := h.noSegment (by simp [hs]) (by simp [hs])
  unfold RunLegal at h
  rw [hg, hs] at h
  exact h.2

/-- R118: outside the running states but for IDLE the survey is claimed. -/
theorem RunLegal.claimed (hg : u.segment = none) (hs : u.state = .claimed) (hc : u.claimant.isSome = true) :
    RunLegal u := by
  unfold RunLegal
  rw [hg, hs]
  exact hc

theorem RunLegal.closed (hg : u.segment = none) (hs : u.state = .closed) (hc : u.claimant.isSome = true) :
    RunLegal u := by
  unfold RunLegal
  rw [hg, hs]
  exact hc

theorem RunLegal.full (hg : u.segment = none) (hs : u.state = .full) (hc : u.claimant.isSome = true)
    (hf : u.records.length = 1024) : RunLegal u := by
  unfold RunLegal
  rw [hg, hs]
  exact ⟨hc, hf⟩

theorem RunLegal.idle (hg : u.segment = none) (hs : u.state = .idle) (hc : u.claimant = none) : RunLegal u := by
  unfold RunLegal
  rw [hg, hs]
  exact hc

theorem RunLegal.checked (hg : u.segment = none) (hs : u.state = .checking ∨ u.state = .checkHolding) :
    RunLegal u := by
  unfold RunLegal
  rw [hg]
  rcases hs with hs | hs <;> rw [hs] <;> trivial

end

/-- R130, R146: the states to which a judged condition can lead. -/
def JudgedTo (a b : SurveyState) : Prop :=
  b = a ∨ ((a = .accumulating ∨ a = .holding) ∧ (b = .accumulating ∨ b = .holding)) ∨
  ((a = .checking ∨ a = .checkHolding) ∧ (b = .checking ∨ b = .checkHolding))

theorem judgedRun_judgedTo (s : State) : JudgedTo s.su.state (judgedRun s) := by
  unfold JudgedTo judgedRun
  cases s.su.state <;> simp

theorem judgedSurvey_judgedTo (s : State) : JudgedTo s.su.state (judgedSurvey s) := by
  unfold JudgedTo judgedSurvey
  cases s.su.state <;> simp

/-- R149: a check field written changes no top and no bottom. -/
theorem bounds_passOver (depth n : Nat) (rs : List SurveyRecord) : bounds (passOver depth n rs) = bounds rs := by
  induction rs generalizing n with
  | nil => cases n <;> rfl
  | cons r rs ih =>
    cases n with
    | zero => rfl
    | succ n =>
      refine congrArg₂ List.cons ?_ (ih n)
      split <;> rfl

/-- R148. -/
theorem bounds_writeCheck (i : Nat) (s : State) : bounds (writeCheck i s).su.records = bounds s.su.records := by
  unfold writeCheck
  split
  · rfl
  · next r hr =>
    refine List.ext_getElem? fun j => ?_
    obtain ⟨hi, rfl⟩ := List.getElem?_eq_some_iff.1 hr
    simp only [bounds, State.setSu_su, List.getElem?_map, List.getElem?_set]
    by_cases hj : i = j
    · subst hj
      simp [hi]
    · simp [hj]

theorem records_writeCheck {s : State} (i : Nat) (h : RecordsLegal s.su) : RecordsLegal (writeCheck i s).su :=
  h.bounds (bounds_writeCheck i s) (by rw [writeCheck_eq]) (by rw [writeCheck_eq])

/-- R127: a survey with no segment open, legal while its claimant is somebody. -/
def Rested (c : Option Port) (u : Su) : Prop :=
  RecordsLegal u ∧ u.segment = none ∧ (c.isSome = true → RunLegal u)

theorem Rested.refreshLive {c : Option Port} {s : State} (h : Rested c s.su) : Rested c (refreshLive s).su := by
  rw [refreshLive_eq, liveSu_eq]
  exact h

theorem SurveyLegal.rested {c : Option Port} {s : State} (h : SurveyLegal s) (hg : s.su.segment = none) :
    Rested c s.su := by
  obtain ⟨hr, hrun⟩ := (surveyLegal_iff s).1 h
  exact ⟨hr, hg, fun _ => hrun⟩

theorem Rested.closed {u : Su} (h : RecordsLegal u) (hg : u.segment = none) (hs : u.state = .closed) :
    Rested u.claimant u := ⟨h, hg, .closed hg hs⟩

namespace SurveyLegal
variable {s t : State} {g : Segment}

theorem same (h : SurveyLegal s) (he : t.su = s.su) : SurveyLegal t := by
  unfold SurveyLegal
  rw [he]
  exact h

theorem records (h : SurveyLegal s) : RecordsLegal s.su := ((surveyLegal_iff s).1 h).1

theorem run (h : SurveyLegal s) : RunLegal s.su := ((surveyLegal_iff s).1 h).2

theorem of (ht : RecordsLegal s.su) (hr : RunLegal s.su) : SurveyLegal s := (surveyLegal_iff s).2 ⟨ht, hr⟩

theorem ite {c : Prop} [Decidable c] {u : State} (ht : c → SurveyLegal t) (hu : ¬ c → SurveyLegal u) :
    SurveyLegal (if c then t else u) := by
  split
  · next hc => exact ht hc
  · next hc => exact hu hc

theorem idleSegment (h : SurveyLegal s) (hn : s.su.state.running = false) : s.su.segment = none := by
  refine h.run.noSegment ?_ ?_ <;> intro hs <;> simp [hs, SurveyState.running] at hn

/-! ### The live deviation and the conditions (R130, R136, R146) -/

theorem refreshLive (h : SurveyLegal s) : SurveyLegal (refreshLive s) := by
  rw [refreshLive_eq, liveSu_eq]
  exact h

/-- R130, R146: a condition judged moves the survey between ACCUMULATING and HOLDING, where it may set HELD, or between
CHECKING and CHECK_HOLDING. -/
theorem judged {st : SurveyState} {x y : Int} (h : SurveyLegal s) (hst : JudgedTo s.su.state st)
    (hu : t.su = { s.su with
      state := st, liveX := x, liveY := y
      segment := if s.su.state = .accumulating ∧ st = .holding then markHeld s.su.segment else s.su.segment }) :
    SurveyLegal t := by
  have hrecords : RecordsLegal t.su := h.records.same (by rw [hu]) (by rw [hu]) (by rw [hu])
  refine of hrecords ?_
  rw [hu]
  rcases hst with rfl | ⟨hs, hst⟩ | ⟨hs, hst⟩
  · refine h.run.same rfl (if_neg ?_) rfl rfl rfl
    rintro ⟨ha, hh⟩
    simp [ha] at hh
  · obtain ⟨g, hg, hl⟩ := h.run.open hs
    rw [hg]
    split
    · exact .running (g := { g with flags := { g.flags with held := true } }) hst rfl hl
    · exact .running (g := g) hst rfl hl
  · have ha : ¬ (s.su.state = .accumulating ∧ st = .holding) := by
      rintro ⟨ha, -⟩
      simp [ha] at hs
    rw [if_neg ha]
    exact .checked (h.run.pass hs) hst

theorem judgeAccumulate (h : SurveyLegal s) : SurveyLegal (judgeAccumulate s) :=
  h.judged (judgedRun_judgedTo s) (by rw [judgeAccumulate_eq])

theorem judgeRecovery (h : SurveyLegal s) : SurveyLegal (judgeRecovery s) :=
  h.judged (judgedRun_judgedTo s) (by rw [judgeRecovery_eq, judgedSu_eq])

theorem judgeSurvey (h : SurveyLegal s) : SurveyLegal (judgeSurvey s) :=
  h.judged (judgedSurvey_judgedTo s) (by rw [judgeSurvey_eq, judgedSu_eq])

theorem judgeCheck (h : SurveyLegal s) : SurveyLegal (judgeCheck s) := by
  unfold Machine.judgeCheck
  split
  case h_1 hs => exact .ite (fun _ => h) fun _ => of h.records (.checked (h.run.pass (.inl hs)) (.inr rfl))
  case h_2 hs => exact .ite (fun _ => of h.records (.checked (h.run.pass (.inr hs)) (.inl rfl))) fun _ => h
  all_goals exact h

/-! ### A run (R128 to R135) -/

theorem openedSegment_length {s : State} (h : RecordsLegal s.su) (top : Nat) :
    2500 ≤ (openedSegment s top).length ∧ (openedSegment s top).length ≤ 50000 := by
  obtain ⟨_, _, h0, h1⟩ := h
  rw [openedSegment_eq rfl]
  dsimp only
  split
  · exact h0
  · exact h1

/-- R129: a segment opened at the end of a table that has room. -/
theorem openSegment {top : Nat} (h : RecordsLegal s.su) (hs : s.su.state = .accumulating ∨ s.su.state = .holding)
    (ho : OpensAt s.su.records top) (hroom : s.su.records.length < 1024) : SurveyLegal (openSegment top s) := by
  obtain ⟨hlow, hhigh⟩ := openedSegment_length h top
  exact of h (.running hs rfl ⟨ho, hlow, hhigh, Nat.zero_le _, hroom⟩)

/-- R132, R134: a record written below the top of the open segment lengthens the chain. -/
theorem records_writeRecord {bottom : Nat} {short : Bool} (h : SurveyLegal s) (hg : s.su.segment = some g)
    (hb : g.top < bottom) : RecordsLegal (writeRecord g bottom short s).su := by
  obtain ⟨hc, _, h0, h1⟩ := h.records
  obtain ⟨_, ho, _, _, _, hroom⟩ := h.run.segment hg
  refine ⟨chained_append hc hb ho, ?_, h0, h1⟩
  rw [← Su.pointer, writeRecord_pointer]
  exact hroom

/-- R135: the table filled leaves the survey FULL, or IDLE when nobody claims it. -/
theorem fillTable (h : RecordsLegal s.su) (hf : s.su.records.length = 1024) : SurveyLegal (fillTable s) := by
  rw [fillTable_eq]
  refine of h ?_
  cases hc : s.su.claimant with
  | none => exact .idle rfl rfl hc
  | some p => exact .full rfl rfl (Option.isSome_of_eq_some hc) hf

/-- R132, R134: the closes of a depth update. -/
theorem closePassed (n : Nat) (h : SurveyLegal s) : SurveyLegal (closePassed n s) := by
  refine closePassed_induction (fun s g h hg hroom => ?_) (fun s g h hg hfull => ?_) n h
  all_goals
    obtain ⟨hs, _, hlow, _, _, hlen⟩ := h.run.segment hg
    have hrecords := records_writeRecord (bottom := g.top + g.length) (short := false) h hg (by omega)
  · refine openSegment hrecords hs (fun r hr => ?_) ?_
    · rw [writeRecord_eq] at hr
      simp only [List.getLast?_concat, Option.mem_some_iff] at hr
      subst hr
      rfl
    · rw [← Su.pointer, writeRecord_pointer]
      omega
  · refine fillTable hrecords ?_
    rw [← Su.pointer, writeRecord_pointer]
    omega

/-- R128: the first segment opens where the run was armed. -/
theorem judgeArming (h : SurveyLegal s) (hs : s.su.state = .armed) : SurveyLegal (judgeArming s) := by
  rcases Nat.lt_or_ge s.dr.depth s.su.nextTop with hd | hd
  · rwa [judgeArming_waits hd]
  · obtain ⟨ho, hroom⟩ := h.run.opens hs
    have hopen : SurveyLegal (Machine.openSegment s.su.nextTop (begun s)) :=
      openSegment (s := begun s) h.records (begun_runs s) ho hroom
    rw [judgeArming_opens hd]
    exact (closePassed _ hopen).refreshLive

/-! ### The check pass (R143 to R151) -/

/-- R150: a pass that ends leaves the survey CLOSED or FULL, or IDLE when nobody claims it. -/
theorem endCheck (h : RecordsLegal s.su) (hg : s.su.segment = none) : SurveyLegal (endCheck s) := by
  rw [endCheck_eq]
  refine of h ?_
  cases hc : s.su.claimant with
  | none => exact .idle hg rfl hc
  | some p =>
    by_cases hf : s.su.pointer = 1024
    · exact .full hg (if_pos hf) (Option.isSome_of_eq_some hc) hf
    · exact .closed hg (if_neg hf) (Option.isSome_of_eq_some hc)

/-- R149: the records passed over are written, and the target moves up or the pass ends. -/
theorem moveTarget {bound : Nat} (h : RecordsLegal s.su) (hg : s.su.segment = none)
    (hs : s.su.state = .checking ∨ s.su.state = .checkHolding) : SurveyLegal (moveTarget bound s) := by
  have hmoved (c : VerdictCounts) (i : Option Nat) : RecordsLegal { s.su with
      records := passOver s.dr.depth bound s.su.records, verdicts := c, checkCount := 0, checkSumX := 0
      checkSumY := 0, target := i } := h.bounds (bounds_passOver ..) rfl rfl
  exact .ite (fun _ => endCheck (hmoved _ _) hg) fun _ => of (hmoved _ _) (.checked hg hs)

theorem advanceCheck (h : SurveyLegal s) (hs : s.su.state = .checking ∨ s.su.state = .checkHolding) :
    SurveyLegal (advanceCheck s) := by
  have hg := h.run.pass hs
  unfold Machine.advanceCheck
  (repeat' split)
  · refine moveTarget (records_writeCheck _ h.records) ?_ ?_ <;> rw [writeCheck_eq]
    · exact hg
    · exact hs
  · exact h
  · exact h
  · exact moveTarget h.records hg hs
  · exact h
  · exact h

/-- R22: SU takes a depth update. -/
theorem surveyDepth (h : SurveyLegal s) : SurveyLegal (surveyDepth s) := by
  have hpass (hs : s.su.state = .checking ∨ s.su.state = .checkHolding) :
      SurveyLegal (s.setSu { s.su with checkFront := min s.su.checkFront s.dr.depth }) :=
    of h.records (.checked (h.run.pass hs) hs)
  unfold Machine.surveyDepth
  split
  case h_1 hs => exact .ite (fun _ => h.judgeArming hs) fun _ => h
  case h_2 | h_3 =>
    refine refreshLive (.ite (fun _ => ?_) fun _ => h.judgeAccumulate)
    exact closePassed _ h.judgeAccumulate
  case h_4 hs => exact .ite (fun _ => ((hpass (.inl hs)).advanceCheck (.inl hs)).judgeCheck) fun _ => h.judgeCheck
  case h_5 hs => exact .ite (fun _ => ((hpass (.inr hs)).advanceCheck (.inr hs)).judgeCheck) fun _ => h.judgeCheck
  all_goals exact h

theorem segment_addToSegment {u : Su} {v : SampleSet} {saturated : Bool} (h : SegmentLegal u g) :
    SegmentLegal u (addToSegment v saturated g) := by
  unfold addToSegment
  split
  · next hc =>
    obtain ⟨ho, hlow, hhigh, _, hroom⟩ := h
    exact ⟨ho, hlow, hhigh, hc, hroom⟩
  · exact h

/-- R131, R147: a set counted leaves the segment where it is. -/
theorem surveySample {v : SampleSet} {saturated : Bool} (h : SurveyLegal s) :
    SurveyLegal (surveySample v saturated s) := by
  unfold Machine.surveySample
  split
  case h_1 hs =>
    obtain ⟨g, hg, hl⟩ := h.run.open (.inl hs)
    exact refreshLive (of h.records (.running (.inl hs) (congrArg (Option.map (addToSegment v saturated)) hg)
      (segment_addToSegment hl)))
  case h_2 => exact h.refreshLive
  case h_3 hs => exact .ite (fun _ => of h.records (.checked (h.run.pass (.inl hs)) (.inl hs))) fun _ => h
  all_goals exact h

/-! ### A stop (R127, R151) -/

/-- R127, R135: a run stopped. -/
theorem stopRun (h : SurveyLegal s) : Rested s.su.claimant (stopRun s).su := by
  cases hg : s.su.segment with
  | none =>
    have hstop : Machine.stopRun s =
        { s with su := { s.su with state := .closed, nextTop := 0, liveX := 0, liveY := 0 } } := by
      rw [Machine.stopRun, hg]
      exact refreshLive_none hg
    rw [hstop]
    exact .closed h.records hg rfl
  | some g =>
    by_cases hd : g.count = 0 ∨ s.dr.toe < g.top + 500
    · rw [stopRun_discards hg hd]
      exact .closed h.records rfl rfl
    · obtain ⟨hc, ht⟩ := not_or.1 hd
      obtain ⟨_, _, hlow, _, _, hroom⟩ := h.run.segment hg
      have hw : RecordsLegal (writeRecord g (min s.dr.toe (g.top + g.length)) true s).su :=
        records_writeRecord h hg (by omega)
      have hlen : (writeRecord g (min s.dr.toe (g.top + g.length)) true s).su.records.length =
        s.su.records.length + 1 := writeRecord_pointer ..
      rw [stopRun_writes hg (by omega) (by omega) rfl]
      refine Rested.refreshLive ?_
      split
      · exact (fillTable hw (by omega)).rested (by rw [fillTable_eq])
      · exact .closed hw rfl rfl

/-- R151: a pass stopped. -/
theorem stopCheck (h : SurveyLegal s) (hs : s.su.state = .checking ∨ s.su.state = .checkHolding) :
    Rested s.su.claimant (stopCheck s).su := by
  have hg := h.run.pass hs
  by_cases hempty : s.su.target = none ∨ s.su.checkCount = 0
  · rw [stopCheck_empty hempty]
    exact (endCheck h.records hg).rested (by rw [endCheck_eq]; exact hg)
  · obtain ⟨htarget, hcount⟩ := not_or.1 hempty
    obtain ⟨i, hi⟩ := Option.ne_none_iff_exists'.1 htarget
    have hw : (Machine.writeCheck i s).su.segment = none := by rw [writeCheck_eq]; exact hg
    rw [stopCheck_target hi (by omega)]
    exact (endCheck (records_writeCheck i h.records) hw).rested (by rw [endCheck_eq]; exact hw)

/-- R127, R151: SURVEY_STOP, and the stop in a restart. -/
theorem stopSurvey (h : SurveyLegal s) : Rested s.su.claimant (stopSurvey s).su := by
  unfold Machine.stopSurvey
  split
  case h_1 | h_2 | h_3 => exact h.stopRun
  case h_4 hs => exact h.stopCheck (.inl hs)
  case h_5 hs => exact h.stopCheck (.inr hs)
  all_goals
    next hs => exact h.rested (h.run.noSegment (by simp [hs]) (by simp [hs]))

/-! ### The claim (R119 to R121) -/

/-- R118: the running states are those in which the claimant may be anybody or nobody. -/
theorem reclaim {c : Option Port} (h : SurveyLegal s)
    (hc : s.su.state.running = true ∨ (s.su.state ≠ .idle ∧ c.isSome = true)) :
    SurveyLegal (s.setSu { s.su with claimant := c }) := by
  refine of h.records ?_
  cases hs : s.su.state <;> rw [hs] at hc
  case idle => simp [SurveyState.running] at hc
  case claimed => exact .claimed (h.idleSegment (by rw [hs]; rfl)) hs (by simpa [SurveyState.running] using hc)
  case closed => exact .closed (h.idleSegment (by rw [hs]; rfl)) hs (by simpa [SurveyState.running] using hc)
  case full =>
    exact .full (h.idleSegment (by rw [hs]; rfl)) hs (by simpa [SurveyState.running] using hc) (h.run.tableFull hs)
  case armed =>
    obtain ⟨ho, hroom⟩ := h.run.opens hs
    exact .armed (h.run.noSegment (by simp [hs]) (by simp [hs])) hs ho hroom
  case accumulating =>
    obtain ⟨g, hg, hl⟩ := h.run.open (.inl hs)
    exact .running (.inl hs) hg hl
  case holding =>
    obtain ⟨g, hg, hl⟩ := h.run.open (.inr hs)
    exact .running (.inr hs) hg hl
  case checking => exact .checked (h.run.pass (.inl hs)) (.inl hs)
  case checkHolding => exact .checked (h.run.pass (.inr hs)) (.inr hs)

/-- R120, R121: the survey given up outside the running states. -/
theorem giveUp (h : SurveyLegal s) (hn : s.su.state.running = false) :
    SurveyLegal (s.setSu { s.su with claimant := none, state := .idle }) := by
  exact of h.records (.idle (h.idleSegment hn) rfl rfl)

theorem claimSurvey {p : Port} (h : SurveyLegal s) : SurveyLegal (s.setSu (claimSurvey p s.su)) := by
  by_cases hs : s.su.state = .idle
  · have hg := h.run.noSegment (by simp [hs]) (by simp [hs])
    exact of h.records (.claimed hg (if_pos hs) rfl)
  · have hkeep : Machine.claimSurvey p s.su = { s.su with claimant := some p } := by
      rw [Machine.claimSurvey, if_neg hs]
    rw [hkeep]
    exact h.reclaim (.inr ⟨hs, rfl⟩)

theorem surveyLoss {p : Port} (h : SurveyLegal s) : SurveyLegal (surveyLoss p s) := by
  unfold Machine.surveyLoss
  refine .ite (fun _ => ?_) fun _ => h
  cases hn : s.su.state.running
  · exact h.giveUp hn
  · exact h.reclaim (.inl hn)

/-! ### The run requests (R123 to R127, R143) -/

theorem configSurvey {d : List Byte} (h : SurveyLegal s) (hr : configRefusal d s = none) :
    SurveyLegal (s.setSu (configSurvey d s.su)) := by
  obtain ⟨hc, hlen, _, _⟩ := h.records
  obtain ⟨_, _, hok⟩ := (configRefusal_none d s).1 hr
  simp only [configOk, Bool.and_eq_true, inRange_iff] at hok
  obtain ⟨⟨⟨h0, h1⟩, _⟩, _⟩ := hok
  exact of ⟨hc, hlen, h0, h1⟩ (h.run.same rfl rfl rfl rfl rfl)

theorem clearSurvey (h : SurveyLegal s) (hn : s.su.state.running = false) (hc : s.su.claimant.isSome = true) :
    SurveyLegal (s.setSu (clearSurvey s.su)) := by
  obtain ⟨_, _, h0, h1⟩ := h.records
  exact of ⟨rfl, Nat.zero_le _, h0, h1⟩ (.claimed (h.idleSegment hn) rfl hc)

theorem truncateSurvey {n : Nat} (h : SurveyLegal s) (hn : s.su.state.running = false)
    (hle : n ≤ s.su.records.length) (hc : s.su.claimant.isSome = true) :
    SurveyLegal (s.setSu (truncateSurvey n s.su)) := by
  obtain ⟨hchain, hlen, h0, h1⟩ := h.records
  have hkept : (s.su.records.take n).length = n := List.length_take_of_le hle
  refine of ⟨chained_take n hchain, ?_, h0, h1⟩ ?_
  · exact hkept.trans_le (hle.trans hlen)
  · have hg := h.idleSegment hn
    rcases Nat.eq_zero_or_pos n with rfl | hpos
    · exact .claimed hg rfl hc
    · by_cases hfull : n = 1024
      · exact .full hg (by simp [Machine.truncateSurvey, pointerState, hfull]) hc (hkept.trans hfull)
      · exact .closed hg (by simp [Machine.truncateSurvey, pointerState, hfull, hpos.ne']) hc

theorem startSurvey (h : SurveyLegal s) (hn : s.su.state.running = false) (hroom : s.su.records.length < 1024) :
    SurveyLegal (startSurvey s) := by
  have hopens : OpensAt s.su.records (nextTopOf s.su) := fun r hr => by
    rw [nextTopOf, Option.mem_def.1 hr]
  exact judgeArming (of h.records (.armed (h.idleSegment hn) rfl hopens hroom)) rfl

theorem startCheck (h : SurveyLegal s) (hn : s.su.state.running = false) : SurveyLegal (startCheck s) := by
  have hg := h.idleSegment hn
  exact .ite (fun _ => endCheck h.records hg) fun _ => judgeCheck (of h.records (.checked hg (.inl rfl)))

end SurveyLegal

end Sys2Proof.Machine
end

section
/-! SUPPORT. Every command and every millisecond keeps the survey table a chain, and the state, the claimant and the
open segment in agreement (O23). -/

namespace Sys2Proof.Machine

/-! ## What the operations with more than one branch leave of SU -/

@[simp] theorem leaveHold_su (s : State) : (leaveHold s).su = s.su := by simp [leaveHold]

@[simp] theorem resetReturn_su (s : State) : (resetReturn s).su = s.su := by
  unfold resetReturn; split <;> simp

@[simp] theorem takeRise_su (low : Nat) (s : State) : (takeRise low s).su = s.su := by
  unfold takeRise riseInHold; (repeat' split) <;> simp

@[simp] theorem takeFall_su (s : State) : (takeFall s).su = s.su := by
  unfold takeFall; split <;> simp

@[simp] theorem judgeFlow_su (s : State) : (judgeFlow s).su = s.su := by
  unfold judgeFlow; (repeat' split) <;> simp

@[simp] theorem takeCeiling_su (qp : Nat) (s : State) : (takeCeiling qp s).su = s.su := by
  unfold takeCeiling ceilingIntoState; (repeat' split) <;> simp

@[simp] theorem judgeGate_su (w : Wheel) (pulses : Nat) (s : State) : (judgeGate w pulses s).su = s.su := by
  unfold judgeGate; dsimp only; (repeat' split) <;> simp

@[simp] theorem releaseWheels_su (s : State) : (releaseWheels s).su = s.su := by simp [releaseWheels]

@[simp] theorem restWheels_su (s : State) : (restWheels s).su = s.su := by simp [restWheels]

/-- R185: no posted request changes SU. -/
theorem applyPosted_su {p : Port} {r : Posted} {s t : State} (ht : applyPosted p r s = .ok t) : t.su = s.su := by
  cases r
  all_goals
    simp only [applyPosted, applySetScaler, applySetDepthCheck, applyLoadZone, applyDropZone, applySetWheelDemand,
      applySetRamp, applySetFallbackSpeed, applyClearJam, applySetRecovery, applySetSteerMode, applySetTrimManual,
      applySetSteerGains, applySetPlate, applyClearPlate, applySetPumpDemand, applySetTransport, applySetPortTimeout,
      applyAckEvents, applySetEventEnables, applySetAlertLine, applySetMarkWidth] at ht
    (repeat' split at ht) <;> cases ht <;> simp

namespace SurveyLegal
variable {s t : State}

/-! ### The blocks that SU hands on to -/

theorem reevaluate (h : SurveyLegal s) : SurveyLegal (reevaluate s) := h.same (by simp)

theorem steerSample (h : SurveyLegal s) : SurveyLegal (steerSample s) := h.same (by simp)

theorem handWheels {before : PerWheel WheelRec} (h : SurveyLegal s) : SurveyLegal (handWheels before s) :=
  h.same (by simp)

/-! ### Depth and the sensor (R7 to R9, R20 to R31) -/

/-- R22. -/
theorem handDepth (h : SurveyLegal s) : SurveyLegal (handDepth s) := by
  have hzone : SurveyLegal (selectZone s.dr.depth s) := h.same (by simp)
  exact hzone.surveyDepth.same (by simp [Machine.handDepth])

theorem reportCount {count : Int} (h : SurveyLegal s) : SurveyLegal (reportCount count s) := by
  unfold Machine.reportCount
  split
  · exact h.same rfl
  all_goals exact handDepth (h.same (by simp))

theorem takeDatum {v : Nat} (h : SurveyLegal s) : SurveyLegal (takeDatum v s) := handDepth (h.same (by simp))

theorem goStale (h : SurveyLegal s) : SurveyLegal (goStale s) := .ite (fun _ => handDepth (h.same rfl)) fun _ => h

theorem setDisagree {d : Bool} (h : SurveyLegal s) : SurveyLegal (setDisagree d s) :=
  .ite (fun _ => h) fun _ => reevaluate (judgeSurvey (h.same rfl))

theorem suspendCrossCheck (h : SurveyLegal s) : SurveyLegal (suspendCrossCheck s) := setDisagree (h.same rfl)

theorem raiseDisagree (h : SurveyLegal s) : SurveyLegal (raiseDisagree s) := setDisagree (h.same rfl)

theorem compareDepth (h : SurveyLegal s) : SurveyLegal (compareDepth s) :=
  .ite (fun _ => .ite (fun _ => raiseDisagree (h.same rfl)) fun _ => h.same rfl) fun _ =>
    .ite (fun _ => setDisagree (h.same rfl)) fun _ => h.same rfl

theorem takeHeadPressure {r : Reading} (h : SurveyLegal s) : SurveyLegal (takeHeadPressure r s) :=
  .ite (fun _ => compareDepth (h.same rfl)) fun _ => h.same rfl

theorem loseSensor (h : SurveyLegal s) : SurveyLegal (loseSensor s) := reevaluate (judgeSurvey (h.same rfl))

theorem takeInvalid (h : SurveyLegal s) : SurveyLegal (takeInvalid s) :=
  .ite (fun _ => loseSensor (h.same rfl)) fun _ => h.same rfl

/-- R8, R9, R131: the conditions are judged before the set is counted. -/
theorem takeValid {x y psi : Int} (h : SurveyLegal s) : SurveyLegal (takeValid x y psi s) := by
  unfold Machine.takeValid
  dsimp only
  split
  · exact steerSample (surveySample (h.same rfl))
  · exact steerSample (reevaluate (surveySample (judgeSurvey (h.same rfl))))

/-! ### The wheels (R59 to R66, R84) -/

theorem clearRecord (h : SurveyLegal s) : SurveyLegal (clearRecord s) := reevaluate (judgeRecovery (h.same rfl))

theorem abortRecovery (h : SurveyLegal s) : SurveyLegal (abortRecovery s) := by
  unfold Machine.abortRecovery
  split
  · exact h
  · exact h.clearRecord.same rfl

theorem haltWheels (h : SurveyLegal s) : SurveyLegal (haltWheels s) :=
  h.abortRecovery.same (by simp [Machine.haltWheels])

theorem takeStall {w : Wheel} (h : SurveyLegal s) : SurveyLegal (takeStall w s) :=
  handWheels (reevaluate (judgeRecovery (h.same rfl)))

/-! ### The posted queues (R184 to R186) -/

theorem applyEntry {p : Port} {e : Entry} (h : SurveyLegal s) : SurveyLegal (applyEntry p e s) := by
  unfold Machine.applyEntry
  split
  · next ht => exact h.same (applyPosted_su ht)
  · exact h.same (by simp [recordRefusal])

theorem drainList {p : Port} {es : List Entry} (h : SurveyLegal s) : SurveyLegal (drainList p es s) := by
  induction es generalizing s with
  | nil => exact h.same rfl
  | cons e es ih => exact .ite (fun _ => h.same rfl) fun _ => ih h.applyEntry

theorem releaseHead {concerns : Posted → Bool} (h : SurveyLegal s) : SurveyLegal (releaseHead concerns s) := by
  unfold Machine.releaseHead
  split
  · exact .ite (fun _ => h.drainList) fun _ => h
  · exact h

theorem joinQueue {p : Port} {e : Entry} (h : SurveyLegal s) : SurveyLegal (joinQueue p e s) :=
  .ite (fun _ => h.drainList) fun _ => h.same rfl

/-! ### The governor update and the recovery (R54, R75) -/

/-- R81, R82: an end of a recovery clears the record, releases the head it held and notes the outcome. -/
theorem ended {e : Event} {how : RecoveryEnd} {r : Recovery} (h : SurveyLegal s) :
    SurveyLegal (raise e (setOutcome how r (releaseRecovery (Machine.clearRecord s)))) := by
  have hreleased : SurveyLegal (releaseRecovery (Machine.clearRecord s)) := releaseHead h.clearRecord
  exact hreleased.same rfl

theorem endRecovered {r : Recovery} (h : SurveyLegal s) : SurveyLegal (endRecovered r s) := ended (h.same rfl)

theorem endJammed {r : Recovery} (h : SurveyLegal s) : SurveyLegal (endJammed r s) := ended (h.same rfl)

theorem failBurst {r : Recovery} (h : SurveyLegal s) : SurveyLegal (failBurst r s) :=
  .ite (fun _ => h.same rfl) fun _ => h.endJammed

theorem driveRecovery {r : Recovery} (h : SurveyLegal s) : SurveyLegal (driveRecovery r s) :=
  .ite (fun _ => failBurst (h.same rfl)) fun _ => h.same rfl

theorem stepRecovery {r : Recovery} (h : SurveyLegal s) : SurveyLegal (stepRecovery r s) := by
  refine .ite (fun _ => ?_) fun _ => h.driveRecovery
  split
  · exact h.driveRecovery
  · exact h.endRecovered

theorem takeStalls (h : SurveyLegal s) : SurveyLegal (takeStalls s) := by
  unfold Machine.takeStalls
  split
  · exact h.takeStall
  · exact h

theorem governorStep {pa pb : Int} (h : SurveyLegal s) : SurveyLegal (governorStep pa pb s) := by
  have hg : SurveyLegal (governed pa pb s) := h.same rfl
  have hr : SurveyLegal (restWheels (Machine.takeStalls (governed pa pb s))) := hg.takeStalls.same (by simp)
  have hstep : SurveyLegal (stepSru s (restWheels (Machine.takeStalls (governed pa pb s)))) := by
    unfold stepSru
    split
    · exact hr
    · exact .ite (fun _ => hr.stepRecovery) fun _ => hr
  rw [governorStep_eq]
  exact hstep.same (by simp)

theorem phaseTimerExpiry (h : SurveyLegal s) : ∃ t, execPhaseTimerExpiry s = .next t ∧ SurveyLegal t := by
  refine ⟨_, rfl, ?_⟩
  split
  · exact h
  · refine .ite (fun _ => ?_) fun _ => h
    split
    · exact h.same rfl
    · exact h.endRecovered

theorem burstStallTimerExpiry (h : SurveyLegal s) :
    ∃ t, execBurstStallTimerExpiry s = .next t ∧ SurveyLegal t := by
  refine ⟨_, rfl, ?_⟩
  split
  · exact h
  · exact .ite (fun _ => h.failBurst) fun _ => h

/-! ### Requests (R177, R182) -/

theorem hear {p : Port} (h : SurveyLegal s) : SurveyLegal (hear p s) := h.same (by simp)

theorem reply {k : Kind} {p : Port} {tag : Byte} {st : Status} {d : List Byte} (h : SurveyLegal s) :
    SurveyLegal (reply k p tag st d s) := h.same rfl

theorem receive {k : Kind} {p : Port} {tag : Byte} {d : List Byte} {body : State → State} (h : SurveyLegal s)
    (hb : ∀ t, SurveyLegal t → SurveyLegal (body t)) : SurveyLegal (receive k p tag d body s) :=
  .ite (fun _ => h.hear.reply) fun _ => .ite (fun _ => h.hear.reply) fun _ => .ite (fun _ => h.hear.reply) fun _ =>
    hb _ h.hear

/-- A request whose effect leaves SU as it was. -/
theorem receive_same {k : Kind} {p : Port} {tag : Byte} {d : List Byte} {body : State → State} (h : SurveyLegal s)
    (hb : ∀ t, (body t).su = t.su) : SurveyLegal (Machine.receive k p tag d body s) :=
  h.receive fun t ht => ht.same (hb t)

theorem post {k : Kind} {p : Port} {tag : Byte} {d : List Byte} {make : State → Posted × Bool} (h : SurveyLegal s) :
    SurveyLegal (post k p tag d make s) :=
  h.receive fun _ ht => .ite (fun _ => ht.reply) fun _ => ht.reply.joinQueue

theorem haltTaken (h : SurveyLegal s) : SurveyLegal (haltTaken s) :=
  .ite (fun _ => h.haltWheels.releaseHead) fun _ => h.haltWheels

theorem surveyClaim (h : SurveyLegal s) (p : Port) (tag : Byte) (d : List Byte) :
    ∃ t, execSurveyClaim p tag d s = .next t ∧ SurveyLegal t :=
  ⟨_, rfl, h.receive fun _ ht => .ite (fun _ => ht.claimSurvey.reply) fun _ => ht.reply⟩

theorem surveyRelease (h : SurveyLegal s) (p : Port) (tag : Byte) (d : List Byte) :
    ∃ t, execSurveyRelease p tag d s = .next t ∧ SurveyLegal t := by
  refine ⟨_, rfl, h.receive fun t ht => ?_⟩
  split
  · exact ht.reply
  · next hr => exact (ht.giveUp ((releaseRefusal_none ..).1 hr).2).reply

/-- R122: a run request that is taken comes from the claimant and has passed its own checks. -/
theorem runRequest {k : Kind} {p : Port} {tag : Byte} {d : List Byte} {refusal : State → Option Status}
    {effect : State → State} (h : SurveyLegal s)
    (he : ∀ t, SurveyLegal t → t.su.claimant.isSome = true → refusal t = none → SurveyLegal (effect t)) :
    SurveyLegal (runRequest k p tag d refusal effect s) := by
  refine h.receive fun t ht => .ite (fun _ => ht.reply) fun hc => ?_
  split
  · exact ht.reply
  · next hr => exact (he t ht (Option.isSome_of_eq_some (not_not.1 hc)) hr).reply

/-- R141, R191: the run or the pass is stopped and the claim given up. -/
theorem restartHub (h : SurveyLegal s) : SurveyLegal (restartHub s) := by
  have hb : SurveyLegal (restarting s) := h.same (by rw [restarting_eq])
  obtain ⟨hr, hg, _⟩ := hb.stopSurvey
  rw [restartHub_eq rfl rfl]
  exact of hr (.idle hg rfl rfl)

/-! ### The hub's own events -/

theorem postedHeadApply (h : SurveyLegal s) (p : Port) : ∃ t, execPostedHeadApply p s = .next t ∧ SurveyLegal t := by
  refine ⟨_, rfl, ?_⟩
  split
  · exact h
  · exact .ite (fun _ => h) fun _ => h.drainList

theorem holdTimerExpiry (h : SurveyLegal s) (p : Port) : ∃ t, execHoldTimerExpiry p s = .next t ∧ SurveyLegal t := by
  refine ⟨_, rfl, ?_⟩
  split
  · exact drainList (h.same (by simp [recordRefusal]))
  · exact h

theorem handEnd {q : PlateId} {before : PerPlate Plate} (h : SurveyLegal s) : SurveyLegal (handEnd q before s) :=
  .ite (fun _ => h.releaseHead) fun _ => h

theorem plateStep {n1 n2 s1 s2 : Int} (h : SurveyLegal s) : SurveyLegal (plateStep n1 n2 s1 s2 s) :=
  handEnd (handEnd (handEnd (handEnd (h.same rfl))))

theorem handLoss {p : Port} (h : SurveyLegal s) : SurveyLegal (handLoss p s) := by
  cases p
  · exact h.haltWheels.same rfl
  · exact h.suspendCrossCheck
  · exact h.goStale

theorem silence {p : Port} (h : SurveyLegal s) :
    SurveyLegal (Machine.surveyLoss p (Machine.handLoss p (raisePortLost p (losePort p s)))) := by
  have hlost : SurveyLegal (raisePortLost p (losePort p s)) := h.same (by simp)
  exact (handLoss (p := p) hlost).surveyLoss

/-! ### Every command -/

/-- What a command answers. -/
theorem exec (h : SurveyLegal s) (c : Instr) : ∃ t, exec c s = .next t ∧ SurveyLegal t := by
  cases c with
  | powerOn =>
    have hreset : SurveyLegal State.reset := by decide
    exact ⟨_, rfl, hreset.same rfl⟩
  | badFrame => exact ⟨_, rfl, .ite (fun _ => h.same rfl) fun _ => h⟩
  | unknownKind => exact ⟨_, rfl, h.hear.same rfl⟩
  | setScaler | setDepthCheck | loadZone | dropZone | setWheelDemand | setRamp | setFallbackSpeed | clearJam
  | setRecovery | setSteerMode | setTrimManual | setSteerGains | setPlate | clearPlate | setPumpDemand
  | setTransport | setPortTimeout | ackEvents | setEventEnables | setAlertLine | setMarkWidth =>
    exact ⟨_, rfl, h.post⟩
  | queryMeasurements | queryDepth | queryDemand | queryWheels | queryRecovery | querySteering | queryPlates
  | querySurvey | queryStatus | queryEvents => exact ⟨_, rfl, h.receive_same fun _ => rfl⟩
  | queryPort | queryCheck | queryReturn | testInject | releaseHalt | resetReturn =>
    refine ⟨_, rfl, h.receive_same fun t => ?_⟩
    (repeat' split) <;> simp
  | queryZone | readNext | reportDensity | surveyWindow =>
    refine ⟨_, rfl, h.receive_same fun t => ?_⟩
    dsimp only
    (repeat' split) <;> rfl
  | setPlantCeiling => exact ⟨_, rfl, h.receive_same fun t => by simp⟩
  | reportRopeCount => exact ⟨_, rfl, h.receive fun _ ht => ht.reportCount.reply⟩
  | setDatum =>
    refine ⟨_, rfl, h.receive fun _ ht => ?_⟩
    split
    · exact ht.reply
    · exact ht.takeDatum.reply
  | halt => exact ⟨_, rfl, h.receive fun _ ht => ht.haltTaken.reply⟩
  | surveyClaim p tag d => exact h.surveyClaim p tag d
  | surveyRelease p tag d => exact h.surveyRelease p tag d
  | surveyConfig => exact ⟨_, rfl, h.runRequest fun _ ht _ hr => ht.configSurvey hr⟩
  | surveyClear => exact ⟨_, rfl, h.runRequest fun _ ht hc hr => ht.clearSurvey ((runningRefusal_none _).1 hr) hc⟩
  | surveySetPointer =>
    refine ⟨_, rfl, h.runRequest fun t ht hc hr => ?_⟩
    obtain ⟨hn, hle⟩ := (pointerRefusal_none ..).1 hr
    exact ht.truncateSurvey hn hle hc
  | surveyStart =>
    refine ⟨_, rfl, h.runRequest fun t ht _ hr => ?_⟩
    obtain ⟨hn, _, hroom, _⟩ := (startRefusal_none t).1 hr
    exact ht.startSurvey hn hroom
  | surveyStop =>
    refine ⟨_, rfl, h.runRequest fun _ ht hc _ => ?_⟩
    obtain ⟨hr, _, hrun⟩ := ht.stopSurvey
    exact of hr (hrun hc)
  | surveyCheck =>
    refine ⟨_, rfl, h.runRequest fun t ht _ hr => ?_⟩
    obtain ⟨hs, _⟩ := (checkRefusal_none t).1 hr
    exact ht.startCheck (by rcases hs with hs | hs <;> rw [hs] <;> rfl)
  | headRestart => exact ⟨_, rfl, h.receive fun _ ht => ht.reply.restartHub⟩
  | postedHeadApply p => exact h.postedHeadApply p
  | holdTimerExpiry p => exact h.holdTimerExpiry p
  | sampleSlot =>
    refine ⟨_, rfl, ?_⟩
    split
    · exact h.takeInvalid
    · exact h.takeInvalid
    · exact h.takeInvalid
    · exact h.takeValid
  | sensorLost => exact ⟨_, rfl, .ite (fun _ => loseSensor (h.same rfl)) fun _ => h⟩
  | tachGateEnd | flowGateEnd => exact ⟨_, rfl, h.same (by simp)⟩
  | governorUpdate => exact ⟨_, rfl, h.governorStep⟩
  | headPressureSample => exact ⟨_, rfl, h.takeHeadPressure⟩
  | plateSample => exact ⟨_, rfl, h.plateStep⟩
  | snapshotIntervalExpiry => exact ⟨_, rfl, .ite (fun _ => h.same (by simp [pushSnapshot])) fun _ => h.same rfl⟩
  | stallTimerExpiry => exact ⟨_, rfl, .ite (fun _ => h.takeStall) fun _ => h⟩
  | tachFault | primingTimerExpiry | starvationCountExpiry =>
    exact ⟨_, rfl, .ite (fun _ => h.same (by simp)) fun _ => h⟩
  | depthDisagree => exact ⟨_, rfl, .ite (fun _ => raiseDisagree (h.same rfl)) fun _ => h⟩
  | disagreeClear => exact ⟨_, rfl, .ite (fun _ => setDisagree (h.same rfl)) fun _ => h⟩
  | phaseTimerExpiry => exact h.phaseTimerExpiry
  | burstStallTimerExpiry => exact h.burstStallTimerExpiry
  | settleTimerExpiry | moveTimerExpiry => exact ⟨_, rfl, .ite (fun _ => releaseHead (h.same rfl)) fun _ => h⟩
  | plantReadyRise => exact ⟨_, rfl, .ite (fun _ => h) fun _ => h.same (by simp)⟩
  | plantReadyFall => exact ⟨_, rfl, .ite (fun _ => h.same (by simp)) fun _ => h⟩
  | silenceTimerExpiry => exact ⟨_, rfl, .ite (fun _ => h.silence) fun _ => h⟩
  | startUpTimerExpiry => exact ⟨_, rfl, .ite (fun _ => h.same rfl) fun _ => h⟩
  | widthTimerExpiry => exact ⟨_, rfl, h.same rfl⟩

end SurveyLegal

/-- Settles O23: a close appends a record where the segment opened and opens the next at its bottom (`closePassed`),
the check pass changes no top and no bottom (`records_writeCheck`, `bounds_passOver`), and each state of the survey says
what claimant, segment and room it has (`RunLegal`). -/
theorem surveyLegalKept : Obligations.SurveyLegalKept := by
  intro s t hs h
  unfold step at h
  split at h
  · cases h
    exact hs.same rfl
  · next c rest _ =>
    have hrest : SurveyLegal { s with pending := rest } := hs.same rfl
    obtain ⟨u, hu, hk⟩ := hrest.exec c
    cases hu.symm.trans h
    exact hk

end Sys2Proof.Machine
end

section
/-! SUPPORT. The claim (O44), the settings of a run (O45) and the reading of the table (O48). -/

namespace Sys2Proof.Machine

/-! ## A run request (R122) -/

theorem contextBytes_congr {s t : State} (hs : t.su.state = s.su.state) (hc : t.su.claimant = s.su.claimant)
    (hl : t.su.records.length = s.su.records.length) : contextBytes t = contextBytes s := by
  simp only [contextBytes, Su.pointer, hs, hc, hl]

theorem contextBytes_of_su {s t : State} (h : t.su = s.su) : contextBytes t = contextBytes s :=
  contextBytes_congr (by rw [h]) (by rw [h]) (by rw [h])

@[simp] theorem contextBytes_hear (p : Port) (s : State) : contextBytes (hear p s) = contextBytes s :=
  contextBytes_of_su (by simp)

theorem hear_su (p : Port) (s : State) : (hear p s).su = s.su := by simp

/-- The survey stands beside everything a reply touches. -/
theorem reply_setSu (k : Kind) (p : Port) (tag : Byte) (st : Status) (d : List Byte) (u : Su) (s : State) :
    reply k p tag st d (s.setSu u) = { reply k p tag st d s with su := u } := rfl

section
variable {k : Kind} {p : Port} {tag : Byte} {d : List Byte} {refusal : State → Option Status} {effect : State → State}
  {s : State}

theorem runRequest_ready (hp : permitted k p = true) (hl : d.length = payloadLength k) (hr : s.pi.hub = .ready) :
    runRequest k p tag d refusal effect s =
      if s.su.claimant ≠ some p then answered k p tag .notClaimant (contextBytes s) s
      else match refusal (hear p s) with
        | some code => answered k p tag code (contextBytes s) s
        | none => reply k p tag .done (contextBytes (effect (hear p s))) (effect (hear p s)) := by
  refine (receive_ready hp hl hr _).trans ?_
  simp only [hear_su, contextBytes_hear]
  rfl

theorem runRequest_other (hp : permitted k p = true) (hl : d.length = payloadLength k) (hr : s.pi.hub = .ready)
    (hc : s.su.claimant ≠ some p) :
    runRequest k p tag d refusal effect s = answered k p tag .notClaimant (contextBytes s) s :=
  (runRequest_ready hp hl hr).trans (if_pos hc)

theorem runRequest_refused (hp : permitted k p = true) (hl : d.length = payloadLength k) (hr : s.pi.hub = .ready)
    (hc : s.su.claimant = some p) {code : Status} (hf : refusal (hear p s) = some code) :
    runRequest k p tag d refusal effect s = answered k p tag code (contextBytes s) s := by
  rw [runRequest_ready hp hl hr, if_neg (not_not.2 hc), hf]

theorem runRequest_taken (hp : permitted k p = true) (hl : d.length = payloadLength k) (hr : s.pi.hub = .ready)
    (hc : s.su.claimant = some p) (hf : refusal (hear p s) = none) :
    runRequest k p tag d refusal effect s =
      reply k p tag .done (contextBytes (effect (hear p s))) (effect (hear p s)) := by
  rw [runRequest_ready hp hl hr, if_neg (not_not.2 hc), hf]

end

/-- R122: a run request of a port that does not hold the claim. -/
theorem exec_runRequest_other {i : Instr} {k : Kind} {p : Port} {tag : Byte} {d : List Byte} {s : State}
    (hi : i.request = some (k, p, tag, d))
    (hk : k ∈ [Kind.surveyConfig, .surveyClear, .surveySetPointer, .surveyStart, .surveyStop, .surveyCheck])
    (hl : d.length = payloadLength k) (hr : s.pi.hub = .ready) (hc : s.su.claimant ≠ some p) :
    exec i s = .next (answered k p tag .notClaimant (contextBytes s) s) := by
  cases i with
  | surveyConfig | surveyClear | surveySetPointer | surveyStart | surveyStop | surveyCheck =>
    cases hi
    exact congrArg _ (runRequest_other rfl hl hr hc)
  | _ => cases hi <;> simp at hk

/-! ## The refusals, in order (R123 to R126, R143) -/

section
variable (p : Port) (s : State)

theorem configRefusal_hear (d : List Byte) : configRefusal d (hear p s) =
    if s.su.state.running = true then some .runActive else if s.su.state = .full then some .full
    else if configOk (natAt d 0) (natAt d 4) (natAt d 8) (natAt d 12) = true then none else some .outOfRange := by
  simp only [configRefusal, hear_su]

theorem runningRefusal_hear :
    runningRefusal (hear p s) = if s.su.state.running = true then some .runActive else none := by
  simp only [runningRefusal, hear_su]

theorem pointerRefusal_hear (n : Nat) : pointerRefusal n (hear p s) =
    if s.su.state.running = true then some .runActive else if s.su.records.length < n then some .outOfRange
    else none := by
  simp only [pointerRefusal, hear_su, Su.pointer]

end

/-! ## The settings (R123 to R125) -/

/-- R125: RX and RY rebuilt from the last record kept. -/
theorem rebuiltDeviation_take {rs : List SurveyRecord} {n : Nat} {r : SurveyRecord} (hn : 0 < n)
    (hr : rs[n - 1]? = some r) : rebuiltDeviation (rs.take n) = (r.dx * 100000, r.dy * 100000) := by
  obtain ⟨hlt, hget⟩ := List.getElem?_eq_some_iff.1 hr
  have hlast : (rs.take n).getLast? = some r := by
    rw [List.getLast?_take, if_neg hn.ne', hr]
    rfl
  rw [rebuiltDeviation, hlast]

section
variable {p : Port} {tag : Byte} {d : List Byte} {s : State}

/-- R123. -/
theorem exec_surveyConfig (hr : s.pi.hub = .ready) (hc : s.su.claimant = some p) (hl : d.length = 16) :
    exec (.surveyConfig p tag d) s = .next
      (if s.su.state.running = true then answered .surveyConfig p tag .runActive (contextBytes s) s
       else if s.su.state = .full then answered .surveyConfig p tag .full (contextBytes s) s
       else if configOk (natAt d 0) (natAt d 4) (natAt d 8) (natAt d 12) = true
       then { (answered .surveyConfig p tag .done (contextBytes s) s) with su := configSurvey d s.su }
       else answered .surveyConfig p tag .outOfRange (contextBytes s) s) := by
  change Host.Outcome.next (runRequest ..) = _
  rw [runRequest_ready rfl hl hr, if_neg (not_not.2 hc), configRefusal_hear]
  by_cases hrun : s.su.state.running = true
  · simp only [if_pos hrun]
  · by_cases hfull : s.su.state = .full
    · simp only [if_neg hrun, if_pos hfull]
    · by_cases hset : configOk (natAt d 0) (natAt d 4) (natAt d 8) (natAt d 12) = true
      · simp only [if_neg hrun, if_neg hfull, if_pos hset]
        rw [reply_setSu, hear_su, contextBytes_congr (s := s) rfl rfl rfl]
        rfl
      · simp only [if_neg hrun, if_neg hfull, if_neg hset]

/-- R124. -/
theorem exec_surveyClear (hr : s.pi.hub = .ready) (hc : s.su.claimant = some p) :
    exec (.surveyClear p tag []) s = .next
      (if s.su.state.running = true then answered .surveyClear p tag .runActive (contextBytes s) s
       else { (answered .surveyClear p tag .done (name 1 ++ name (portCode p) ++ num 0) s) with
              su := clearSurvey s.su }) := by
  change Host.Outcome.next (runRequest ..) = _
  rw [runRequest_ready rfl rfl hr, if_neg (not_not.2 hc), runningRefusal_hear]
  by_cases hrun : s.su.state.running = true
  · simp only [if_pos hrun]
  · have hbytes (t : State) (ht : t.su = clearSurvey s.su) :
        contextBytes t = name 1 ++ name (portCode p) ++ num 0 := by
      rw [contextBytes, ht, clearSurvey, hc]
      rfl
    simp only [if_neg hrun]
    rw [reply_setSu, hear_su, hbytes _ rfl]
    rfl

/-- R125. -/
theorem exec_surveySetPointer {n : Nat} (hr : s.pi.hub = .ready) (hc : s.su.claimant = some p) (hl : d.length = 4)
    (hn : n = natAt d 0) (t : State) (ht : t = { hear p s with su := truncateSurvey n s.su }) :
    exec (.surveySetPointer p tag d) s = .next
      (if s.su.state.running = true then answered .surveySetPointer p tag .runActive (contextBytes s) s
       else if s.su.records.length < n then answered .surveySetPointer p tag .outOfRange (contextBytes s) s
       else reply .surveySetPointer p tag .done (contextBytes t) t) := by
  subst hn ht
  change Host.Outcome.next (runRequest ..) = _
  rw [runRequest_ready rfl hl hr, if_neg (not_not.2 hc), pointerRefusal_hear]
  by_cases hrun : s.su.state.running = true
  · simp only [if_pos hrun]
  · by_cases hlt : s.su.records.length < natAt d 0
    · simp only [if_neg hrun, if_pos hlt]
    · simp only [if_neg hrun, if_neg hlt, hear_su]
      rfl

end

theorem configOk_iff (l0 l1 start tol : Nat) : configOk l0 l1 start tol = true ↔
    2500 ≤ l0 ∧ l0 ≤ 50000 ∧ 2500 ≤ l1 ∧ l1 ≤ 50000 ∧ start ≤ 3200000 ∧ 5 ≤ tol ∧ tol ≤ 200 := by
  simp [configOk, inRange_iff, maxDepth, and_assoc]

/-- Settles O45: each request is its list of checks and its effect (`exec_surveyConfig`, `exec_surveyClear`,
`exec_surveySetPointer`). -/
theorem surveySettings : Obligations.SurveySettings := by
  refine ⟨fun i k p tag d s => exec_runRequest_other, fun p tag d s hr hc => ⟨?_, ?_, ?_⟩⟩
  · rintro hl l0 l1 start tol rfl rfl rfl rfl
    simp only [exec_surveyConfig hr hc hl, configOk_iff, configSurvey]
  · exact exec_surveyClear hr hc
  · rintro hl n hn
    have hx := exec_surveySetPointer (tag := tag) hr hc hl hn _ rfl
    refine ⟨fun hrun => ?_, fun hrun hlt => ?_, fun hrun hle => ?_⟩
    · rw [hx, if_pos hrun]
    · rw [hx, if_neg (by simp [hrun]), if_pos hlt]
    · rw [hx, if_neg (by simp [hrun]), if_neg (Nat.not_lt.2 hle)]
      refine ⟨_, rfl, rfl, fun h0 => ?_, fun r hpos hlast => ?_⟩
      · rw [h0]
        exact ⟨rfl, rfl⟩
      · rw [truncateSurvey, rebuiltDeviation_take hpos hlast]
        exact ⟨rfl, rfl⟩

/-! ## The claim (R119, R120) -/

section
variable {p : Port} {tag : Byte} {s : State}

/-- R119: the claim is taken from nobody, or by its holder again. -/
theorem claimTaken_iff {u : Su} (hl : ClaimLegal u) :
    claimTaken p u = true ↔ u.claimant = none ∨ u.claimant = some p := by
  unfold claimTaken
  cases hc : u.claimant with
  | some q => simp
  | none =>
    cases hs : u.state <;> simp_all [SurveyState.running, ClaimLegal]

theorem exec_surveyClaim_taken (hr : s.pi.hub = .ready) (hc : claimTaken p s.su = true) :
    exec (.surveyClaim p tag []) s = .next
      { (answered .surveyClaim p tag .done
          (name (surveyStateCode (claimSurvey p s.su).state) ++ name (portCode p) ++ num s.su.records.length) s) with
        su := claimSurvey p s.su } := by
  refine congrArg _ ((receive_ready rfl rfl hr _).trans ?_)
  simp only [hear_su, if_pos hc]
  rfl

theorem exec_surveyClaim_refused {q : Port} (hr : s.pi.hub = .ready) (hc : s.su.claimant = some q) (hne : q ≠ p) :
    exec (.surveyClaim p tag []) s = .next (answered .surveyClaim p tag .claimedByOther (name (portCode q)) s) := by
  refine congrArg _ ((receive_ready rfl rfl hr _).trans ?_)
  have hn : ¬ claimTaken p s.su = true := by simp [claimTaken, hc, hne]
  simp only [hear_su, if_neg hn, hc]
  rfl

theorem exec_surveyRelease (hr : s.pi.hub = .ready) :
    exec (.surveyRelease p tag []) s = .next (match releaseRefusal p s.su with
      | some code => answered .surveyRelease p tag code (name (surveyStateCode s.su.state)) s
      | none => { (answered .surveyRelease p tag .done (name 0) s) with
                  su := { s.su with claimant := none, state := .idle } }) := by
  refine congrArg _ ((receive_ready rfl rfl hr _).trans ?_)
  simp only [hear_su]
  cases releaseRefusal p s.su <;> rfl

end

/-- Settles O44: with a legal claimant `claimTaken` asks whether the port holds the claim or nobody does
(`claimTaken_iff`). -/
theorem claimAndRelease : Obligations.ClaimAndRelease := by
  rintro p tag s h hr -
  refine ⟨fun hl hc st hst => ?_, fun p' hc hne => exec_surveyClaim_refused hr hc hne, fun hc => ?_, fun hc hrun => ?_,
    fun hc hrun => ?_⟩
  · rw [hst]
    exact exec_surveyClaim_taken hr ((claimTaken_iff hl).2 hc)
  · rw [exec_surveyRelease hr, releaseRefusal, if_pos hc]
  · rw [exec_surveyRelease hr, releaseRefusal, if_neg (not_not.2 hc), if_pos hrun]
  · rw [exec_surveyRelease hr, (releaseRefusal_none ..).2 ⟨hc, hrun⟩]

/-! ## The table read (R137, R138, R179) -/

theorem recordBytes_length (i : Nat) (r : SurveyRecord) : (recordBytes i r).length = 40 := by
  unfold recordBytes
  cases r.check <;> rfl

/-- R187: hearing a frame leaves the window and the cursor of its port. -/
theorem hear_window (p : Port) (s : State) :
    ((hear p s).port p).windowFirst = (s.port p).windowFirst ∧ ((hear p s).port p).windowLast = (s.port p).windowLast ∧
      ((hear p s).port p).cursor = (s.port p).cursor := by
  rw [hear_port]
  exact ⟨rfl, rfl, rfl⟩

section
variable {p : Port} {tag : Byte} {d : List Byte} {s : State}

theorem exec_surveyWindow (hr : s.pi.hub = .ready) (hl : d.length = 8) {first last : Nat} (hf : first = natAt d 0)
    (ht : last = natAt d 4) {a : State} (ha : a = answered .surveyWindow p tag .done [] s) :
    exec (.surveyWindow p tag d) s = .next
      (if first ≤ last ∧ last ≤ 1023
       then a.setPort p { a.port p with windowFirst := first, windowLast := last, cursor := first }
       else answered .surveyWindow p tag .outOfRange [] s) := by
  subst hf ht ha
  refine congrArg _ ((receive_ready rfl hl hr _).trans ?_)
  have hok : windowOk (natAt d 0) (natAt d 4) = true ↔ natAt d 0 ≤ natAt d 4 ∧ natAt d 4 ≤ 1023 := by simp [windowOk]
  simp only [hok]
  by_cases h : natAt d 0 ≤ natAt d 4 ∧ natAt d 4 ≤ 1023
  · rw [if_pos h, if_pos h]
    simp [answered, reply, sendReply, injected]
  · rw [if_neg h, if_neg h]
    rfl

theorem exec_readNext (hr : s.pi.hub = .ready) :
    exec (.readNext p tag []) s = .next (match recordAtCursor (s.port p) s.su.records with
      | some r => (answered .readNext p tag .done (recordBytes (s.port p).cursor r) s).setPort p
          { (answered .readNext p tag .done (recordBytes (s.port p).cursor r) s).port p with
            cursor := (s.port p).cursor + 1 }
      | none => answered .readNext p tag .end_ [] s) := by
  refine congrArg _ ((receive_ready rfl rfl hr _).trans ?_)
  obtain ⟨_, hlast, hcursor⟩ := hear_window p s
  have hat : recordAtCursor ((hear p s).port p) (hear p s).su.records = recordAtCursor (s.port p) s.su.records := by
    rw [recordAtCursor, recordAtCursor, hlast, hcursor, hear_su]
  simp only [hat, hcursor]
  cases recordAtCursor (s.port p) s.su.records with
  | none => rfl
  | some r => simp [answered, reply, sendReply, injected]

end

/-- Settles O48. -/
theorem tableRead : Obligations.TableRead := by
  refine ⟨fun p tag d s hr hl first last a hf ht => ⟨fun h1 h2 ha => ?_, fun h => ?_⟩,
    fun p tag s hr => ⟨fun r a hle hat ha => ?_, fun h => ?_⟩, recordBytes_length⟩
  · rw [exec_surveyWindow hr hl hf ht ha, if_pos ⟨h1, h2⟩]
  · rw [exec_surveyWindow hr hl hf ht rfl, if_neg (by omega)]
  · rw [exec_readNext hr, recordAtCursor, if_pos hle, hat, ha]
  · have hat : recordAtCursor (s.port p) s.su.records = none := by
      rw [recordAtCursor]
      split
      · exact List.getElem?_eq_none (by omega)
      · rfl
    rw [exec_readNext hr, hat]

end Sys2Proof.Machine
end

section
/-! SUPPORT. A run on a depth update: the arming, the conditions and the closes (R128 to R135), and the starts of a run
and of a pass (R126, R143 to R146; O46). -/

namespace Sys2Proof.Machine

/-! ## What a frame leaves of the conditions -/

section
variable (p : Port) (s : State)

theorem hear_dr_kept : (hear p s).dr.state = s.dr.state ∧ (hear p s).dr.depth = s.dr.depth ∧
    (hear p s).dr.toe = s.dr.toe ∧ (hear p s).dr.disagree = s.dr.disagree := by
  rw [hear_dr_eq]
  exact ⟨rfl, rfl, rfl, rfl⟩

theorem accumulateOk_heard (u : Su) : accumulateOk { hear p s with su := u } = accumulateOk s := by
  obtain ⟨hst, hdepth, htoe, hdis⟩ := hear_dr_kept p s
  obtain ⟨hmfe, _, _, hsru, _⟩ := hear_keeps p s
  simp only [accumulateOk, hst, hdepth, htoe, hdis, hmfe, hsru]

theorem zoneAt_heard (u : Su) (x : Nat) : zoneAt { hear p s with su := u } x = zoneAt s x := by
  obtain ⟨_, hzt, _⟩ := hear_keeps p s
  simp only [zoneAt, hzt]

end

/-! ## The first segment (R128, R129) -/

section
variable {s x c : State} {z : ZoneEntry} {st : SurveyState}

theorem openSegment_begun (hst : st = if accumulateOk s = true then .accumulating else .holding)
    (hz : z = zoneAt s s.su.nextTop)
    (hx : x = { s with su := { s.su with
      state := st, nextTop := 0
      segment := some { top := s.su.nextTop, length := if z.selector = .l0 then s.su.l0 else s.su.l1
                        selector := z.selector, cls := z.cls, count := 0, sumX := 0, sumY := 0, sumPsi := 0
                        flags := { noFlags with held := decide (st = .holding) } } } }) :
    openSegment s.su.nextTop (begun s) = x := by
  rw [openSegment, openedSegment_eq (s := begun s) hz, hx, hst]
  rfl

/-- R128: an armed run the depth has reached. -/
theorem surveyDepth_opens (hs : s.su.state = .armed) (hv : s.dr.state = .valid) (hd : s.su.nextTop ≤ s.dr.depth)
    (hx : openSegment s.su.nextTop (begun s) = x) :
    surveyDepth s = { closePassed 1024 x with su := liveSu s.dr.toe (closePassed 1024 x).su } := by
  have hdr : (closePassed 1024 x).dr = s.dr := by
    rw [← hx]
    simp [begun]
  simp only [surveyDepth, hs, if_pos hv, judgeArming_opens hd, hx, refreshLive_eq, hdr]

/-- R128: an armed run the depth has not reached, or whose depth is not VALID. -/
theorem surveyDepth_waits (hs : s.su.state = .armed) (h : s.dr.state ≠ .valid ∨ s.dr.depth < s.su.nextTop) :
    surveyDepth s = s := by
  simp only [surveyDepth, hs]
  rcases h with hv | hd
  · exact if_neg hv
  · split
    · exact judgeArming_waits hd
    · rfl

/-- R130: in ACCUMULATING and HOLDING the condition is judged first. -/
theorem judgeAccumulate_running (hs : s.su.state = .accumulating ∨ s.su.state = .holding)
    (hst : st = if accumulateOk s = true then .accumulating else .holding) :
    judgeAccumulate s = { s with su := { s.su with
      state := st
      segment := if s.su.state = .accumulating ∧ st = .holding then markHeld s.su.segment else s.su.segment } } := by
  have hj : judgedRun s = st := by
    rw [hst, judgedRun]
    rcases hs with hs | hs <;> rw [hs]
  rw [judgeAccumulate_eq, hj]

theorem surveyDepth_run (hs : s.su.state = .accumulating ∨ s.su.state = .holding) (hx : judgeAccumulate s = x) :
    surveyDepth s = refreshLive (if s.dr.state = .valid then closePassed 1024 x else x) := by
  subst hx
  rcases hs with hs | hs <;> simp only [surveyDepth, hs, tableRoom]

end

/-! ## One close (R132 to R135) -/

/-- R132, R133: the means and the flags of a record, by what the segment has counted, the records before it and the
sensor. -/
theorem recordMeans_eq {s : State} {g : Segment} {mx my mpsi : Int}
    (hcounted : 1 ≤ g.count → mx = roundDiv g.sumX g.count ∧ my = roundDiv g.sumY g.count ∧
      mpsi = roundDiv g.sumPsi g.count)
    (hcopied : ∀ q, g.count = 0 → s.su.records.getLast? = some q → mx = q.meanX ∧ my = q.meanY ∧ mpsi = q.meanPsi)
    (hwindow : g.count = 0 → s.su.records = [] → s.mfe.sensor = .ok →
      mx = windowMean s.mfe (·.x) ∧ my = windowMean s.mfe (·.y) ∧ mpsi = windowMean s.mfe (·.psi))
    (hlost : g.count = 0 → s.su.records = [] → s.mfe.sensor = .lost → mx = 0 ∧ my = 0 ∧ mpsi = 0) :
    recordMeans s g = (mx, my, mpsi, { g.flags with
      interpolated := g.flags.interpolated || decide (g.count = 0)
      noSensor := g.flags.noSensor || decide (g.count = 0 ∧ s.su.records = [] ∧ s.mfe.sensor = .lost) }) := by
  unfold recordMeans
  by_cases hc : g.count = 0
  · rw [if_pos hc]
    cases hl : s.su.records.getLast? with
    | some q =>
      obtain ⟨rfl, rfl, rfl⟩ := hcopied q hc hl
      have hne : s.su.records ≠ [] := by
        rintro h
        simp [h] at hl
      simp [hc, hne]
    | none =>
      have hnil : s.su.records = [] := List.getLast?_eq_none_iff.1 hl
      cases hs : s.mfe.sensor with
      | ok =>
        obtain ⟨rfl, rfl, rfl⟩ := hwindow hc hnil hs
        simp [hc]
      | lost =>
        obtain ⟨rfl, rfl, rfl⟩ := hlost hc hnil hs
        simp [hc, hnil]
  · obtain ⟨rfl, rfl, rfl⟩ := hcounted (by omega)
    simp [hc]

/-- R132: a record as it is closed at its segment's bottom. -/
theorem closedRecord_of_means {s : State} {g : Segment} {mx my mpsi : Int} {f : SurveyFlags}
    (hm : recordMeans s g = (mx, my, mpsi, f)) :
    closedRecord s g (g.top + g.length) false =
      { top := g.top, bottom := g.top + g.length, selector := g.selector, cls := g.cls, count := g.count, meanX := mx
        meanY := my, meanPsi := mpsi, dx := roundDiv (s.su.rx + mx * g.length) 100000
        dy := roundDiv (s.su.ry + my * g.length) 100000, check := none, flags := { f with short := false } } := by
  have hl : ((g.top + g.length : Nat) : Int) - g.top = g.length := by omega
  rw [closedRecord, hm, hl]

/-! ## All the closes of a depth update -/

theorem EventsAdded.closePassed (n : Nat) (s : State) : EventsAdded s.eu (closePassed n s).eu := by
  have hwritten (c : State) (g : Segment) (h : EventsAdded s.eu c.eu) :
      EventsAdded s.eu (writeRecord g (g.top + g.length) false c).eu := h.trans (EventsAdded.latchAll _ _).startMark
  refine closePassed_induction (P := fun c => EventsAdded s.eu c.eu) (fun c g h _ _ => hwritten c g h)
    (fun c g h _ _ => ?_) n (EventsAdded.refl _)
  rw [fillTable_eq]
  exact (hwritten c g h).trans (EventsAdded.latchAll _ _)

/-- What the closes of a depth update have made of a state in which a segment was open: the records kept stand, each one
after the first new one is a copy of the one above it, and the segment that is open has counted nothing. -/
structure Closed (s c : State) : Prop where
  frame : ∃ st rs g x y e,
    c = { s with su := { s.su with state := st, records := rs, segment := g, rx := x, ry := y }, eu := e }
  kept : s.su.records <+: c.su.records
  copied : ∀ (k : Nat) (r r' : SurveyRecord), s.su.records.length ≤ k → c.su.records[k]? = some r →
    c.su.records[k + 1]? = some r' → r'.top = r.bottom ∧ r'.count = 0 ∧ r'.flags.interpolated = true ∧
    r'.meanX = r.meanX ∧ r'.meanY = r.meanY ∧ r'.meanPsi = r.meanPsi
  opened : ∀ g ∈ c.su.segment, c.su.records.length < 1024 ∧ c.su.state = s.su.state ∧
    (s.su.records.length < c.su.records.length → g.count = 0 ∧ OpensAt c.su.records g.top)
  filled : c.su.segment = none → c.su.records.length = 1024 ∧
    c.su.state = if s.su.claimant = none then .idle else .full

namespace Closed
variable {s c : State} {g : Segment}

theorem refl (hg : s.su.segment = some g) (hroom : s.su.records.length < 1024) : Closed s s where
  frame := ⟨_, _, _, _, _, _, rfl⟩
  kept := List.prefix_rfl
  copied k r r' hk hr hr' := by
    have := (List.getElem?_eq_some_iff.1 hr).1
    omega
  opened _ _ := ⟨hroom, rfl, fun h => absurd h (lt_irrefl _)⟩
  filled h := by simp [hg] at h

/-- R133: a segment that has counted nothing is closed with the means of the record above it. -/
theorem closedRecord_copies {r : SurveyRecord} {bottom : Nat} (hc : g.count = 0) (hl : c.su.records.getLast? = some r) :
    (closedRecord c g bottom false).count = 0 ∧ (closedRecord c g bottom false).flags.interpolated = true ∧
      (closedRecord c g bottom false).meanX = r.meanX ∧ (closedRecord c g bottom false).meanY = r.meanY ∧
      (closedRecord c g bottom false).meanPsi = r.meanPsi := by
  simp [closedRecord, recordMeans, hc, hl]

/-- One record more: the chain of copies goes on. -/
theorem copied_append (h : Closed s c) (hg : c.su.segment = some g) (bottom : Nat) (k : Nat) (r r' : SurveyRecord)
    (hk : s.su.records.length ≤ k) (hr : (c.su.records ++ [closedRecord c g bottom false])[k]? = some r)
    (hr' : (c.su.records ++ [closedRecord c g bottom false])[k + 1]? = some r') :
    r'.top = r.bottom ∧ r'.count = 0 ∧ r'.flags.interpolated = true ∧ r'.meanX = r.meanX ∧ r'.meanY = r.meanY ∧
      r'.meanPsi = r.meanPsi := by
  have hlt : k + 1 < c.su.records.length + 1 := by
    simpa using (List.getElem?_eq_some_iff.1 hr').1
  rw [List.getElem?_append_left (by omega)] at hr
  by_cases hlast : k + 1 < c.su.records.length
  · rw [List.getElem?_append_left hlast] at hr'
    exact h.copied k r r' hk hr hr'
  · have hend : k + 1 = c.su.records.length := by omega
    have hl : c.su.records.getLast? = some r := by
      rw [List.getLast?_eq_getElem?, ← hend]
      exact hr
    obtain ⟨_, _, hopen⟩ := h.opened g hg
    obtain ⟨hcount, htop⟩ := hopen (by omega)
    rw [hend, List.getElem?_concat_length] at hr'
    cases hr'
    exact ⟨(htop r hl).symm, closedRecord_copies hcount hl⟩

theorem next (h : Closed s c) (hg : c.su.segment = some g) (hroom : c.su.records.length < 1023) :
    Closed s (openSegment (g.top + g.length) (writeRecord g (g.top + g.length) false c)) where
  frame := by
    obtain ⟨_, _, _, _, _, _, rfl⟩ := h.frame
    exact ⟨_, _, _, _, _, _, rfl⟩
  kept := h.kept.trans (List.prefix_append ..)
  copied := h.copied_append hg _
  opened g' hg' := by
    cases hg'
    obtain ⟨_, hstate, _⟩ := h.opened g hg
    refine ⟨?_, hstate, fun _ => ⟨rfl, fun r hr => ?_⟩⟩
    · change (writeRecord g (g.top + g.length) false c).su.pointer < 1024
      rw [writeRecord_pointer]
      omega
    · have hr' : (c.su.records ++ [closedRecord c g (g.top + g.length) false]).getLast? = some r := hr
      rw [List.getLast?_concat] at hr'
      cases hr'
      rfl
  filled hn := by cases hn

theorem full (h : Closed s c) (hg : c.su.segment = some g) (hfull : 1023 ≤ c.su.records.length) :
    Closed s (fillTable (writeRecord g (g.top + g.length) false c)) where
  frame := by
    obtain ⟨_, _, _, _, _, _, rfl⟩ := h.frame
    rw [fillTable_eq]
    exact ⟨_, _, _, _, _, _, rfl⟩
  kept := h.kept.trans (List.prefix_append ..)
  copied := h.copied_append hg _
  opened _ hn := nomatch hn
  filled _ := by
    obtain ⟨hlt, _⟩ := h.opened g hg
    have hlen : (writeRecord g (g.top + g.length) false c).su.pointer = 1024 := by
      rw [writeRecord_pointer]
      omega
    have hclaim : c.su.claimant = s.su.claimant := by
      obtain ⟨_, _, _, _, _, _, hc⟩ := h.frame
      rw [hc]
    rw [fillTable_eq, ← hclaim]
    exact ⟨hlen, rfl⟩

end Closed

theorem closed_closePassed (n : Nat) {s : State} (hg : s.su.segment.isSome = true)
    (hroom : s.su.records.length < 1024) : Closed s (closePassed n s) := by
  obtain ⟨g, hg⟩ := Option.isSome_iff_exists.1 hg
  exact closePassed_induction (P := Closed s) (fun _ _ h => h.next) (fun _ _ h => h.full) n (.refl hg hroom)

/-- R132, R134, R135: a depth that has passed at least one bottom leaves the record of the segment that was open where
the table ended, and SEGMENT_CLOSED latched. -/
theorem closePassed_first (n : Nat) {s : State} {g : Segment} {b : Nat} (hg : s.su.segment = some g)
    (hb : b = g.top + g.length) (hd : b ≤ s.dr.depth) :
    s.su.records ++ [closedRecord s g b false] <+: (closePassed (n + 1) s).su.records ∧
    ∀ q, ((closePassed (n + 1) s).eu.ports.get q).latched &&& 0x200#32 ≠ 0 := by
  subst hb
  have hlatched : ∀ q, ((writeRecord g (g.top + g.length) false s).eu.ports.get q).latched &&& 0x200#32 ≠ 0 := by
    intro q
    have hget : (writeRecord g (g.top + g.length) false s).eu.ports.get q =
        { s.eu.ports.get q with latched := (s.eu.ports.get q).latched ||| eventBit .segmentClosed } := latchAll_get ..
    rw [hget]
    exact bit_of_or (by decide)
  rcases Nat.lt_or_ge s.su.records.length 1023 with hroom | hfull
  · rw [closePassed_next hg hd hroom]
    have hopen : (openSegment (g.top + g.length) (writeRecord g (g.top + g.length) false s)).su.segment.isSome = true :=
      rfl
    have hlen : (openSegment (g.top + g.length)
        (writeRecord g (g.top + g.length) false s)).su.records.length < 1024 := by
      change (writeRecord g (g.top + g.length) false s).su.pointer < 1024
      rw [writeRecord_pointer]
      omega
    exact ⟨(closed_closePassed n hopen hlen).kept, fun q => (EventsAdded.closePassed n _).bit (hlatched q)⟩
  · rw [closePassed_full hg hd hfull, fillTable_eq]
    exact ⟨List.prefix_rfl, fun q => (EventsAdded.latchAll _ _).bit (hlatched q)⟩

/-! ## SURVEY_START (R126) -/

section
variable {p : Port} {tag : Byte} {s : State}

theorem startRefusal_hear : startRefusal (hear p s) = startRefusal s := by
  simp [startRefusal]

/-- R126: where the next segment of the table opens. -/
theorem nextTopOf_eq {u : Su} {top : Nat} (hnil : u.records = [] → top = u.startDepth)
    (hlast : ∀ r, u.records.getLast? = some r → top = r.bottom) : nextTopOf u = top := by
  unfold nextTopOf
  split
  · next r hr => exact (hlast r hr).symm
  · next hr => exact (hnil (List.getLast?_eq_none_iff.1 hr)).symm

/-- R126, R128: the state of a run once it is armed. -/
theorem startSurvey_hear {top : Nat} (hv : s.dr.state = .valid) (htop : nextTopOf s.su = top) :
    startSurvey (hear p s) = surveyDepth { hear p s with su := { s.su with state := .armed, nextTop := top } } := by
  have hv' : ({ hear p s with su := { s.su with state := .armed, nextTop := top } } : State).dr.state = .valid := by
    simp [hv]
  rw [startSurvey, hear_su, htop]
  simp only [surveyDepth, if_pos hv']
  rfl

theorem startRefusal_full (hrun : s.su.state.running = false) (h : s.su.state = .full ∨ 1024 ≤ s.su.records.length) :
    startRefusal s = some .full := by
  rw [startRefusal, Su.pointer, if_neg (by simp [hrun])]
  by_cases hfull : s.su.state = .full
  · rw [if_pos hfull]
  · rw [if_neg hfull, if_pos (h.resolve_left hfull)]

theorem startRefusal_depth (hrun : s.su.state.running = false) (hnf : s.su.state ≠ .full)
    (hroom : s.su.records.length < 1024) (hv : s.dr.state ≠ .valid) : startRefusal s = some .wrongState := by
  rw [startRefusal, Su.pointer, if_neg (by simp [hrun]), if_neg hnf, if_neg (Nat.not_le.2 hroom), if_pos hv]

theorem exec_surveyStart_refused (hr : s.pi.hub = .ready) (hc : s.su.claimant = some p) {code : Status}
    (hf : startRefusal s = some code) :
    exec (.surveyStart p tag []) s = .next (answered .surveyStart p tag code (contextBytes s) s) :=
  congrArg _ (runRequest_refused rfl rfl hr hc (startRefusal_hear.trans hf))

theorem exec_surveyStart_taken (hr : s.pi.hub = .ready) (hc : s.su.claimant = some p)
    (hf : startRefusal s = none) :
    exec (.surveyStart p tag []) s = .next (reply .surveyStart p tag .done (contextBytes (startSurvey (hear p s)))
      (startSurvey (hear p s))) :=
  congrArg _ (runRequest_taken rfl rfl hr hc (startRefusal_hear.trans hf))

/-! ## SURVEY_CHECK (R143, R144) -/

theorem checkRefusal_hear : checkRefusal (hear p s) = checkRefusal s := by
  simp [checkRefusal, Su.pointer]

/-- R143: every refusal of a pass is WRONG_STATE. -/
theorem checkRefusal_wrong (h : (s.su.state ≠ .closed ∧ s.su.state ≠ .full) ∨ s.su.records = [] ∨ s.dr.state ≠ .valid) :
    checkRefusal s = some .wrongState := by
  have hn : checkRefusal s ≠ none := by
    rw [ne_eq, checkRefusal_none]
    tauto
  unfold checkRefusal at hn ⊢
  (repeat' split) <;> simp_all

end

/-- R144: the index of a record that contains a depth. -/
theorem recordContaining_some {depth : Nat} {rs : List SurveyRecord} {k i : Nat}
    (h : recordContaining depth rs k = some i) :
    k ≤ i ∧ ∃ r, rs[i - k]? = some r ∧ r.top ≤ depth ∧ depth < r.bottom := by
  induction rs generalizing k with
  | nil => cases h
  | cons q rs ih =>
    rw [recordContaining] at h
    split at h
    · next hq =>
      cases h
      exact ⟨le_rfl, q, by simp, hq⟩
    · obtain ⟨hk, r, hr, hin⟩ := ih h
      refine ⟨by omega, r, ?_, hin⟩
      have hi : i - k = i - (k + 1) + 1 := by omega
      rw [hi, List.getElem?_cons_succ]
      exact hr

theorem recordContaining_none {depth : Nat} {rs : List SurveyRecord} {k : Nat}
    (h : recordContaining depth rs k = none) : ∀ r ∈ rs, ¬ (r.top ≤ depth ∧ depth < r.bottom) := by
  induction rs generalizing k with
  | nil => simp
  | cons q rs ih =>
    rw [recordContaining] at h
    split at h
    · cases h
    · next hq => exact List.forall_mem_cons.2 ⟨hq, ih h⟩

/-! ## An armed run that opens (R128, R129, R136) -/

/-- R136: while the open segment has counted nothing, the live deviation is the one of the records. -/
theorem liveSu_uncounted {u : Su} {g : Segment} (toe : Nat) (hs : u.state = .accumulating ∨ u.state = .holding)
    (hg : u.segment = some g) (hc : g.count = 0) :
    liveSu toe u = { u with liveX := roundDiv u.rx 100000, liveY := roundDiv u.ry 100000 } := by
  unfold liveSu
  rw [hg]
  rcases hs with hs | hs <;> simp [hs, meanOf, hc]

section
variable {s x : State} {z : ZoneEntry} {st : SurveyState} {len : Nat} {g : Segment}

/-- R128, R129: the depth lies inside the segment that opens. -/
theorem surveyDepth_opens_within (hs : s.su.state = .armed) (hv : s.dr.state = .valid) (hd : s.su.nextTop ≤ s.dr.depth)
    (hst : st = if accumulateOk s = true then .accumulating else .holding) (hz : z = zoneAt s s.su.nextTop)
    (hlen : len = if z.selector = .l0 then s.su.l0 else s.su.l1) (hin : s.dr.depth < s.su.nextTop + len) :
    surveyDepth s = { s with su := { s.su with
      state := st, nextTop := 0, liveX := roundDiv s.su.rx 100000, liveY := roundDiv s.su.ry 100000
      segment := some { top := s.su.nextTop, length := len, selector := z.selector, cls := z.cls, count := 0, sumX := 0
                        sumY := 0, sumPsi := 0, flags := { noFlags with held := decide (st = .holding) } } } } := by
  subst hlen
  have hrun : st = .accumulating ∨ st = .holding := by
    rw [hst]
    exact begun_runs s
  rw [surveyDepth_opens hs hv hd (openSegment_begun hst hz rfl), closePassed_within rfl hin,
    liveSu_uncounted _ hrun rfl rfl]

/-- R128, R132: the depth has passed the bottom of the segment that opens. -/
theorem surveyDepth_opens_past (hs : s.su.state = .armed) (hv : s.dr.state = .valid) (hd : s.su.nextTop ≤ s.dr.depth)
    (hz : z = zoneAt s s.su.nextTop) (hlen : len = if z.selector = .l0 then s.su.l0 else s.su.l1)
    (hpast : s.su.nextTop + len ≤ s.dr.depth) :
    s.su.records <+: (surveyDepth s).su.records ∧
    (∃ r, (surveyDepth s).su.records[s.su.records.length]? = some r ∧ r.top = s.su.nextTop ∧
      r.bottom = s.su.nextTop + len ∧ r.count = 0) ∧
    ∀ q, ((surveyDepth s).eu.ports.get q).latched &&& 0x200#32 ≠ 0 := by
  have hseg := openedSegment_eq (s := begun s) (z := z) hz
  have hbottom : (openedSegment (begun s) s.su.nextTop).top + (openedSegment (begun s) s.su.nextTop).length =
      s.su.nextTop + len := by
    rw [hseg, hlen]
    rfl
  obtain ⟨hprefix, hlatched⟩ := closePassed_first (s := openSegment s.su.nextTop (begun s)) 1023 rfl hbottom.symm hpast
  have hcount : (openedSegment (begun s) s.su.nextTop).count = 0 := by rw [hseg]
  rw [surveyDepth_opens hs hv hd rfl, liveSu_eq]
  have hfirst := List.prefix_iff_getElem?.1 hprefix s.su.records.length (by simp [openSegment, begun])
  refine ⟨(List.prefix_append ..).trans hprefix, ⟨closedRecord (openSegment s.su.nextTop (begun s))
    (openedSegment (begun s) s.su.nextTop) (s.su.nextTop + len) false, ?_, rfl, rfl, hcount⟩, hlatched⟩
  exact hfirst.trans (congrArg some (by simp [openSegment, begun]))

end

/-! ## A pass that starts (R143, R144, R146) -/

section
variable {s : State} {st : SurveyState}

theorem aboveTable_iff {r : SurveyRecord} (hr : s.su.records.head? = some r) :
    aboveTable s = true ↔ s.dr.depth < r.top := by
  unfold aboveTable
  cases hrs : s.su.records with
  | nil => simp [hrs] at hr
  | cons q rest =>
    rw [hrs] at hr
    cases hr
    exact decide_eq_true_iff

/-- R146: the check condition judged in a pass. -/
theorem judgeCheck_pass (hs : s.su.state = .checking ∨ s.su.state = .checkHolding)
    (hst : st = if checkOk s = true then .checking else .checkHolding) :
    judgeCheck s = { s with su := { s.su with state := st } } := by
  subst hst
  unfold judgeCheck
  rcases hs with hs | hs <;> cases hok : checkOk s <;> simp only [hs] <;> simp [State.setSu]
  · exact hs ▸ rfl
  · exact hs ▸ rfl

/-- R144, R150: the frame stands above the first record. -/
theorem startCheck_ends {p : Port} {r : SurveyRecord} (hc : s.su.claimant = some p)
    (hr : s.su.records.head? = some r) (hd : s.dr.depth < r.top) :
    startCheck s = { s with
      su := { s.su with state := if s.su.records.length = 1024 then .full else .closed, checkFromFull := false
                        checkFront := 0, target := none, checkCount := 0, checkSumX := 0, checkSumY := 0
                        verdicts := VerdictCounts.zero }
      eu := latchAll .checkDone s.eu } := by
  have habove : aboveTable (s.setSu (openedCheck s)) = true := (aboveTable_iff hr).2 hd
  have hclaim : (openedCheck s).claimant.isNone = false := by rw [openedCheck, hc]; rfl
  rw [startCheck]
  simp only [if_pos habove]
  rw [endCheck_eq]
  simp only [State.setSu_su, hclaim, Bool.false_eq_true, if_false]
  rfl

theorem startCheck_begins {r : SurveyRecord} (hr : s.su.records.head? = some r) (hd : r.top ≤ s.dr.depth)
    (hv : s.dr.state = .valid) :
    startCheck s = { s with su := { s.su with
      state := if s.dr.disagree = false ∧ s.mfe.sensor = .ok then .checking else .checkHolding
      checkFromFull := decide (s.su.state = .full), checkFront := s.dr.depth
      target := recordContaining s.dr.depth s.su.records 0, checkCount := 0, checkSumX := 0, checkSumY := 0
      verdicts := VerdictCounts.zero } } := by
  have habove : ¬ aboveTable (s.setSu (openedCheck s)) = true :=
    (aboveTable_iff (s := s.setSu (openedCheck s)) hr).not.2 (Nat.not_lt.2 hd)
  have hok : checkOk (s.setSu (openedCheck s)) = true ↔ s.dr.disagree = false ∧ s.mfe.sensor = .ok := by
    simp [checkOk, hv, openedCheck]
  rw [startCheck]
  simp only [if_neg habove]
  rw [judgeCheck_pass (.inl rfl) rfl]
  simp only [hok]
  rfl

end

/-! ## One close as it is stated (R132 to R135) -/

/-- R134, R135: what follows the record of a close. -/
theorem closePassed_step {n : Nat} {s x : State} {g g' : Segment} {z : ZoneEntry} {bottom : Nat}
    (hg : s.su.segment = some g) (hb : bottom = g.top + g.length) (hd : bottom ≤ s.dr.depth)
    (hx : x = writeRecord g bottom false s) (hz : z = zoneAt s bottom)
    (hg' : g' = { top := bottom, length := if z.selector = .l0 then s.su.l0 else s.su.l1, selector := z.selector
                  cls := z.cls, count := 0, sumX := 0, sumY := 0, sumPsi := 0
                  flags := { noFlags with held := decide (s.su.state = .holding) } }) :
    closePassed (n + 1) s =
      if 1023 ≤ s.su.records.length
      then { x with su := { x.su with state := if s.su.claimant = none then .idle else .full }
                    eu := latchAll .surveyFull x.eu }
      else closePassed n { x with su := { x.su with segment := some g' } } := by
  subst hb hx
  rcases Nat.lt_or_ge s.su.records.length 1023 with hroom | hfull
  · rw [closePassed_next hg hd hroom, if_neg (Nat.not_le.2 hroom), openSegment,
      openedSegment_eq (z := z) (by rw [hz]; rfl), hg']
    rfl
  · rw [closePassed_full hg hd hfull, if_pos hfull, fillTable_eq]
    rfl

/-- Settles O46: a start is `surveyDepth` of the armed run (`startSurvey_hear`), a run's update is `surveyDepth_opens`
or `surveyDepth_run`, one close is `closePassed_step`, and all the closes of an update are `Closed` and settle
(`closePassed_settles`). -/
theorem runStarts : Obligations.RunStarts := by
  refine ⟨?_, ?_, ?_, ?_⟩
  · rintro p tag s h hr hc rfl
    obtain ⟨hdst, hdepth, htoe, hdis⟩ := hear_dr_kept p s
    refine ⟨fun hrun => ?_, fun hrun hfull => ?_, fun hrun hnf hroom hv => ?_,
      fun hrun hnf hroom hv top len z st hnil hlast hz hlen hst => ?_, fun hbad => ?_, fun hs hv r hhead => ?_⟩
    · exact exec_surveyStart_refused hr hc (if_pos hrun)
    · exact exec_surveyStart_refused hr hc (startRefusal_full hrun hfull)
    · exact exec_surveyStart_refused hr hc (startRefusal_depth hrun hnf hroom hv)
    · have ht := startSurvey_hear (p := p) hv (nextTopOf_eq hnil hlast)
      refine ⟨_, exec_surveyStart_taken hr hc ((startRefusal_none s).2 ⟨hrun, hnf, hroom, hv⟩), ht, ?_⟩
      rw [ht, ← hdepth]
      have hv' : (hear p s).dr.state = .valid := hdst.trans hv
      have hz' := hz.trans (zoneAt_heard p s { s.su with state := .armed, nextTop := top } top).symm
      have hst' := hst.trans (by rw [← accumulateOk_heard p s { s.su with state := .armed, nextTop := top }])
      refine ⟨fun hd => surveyDepth_waits rfl (.inr hd), fun hd hin => ?_, fun hpast => ⟨?_, ?_⟩⟩
      · exact surveyDepth_opens_within rfl hv' hd hst' hz' hlen hin
      · rw [surveyDepth_eq]
      · exact surveyDepth_opens_past (s := { hear p s with su := { s.su with state := .armed, nextTop := top } }) rfl
          hv' (le_of_add_le_left hpast) hz' hlen hpast
    · exact congrArg _ (runRequest_refused rfl rfl hr hc (checkRefusal_hear.trans (checkRefusal_wrong hbad)))
    · have hne : s.su.records ≠ [] := by
        rintro hnil
        simp [hnil] at hhead
      refine ⟨_, congrArg _ (runRequest_taken rfl rfl hr hc
        (checkRefusal_hear.trans ((checkRefusal_none s).2 ⟨hs, hne, hv⟩))), fun hd => ?_, fun hd => ?_⟩
      · rw [startCheck_ends (p := p) (r := r) (by rwa [hear_su]) (by rwa [hear_su]) (by rwa [hdepth]), hear_su]
        simp
      · rw [startCheck_begins (r := r) (by rwa [hear_su]) (by rwa [hdepth]) (by rwa [hdst]), hear_su, hdepth, hdis]
        obtain ⟨hmfe, _⟩ := hear_keeps p s
        rw [hmfe]
        refine ⟨rfl, fun i hi => ?_, fun hnone => recordContaining_none hnone⟩
        obtain ⟨_, g, hg, hin⟩ := recordContaining_some hi
        exact ⟨g, hg, hin⟩
  · rintro s c x z st hst
    refine ⟨fun hs => ⟨surveyDepth_waits hs, fun hv hd hz hx hcl => ?_⟩, fun hs hx => ⟨fun hv => ?_, fun hv hcl => ?_⟩⟩
    · rw [surveyDepth_opens hs hv hd (openSegment_begun hst hz hx), hcl]
    · rw [surveyDepth_run hs ((judgeAccumulate_running hs hst).trans hx.symm), if_neg hv, refreshLive_eq]
      rw [hx]
    · rw [surveyDepth_run hs ((judgeAccumulate_running hs hst).trans hx.symm), if_pos hv, refreshLive_eq, ← hcl]
      have hdr : c.dr = s.dr := by rw [hcl, hx]; simp
      rw [hdr]
  · rintro n s x g g' r z bottom hg hb
    refine ⟨fun hd => closePassed_within hg (hb ▸ hd), fun hd hrec hcounted hcopied hwindow hlost hx hz hg' => ?_⟩
    have hclosed : closedRecord s g bottom false = r := by
      rw [hb, closedRecord_of_means (recordMeans_eq hcounted hcopied hwindow hlost), ← hb, hrec]
    refine closePassed_step hg hb hd ?_ hz hg'
    have hlen : (bottom : Int) - g.top = g.length := by omega
    rw [hx, writeRecord_eq, hclosed, hlen]
  · rintro s c hseg hroom rfl
    have h := closed_closePassed 1024 hseg hroom
    obtain ⟨st, rs, g, x, y, e, hframe⟩ := h.frame
    refine ⟨by rw [hframe], h.kept, h.copied, ?_⟩
    cases hend : (closePassed 1024 s).su.segment with
    | none =>
      obtain ⟨hlen, hstate⟩ := h.filled hend
      exact .inl ⟨hlen, rfl, hstate⟩
    | some g =>
      obtain ⟨hlen, hstate, _⟩ := h.opened g hend
      exact .inr ⟨hlen, hstate, g, rfl, closePassed_settles hroom (Nat.le_add_left ..) g hend⟩

end Sys2Proof.Machine
end

section
/-! SUPPORT. A run or a pass stopped (R127, R151), and a check pass on a depth update (R145 to R150; O47). -/

namespace Sys2Proof.Machine

/-! ## The check field of a record (R148, R149) -/

/-- R148. -/
theorem verdictOf_agree {count dx dy tolerance : Nat} (hc : 1 ≤ count) :
    verdictOf count dx dy tolerance = .agree ↔ dx ≤ tolerance ∧ dy ≤ tolerance := by
  rw [verdictOf, if_neg (by omega)]
  by_cases hx : dx ≤ tolerance <;> by_cases hy : dy ≤ tolerance <;> simp [hx, hy, ← Nat.not_le]

theorem checkFieldOf_counted {r : SurveyRecord} {count tolerance : Nat} {x y : Int} {f : CheckField} (hc : 1 ≤ count)
    (hf : f = checkFieldOf r count x y tolerance) :
    f.meanX = roundDiv x count ∧ f.meanY = roundDiv y count ∧
      (f.verdict = .agree ↔ (f.meanX - r.meanX).natAbs ≤ tolerance ∧ (f.meanY - r.meanY).natAbs ≤ tolerance) := by
  have hmean (sum : Int) : meanOf sum count = roundDiv sum count := if_neg (by omega)
  subst hf
  exact ⟨hmean x, hmean y, verdictOf_agree hc⟩

theorem writeCheck_some {s : State} {i : Nat} {r : SurveyRecord} {f : CheckField} (hr : s.su.records[i]? = some r)
    (hf : f = checkFieldOf r s.su.checkCount s.su.checkSumX s.su.checkSumY s.su.tolerance) :
    writeCheck i s = { s with su := { s.su with
      records := s.su.records.set i { r with check := some f }, verdicts := s.su.verdicts.add f.verdict 1
      checkCount := 0, checkSumX := 0, checkSumY := 0 } } := by
  rw [writeCheck, hr, hf]
  rfl

theorem passOver_getElem? (depth n : Nat) (rs : List SurveyRecord) (j : Nat) :
    (passOver depth n rs)[j]? =
      rs[j]?.map fun q => if j < n ∧ depth < q.top then { q with check := some noDataField } else q := by
  induction rs generalizing n j with
  | nil => cases n <;> rfl
  | cons r rs ih =>
    cases n with
    | zero => simp [passOver]
    | succ n =>
      cases j with
      | zero => simp [passOver]
      | succ j => simpa [passOver] using ih n j

/-- R149: the records passed over, counted. -/
theorem countPassed_eq (depth n : Nat) (rs : List SurveyRecord) :
    countPassed depth n rs = (rs.take n).countP fun q => decide (depth < q.top) := by
  induction rs generalizing n with
  | nil => cases n <;> rfl
  | cons r rs ih =>
    cases n with
    | zero => rfl
    | succ n =>
      rw [countPassed, ih, List.take_succ_cons, List.countP_cons, Nat.add_comm]
      simp

theorem countPassed_congr (depth n : Nat) {rs rs' : List SurveyRecord} (he : bounds rs' = bounds rs) :
    countPassed depth n rs' = countPassed depth n rs := by
  have hbounds (l : List SurveyRecord) :
      countPassed depth n l = ((bounds l).take n).countP fun b => decide (depth < b.1) := by
    rw [countPassed_eq, bounds, ← List.map_take, List.countP_map]
    rfl
  rw [hbounds, hbounds, he]

theorem recordContaining_congr (depth : Nat) {rs rs' : List SurveyRecord} (k : Nat) (he : bounds rs' = bounds rs) :
    recordContaining depth rs' k = recordContaining depth rs k := by
  induction rs generalizing rs' k with
  | nil => rw [List.map_eq_nil_iff.1 he]
  | cons r rs ih =>
    cases rs' with
    | nil => cases he
    | cons r' rs' =>
      obtain ⟨hr, hrest⟩ := List.cons.inj he
      obtain ⟨htop, hbottom⟩ := Prod.mk.inj hr
      rw [recordContaining, recordContaining, htop, hbottom, ih (k + 1) hrest]

/-! ## SURVEY_STOP (R127, R151) -/

section
variable {p : Port} {tag : Byte} {s : State}

theorem exec_surveyStop_idle (hr : s.pi.hub = .ready) (hc : s.su.claimant = some p) (hn : s.su.state.running = false) :
    exec (.surveyStop p tag []) s = .next (answered .surveyStop p tag .wrongState (contextBytes s) s) :=
  congrArg _ (runRequest_refused rfl rfl hr hc (by rw [stopRefusal, hear_su, hn]; rfl))

theorem exec_surveyStop_running (hr : s.pi.hub = .ready) (hc : s.su.claimant = some p)
    (hn : s.su.state.running = true) :
    exec (.surveyStop p tag []) s = .next (reply .surveyStop p tag .done (contextBytes (stopSurvey (hear p s)))
      (stopSurvey (hear p s))) :=
  congrArg _ (runRequest_taken rfl rfl hr hc (by rw [stopRefusal, hear_su, hn]; rfl))

/-- R127, R132, R135: the SHORT record of a stop. -/
theorem stopRun_short {g : Segment} {bottom : Nat} {mx my len : Int} (hclaim : s.su.claimant = some p)
    (hg : s.su.segment = some g) (hc : 1 ≤ g.count) (ht : g.top + 500 ≤ s.dr.toe)
    (hb : bottom = min s.dr.toe (g.top + g.length)) (hmx : mx = roundDiv g.sumX g.count)
    (hmy : my = roundDiv g.sumY g.count) (hlen : len = (bottom : Int) - g.top) :
    stopRun s = { s with
      su := { s.su with
        state := if 1023 ≤ s.su.records.length then .full else .closed, segment := none, liveX := 0, liveY := 0
        rx := s.su.rx + mx * len, ry := s.su.ry + my * len
        records := s.su.records ++
          [{ top := g.top, bottom := bottom, selector := g.selector, cls := g.cls, count := g.count, meanX := mx
             meanY := my, meanPsi := roundDiv g.sumPsi g.count, dx := roundDiv (s.su.rx + mx * len) 100000
             dy := roundDiv (s.su.ry + my * len) 100000, flags := { g.flags with short := true }, check := none }] }
      eu := if 1023 ≤ s.su.records.length then latchAll .surveyFull (startMark (latchAll .segmentClosed s.eu))
            else startMark (latchAll .segmentClosed s.eu) } := by
  have hclosed : closedRecord s g bottom true =
      { top := g.top, bottom := bottom, selector := g.selector, cls := g.cls, count := g.count, meanX := mx
        meanY := my, meanPsi := roundDiv g.sumPsi g.count, dx := roundDiv (s.su.rx + mx * len) 100000
        dy := roundDiv (s.su.ry + my * len) 100000, flags := { g.flags with short := true }, check := none } := by
    rw [closedRecord, recordMeans, if_neg (by omega), hmx, hmy, hlen]
  rw [stopRun_writes hg hc ht rfl, ← hb, writeRecord_eq, hclosed, ← hlen]
  split
  · rw [fillTable_eq]
    simp only [hclaim]
    exact refreshLive_none rfl
  · exact refreshLive_none rfl

/-- R150: a pass that ends while the survey is claimed. -/
theorem endCheck_claimed (hc : s.su.claimant = some p) :
    endCheck s = { s with
      su := { s.su with target := none, checkCount := 0, checkSumX := 0, checkSumY := 0, checkFront := 0
                        checkFromFull := false, state := if s.su.records.length = 1024 then .full else .closed }
      eu := latchAll .checkDone s.eu } := by
  rw [endCheck_eq]
  simp only [hc]
  rfl

/-- R151: a pass stopped is a pass that ends, of a state in which the target may have been written. -/
theorem stopCheck_claimed (hc : s.su.claimant = some p) :
    stopCheck s = { s with
      su := { s.su with
        target := none, checkCount := 0, checkSumX := 0, checkSumY := 0, checkFront := 0, checkFromFull := false
        state := if s.su.records.length = 1024 then .full else .closed
        records := (stopCheck s).su.records, verdicts := (stopCheck s).su.verdicts }
      eu := latchAll .checkDone s.eu } := by
  by_cases h : s.su.target = none ∨ s.su.checkCount = 0
  · rw [stopCheck_empty h, endCheck_claimed hc]
  · obtain ⟨htarget, hcount⟩ := not_or.1 h
    obtain ⟨i, hi⟩ := Option.ne_none_iff_exists'.1 htarget
    have hlen := length_of_bounds (bounds_writeCheck i s)
    have hw : (writeCheck i s).su.claimant = some p := by rw [writeCheck_eq]; exact hc
    rw [stopCheck_target hi (by omega), endCheck_claimed hw, hlen, writeCheck_eq]

end

/-! ## A pass on a depth update (R145 to R150) -/

section
variable {s w : State} {st : SurveyState} {front bound : Nat} {top : SurveyRecord}

/-- R146: outside a pass no check condition is judged. -/
theorem judgeCheck_rest (hs : s.su.state ≠ .checking) (hh : s.su.state ≠ .checkHolding) : judgeCheck s = s := by
  unfold judgeCheck
  split
  case h_1 h => exact absurd h hs
  case h_2 h => exact absurd h hh
  all_goals rfl

/-- R145: the check front follows the depth up. -/
theorem surveyDepth_pass (hs : s.su.state = .checking ∨ s.su.state = .checkHolding) (hv : s.dr.state = .valid)
    (hfront : front = min s.su.checkFront s.dr.depth) :
    surveyDepth s = judgeCheck (advanceCheck { s with su := { s.su with checkFront := front } }) := by
  subst hfront
  rcases hs with hs | hs <;> simp only [surveyDepth, hs, if_pos hv] <;> rfl

theorem surveyDepth_pass_unsure (hs : s.su.state = .checking ∨ s.su.state = .checkHolding) (hv : s.dr.state ≠ .valid) :
    surveyDepth s = { s with su := { s.su with state := .checkHolding } } := by
  have hok : checkOk s = false := by simp [checkOk, hv]
  have hj := judgeCheck_pass hs (st := .checkHolding) (by rw [hok]; rfl)
  rcases hs with hs | hs <;> simp only [surveyDepth, hs, if_neg hv, hj]

/-- R149: the records that the frame has passed over, and the target that it stands at. -/
theorem moveTarget_within (hhead : s.su.records.head? = some top) (hd : top.top ≤ s.dr.depth) :
    moveTarget bound s = { s with su := { s.su with
      records := passOver s.dr.depth bound s.su.records
      verdicts := s.su.verdicts.add .noData (countPassed s.dr.depth bound s.su.records)
      checkCount := 0, checkSumX := 0, checkSumY := 0, target := recordContaining s.dr.depth s.su.records 0 } } :=
  if_neg ((aboveTable_iff hhead).not.2 (Nat.not_lt.2 hd))

/-- R150: the frame has left the table upward. -/
theorem moveTarget_above (hhead : s.su.records.head? = some top) (hd : s.dr.depth < top.top) :
    moveTarget bound s = { s with
      su := { s.su with
        records := passOver s.dr.depth bound s.su.records
        verdicts := s.su.verdicts.add .noData (countPassed s.dr.depth bound s.su.records)
        checkCount := 0, checkSumX := 0, checkSumY := 0, target := none, checkFront := 0, checkFromFull := false
        state := if s.su.claimant = none then .idle else if s.su.records.length = 1024 then .full else .closed }
      eu := latchAll .checkDone s.eu } := by
  have hlen := length_of_bounds (bounds_passOver s.dr.depth bound s.su.records)
  refine (if_pos ((aboveTable_iff hhead).2 hd)).trans ?_
  rw [endCheck_eq]
  simp only [State.setSu_su, Su.pointer, hlen, Option.isNone_iff_eq_none]
  rfl

/-- R148: what the target of a pass gets when its top has been left upward: its check field, before the records above it
are passed over. -/
structure Written (s w : State) (front bound : Nat) (written : Nat → Option CheckField)
    (counts : VerdictCounts) : Prop where
  frame : ∃ rs n x y, w = { s with su := { s.su with
      checkFront := front, records := rs, verdicts := counts, checkCount := n, checkSumX := x, checkSumY := y } }
  tops : bounds w.su.records = bounds s.su.records
  fields : ∀ (j : Nat) (q : SurveyRecord), s.su.records[j]? = some q →
    w.su.records[j]? = some { q with check := if (written j).isSome then written j else q.check }
  below : ∀ j < bound, written j = none

namespace Written
variable {written : Nat → Option CheckField} {counts : VerdictCounts}

/-- R149: a record is written NO_DATA when it lies above the target and below the frame. -/
theorem field (h : Written s w front bound written counts) {j : Nat} {q : SurveyRecord} {f : Option CheckField}
    (hq : s.su.records[j]? = some q)
    (hf : f = if (written j).isSome then written j
              else if j < bound ∧ s.dr.depth < q.top
              then some { count := 0, meanX := 0, meanY := 0, verdict := .noData } else q.check) :
    (passOver s.dr.depth bound w.su.records)[j]? = some { q with check := f } := by
  rw [passOver_getElem?, h.fields j q hq, hf, Option.map_some]
  by_cases hp : j < bound ∧ s.dr.depth < q.top
  · simp [h.below j hp.1, hp, noDataField]
  · simp [hp]

theorem head (h : Written s w front bound written counts) (hhead : s.su.records.head? = some top) :
    ∃ r, w.su.records.head? = some r ∧ r.top = top.top := by
  rw [List.head?_eq_getElem?] at hhead ⊢
  exact ⟨_, h.fields 0 top hhead, rfl⟩

theorem passed (h : Written s w front bound written counts) :
    countPassed s.dr.depth bound w.su.records =
      (s.su.records.take bound).countP fun q => decide (s.dr.depth < q.top) := by
  rw [countPassed_congr _ _ h.tops, countPassed_eq]

/-- R149, R146: the depth lies at or below the first record's top. -/
theorem within (h : Written s w front bound written counts) (hs : s.su.state = .checking ∨ s.su.state = .checkHolding)
    (hv : s.dr.state = .valid)
    (hst : st = if s.dr.disagree = false ∧ s.mfe.sensor = .ok ∧ s.dr.depth ≤ front + 500 then .checking
                else .checkHolding)
    (hhead : s.su.records.head? = some top) (hd : top.top ≤ s.dr.depth) :
    judgeCheck (moveTarget bound w) = { s with su := { s.su with
      checkFront := front, state := st, records := passOver s.dr.depth bound w.su.records
      verdicts := counts.add .noData ((s.su.records.take bound).countP fun q => decide (s.dr.depth < q.top))
      checkCount := 0, checkSumX := 0, checkSumY := 0
      target := recordContaining s.dr.depth s.su.records 0 } } := by
  obtain ⟨r, hr, htop⟩ := h.head hhead
  have hpassed := h.passed
  have htarget := recordContaining_congr s.dr.depth 0 h.tops
  obtain ⟨rs, n, x, y, rfl⟩ := h.frame
  rw [moveTarget_within hr (htop ▸ hd)]
  refine (judgeCheck_pass (st := st) ?_ ?_).trans ?_
  · exact hs
  · rw [hst]
    simp [checkOk, hv, and_assoc]
  · simp only [hpassed, htarget]

theorem above (h : Written s w front bound written counts) (hhead : s.su.records.head? = some top)
    (hd : s.dr.depth < top.top) :
    judgeCheck (moveTarget bound w) = { s with
      su := { s.su with
        checkFront := 0, records := passOver s.dr.depth bound w.su.records
        state := if s.su.claimant = none then .idle else if s.su.records.length = 1024 then .full else .closed
        verdicts := counts.add .noData ((s.su.records.take bound).countP fun q => decide (s.dr.depth < q.top))
        checkCount := 0, checkSumX := 0, checkSumY := 0, target := none, checkFromFull := false }
      eu := latchAll .checkDone s.eu } := by
  obtain ⟨r, hr, htop⟩ := h.head hhead
  have hpassed := h.passed
  have hlen := length_of_bounds h.tops
  obtain ⟨rs, n, x, y, rfl⟩ := h.frame
  rw [moveTarget_above hr (htop ▸ hd)]
  refine (judgeCheck_rest ?_ ?_).trans ?_
  · simp only [ne_eq]
    split_ifs <;> simp
  · simp only [ne_eq]
    split_ifs <;> simp
  · simp only [hpassed, hlen]

end Written

/-- R148: the target whose top the depth has left is written, and the records above it are passed over. -/
theorem advanceCheck_target {r : SurveyRecord} {f : CheckField} (hi : s.su.target = some bound)
    (hr : s.su.records[bound]? = some r) (hd : s.dr.depth < r.top)
    (hf : f = checkFieldOf r s.su.checkCount s.su.checkSumX s.su.checkSumY s.su.tolerance)
    {written : Nat → Option CheckField} (hw : ∀ j, written j = if j = bound then some f else none) :
    ∃ w, advanceCheck { s with su := { s.su with checkFront := front } } = moveTarget bound w ∧
      Written s w front bound written (s.su.verdicts.add f.verdict 1) := by
  have hwc := writeCheck_some (s := { s with su := { s.su with checkFront := front } }) hr hf
  refine ⟨writeCheck bound { s with su := { s.su with checkFront := front } }, ?_, ?_⟩
  · simp only [advanceCheck, hi, hr, if_pos hd]
  · refine ⟨⟨_, _, _, _, hwc⟩, bounds_writeCheck .., fun j q hq => ?_, fun j hj => ?_⟩
    · rw [hwc, hw]
      by_cases hj : j = bound
      · subst hj
        rw [hr] at hq
        cases hq
        simp [(List.getElem?_eq_some_iff.1 hr).1]
      · simp [hj, Ne.symm hj, hq]
    · rw [hw, if_neg hj.ne]

/-- R149: a pass below the table that the depth has entered. -/
theorem advanceCheck_none {r : SurveyRecord} (hn : s.su.target = none) (hr : s.su.records.getLast? = some r)
    (hd : s.dr.depth < r.bottom) {written : Nat → Option CheckField} (hw : ∀ j, written j = none) :
    ∃ w, advanceCheck { s with su := { s.su with checkFront := front } } = moveTarget s.su.records.length w ∧
      Written s w front s.su.records.length written s.su.verdicts := by
  refine ⟨{ s with su := { s.su with checkFront := front } }, ?_, ⟨_, _, _, _, rfl⟩, rfl, fun j q hq => ?_,
    fun j _ => hw j⟩
  · simp only [advanceCheck, hn, hr, if_pos hd, Su.pointer]
  · rw [hw]
    exact hq

/-- R149: a target whose top the depth has not left, or a pass still below the table. -/
theorem advanceCheck_stays
    (h : (∃ i r, s.su.target = some i ∧ s.su.records[i]? = some r ∧ r.top ≤ s.dr.depth) ∨
      (∃ r, s.su.target = none ∧ s.su.records.getLast? = some r ∧ r.bottom ≤ s.dr.depth)) :
    advanceCheck s = s := by
  rcases h with ⟨i, r, hi, hr, hd⟩ | ⟨r, hn, hr, hd⟩
  · simp only [advanceCheck, hi, hr, if_neg (Nat.not_lt.2 hd)]
  · simp only [advanceCheck, hn, hr, if_neg (Nat.not_lt.2 hd)]

end

/-- Settles O47: a stop is `stopSurvey_armed`, `stopRun_discards`, `stopRun_short` or `stopCheck_claimed`; a pass on an
update stays (`advanceCheck_stays`) or moves its target (`Written`). -/
theorem runStops : Obligations.RunStops := by
  refine ⟨?_, ?_⟩
  · rintro p tag s h hr hc rfl
    obtain ⟨_, _, htoe, _⟩ := hear_dr_kept p s
    have hsu := hear_su p s
    obtain ⟨_, _, _, _, _, _, _, heu, _⟩ := hear_keeps p s
    refine ⟨exec_surveyStop_idle hr hc, fun hrun => ⟨_, exec_surveyStop_running hr hc hrun, rfl, stopSurvey_eq _,
      fun hs hg => ?_, fun g hs hg hd => ?_, fun g bottom mx my len hs hg hcount hlong hb hmx hmy hlen => ?_,
      fun hs => ?_⟩⟩
    · rw [stopSurvey_armed (by rwa [hsu]) (by rwa [hsu]), hsu]
      exact ⟨heu, rfl⟩
    · rw [stopSurvey_run (by rwa [hsu]), stopRun_discards (by rwa [hsu]) (by rwa [htoe]), hsu]
      exact ⟨heu, rfl⟩
    · rw [stopSurvey_run (by rwa [hsu]), stopRun_short (p := p) (by rwa [hsu]) (by rwa [hsu]) hcount (by rwa [htoe])
        (by rwa [htoe]) hmx hmy hlen, hsu, heu]
      exact ⟨rfl, rfl⟩
    · have hstop : stopSurvey (hear p s) = stopCheck (hear p s) := stopSurvey_check (by rwa [hsu])
      rw [hstop]
      refine ⟨?_, ?_, fun hempty => ?_, fun i r f hi hcount hrec hf => ?_⟩
      · rw [stopCheck_claimed (p := p) (by rwa [hsu]), heu]
      · rw [stopCheck_claimed (p := p) (by rwa [hsu]), hsu]
      · rw [stopCheck_empty (by rwa [hsu]), endCheck_eq, hsu]
        exact ⟨rfl, rfl⟩
      · rw [stopCheck_target (by rwa [hsu]) (by rwa [hsu]), endCheck_eq,
          writeCheck_some (r := r) (f := f) (by rwa [hsu]) (by rwa [hsu]), hsu]
        exact ⟨rfl, rfl, checkFieldOf_counted hcount hf⟩
  · intro s hs
    refine ⟨surveyDepth_pass_unsure hs, fun hv front st top hfront hst hhead => ⟨fun hstay => ?_, ?_⟩⟩
    · have hstays := advanceCheck_stays (s := { s with su := { s.su with checkFront := front } }) hstay
      rw [surveyDepth_pass hs hv hfront, hstays]
      refine judgeCheck_pass hs ?_
      rw [hst]
      simp [checkOk, hv, and_assoc]
    · intro bound written counts hmoves
      obtain ⟨w, hadvance, hw⟩ : ∃ w, advanceCheck { s with su := { s.su with checkFront := front } } =
          moveTarget bound w ∧ Written s w front bound written counts := by
        rcases hmoves with ⟨r, f, hi, hr, hd, hf, hwritten, rfl⟩ | ⟨r, hn, hr, hd, rfl, hwritten, rfl⟩
        · exact advanceCheck_target hi hr hd hf hwritten
        · exact advanceCheck_none hn hr hd hwritten
      have ht := surveyDepth_pass hs hv hfront
      rw [hadvance] at ht
      have hlen : (passOver s.dr.depth bound w.su.records).length = s.su.records.length :=
        (length_of_bounds (bounds_passOver ..)).trans (length_of_bounds hw.tops)
      rcases Nat.lt_or_ge s.dr.depth top.top with hd | hd
      · rw [hw.above hhead hd] at ht
        refine ⟨_, rfl, ?_, ?_, fun j q f hq hf => ?_, fun _ => ?_, fun i hi => ?_, fun _ hle => ?_⟩
        · rw [ht]
          simp [Nat.not_le.2 hd]
        · rw [ht]
          exact hlen
        · rw [ht]
          exact hw.field hq hf
        · rw [ht]
        · rw [ht] at hi
          cases hi
        · omega
      · rw [hw.within hs hv hst hhead hd] at ht
        refine ⟨_, rfl, ?_, ?_, fun j q f hq hf => ?_, fun hlt => ?_, fun i hi => ?_, fun hn _ => ?_⟩
        · rw [ht]
          simp [hd]
        · rw [ht]
          exact hlen
        · rw [ht]
          exact hw.field hq hf
        · omega
        · rw [ht] at hi
          obtain ⟨_, q, hq, hin⟩ := recordContaining_some hi
          exact ⟨q, hq, hin⟩
        · rw [ht] at hn
          exact recordContaining_none hn

end Sys2Proof.Machine
end

section
/-! SUPPORT. The feed limit published (O20): what it is read from (`feedView`), and what each operation makes of it. An
operation either leaves what the limit is read from as it was or ends by computing the limit anew. -/

namespace Sys2Proof.Machine

/-! ## What the feed limit is read from (R171, R172) -/

/-- The return without what the feed limit does not read of it. -/
def Rc.feeding (r : Rc) : Rc :=
  { r with qc := 0, densityReported := false, qConc := 0, qFloor := 0, qEff := 0, pump := 0, short := false
           primingTimer := none, starvation := 0, ready := false, armed := false, lowFor := 0 }

/-- What `FeedPublished` reads of a state. -/
structure FeedView where
  running : Bool
  rc : Rc
  cabin : LinkState
  depth : DepthState

def feedView (s : State) : FeedView :=
  { running := bothRunning s, rc := s.rc.feeding, cabin := s.pi.ports.cabin.link, depth := s.dr.state }

/-- R159: the settling flow follows the transport settings. -/
abbrev Settled (s : State) : Prop := s.rc.qSettle = settlingFlow s.rc.transport

theorem FeedPublished.settled {s : State} (h : FeedPublished s) : Settled s := h.1

theorem Settled.of_rc {s t : State} (h : Settled s) (hr : t.rc = s.rc) : Settled t := by
  rw [Settled, hr]
  exact h

/-! ## The operations that compute the limit anew -/

theorem settled_selectZone {x : Nat} {s : State} (h : Settled s) : Settled (selectZone x s) := by
  unfold selectZone
  dsimp only
  split <;> exact h

/-- R22: a depth update ends at RC. -/
theorem feedPublished_handDepth {s : State} (h : Settled s) : FeedPublished (handDepth s) := by
  have hz : Settled (selectZone s.dr.depth s) := settled_selectZone h
  exact feedPublished_recomputeFeed (hz.of_rc (by simp))

theorem settled_setFeedRate {v : Nat} {s : State} (h : Settled s) : Settled (setFeedRate v s) := by
  rw [setFeedRate_eq]
  unfold Settled
  dsimp only
  split
  · exact h
  · rfl

theorem settled_emptyHistory {s : State} (h : Settled s) : Settled (emptyHistory s) := settled_setFeedRate h

theorem settled_takeCount {count : Int} {s : State} (h : Settled s) : Settled (takeCount count s) := h.of_rc (by simp)

theorem feedPublished_testPlant {s : State} (h : Settled s) : FeedPublished (testPlant s) := by
  unfold testPlant
  split <;> exact feedPublished_changeReturn h

/-- R59: a stall taken from a RUNNING wheel is handed to RC, whatever the limit was before. -/
theorem feedPublished_takeStall {w : Wheel} {s : State} (h : Settled s) (hw : (s.wg.wheels.get w).state = .running) :
    FeedPublished (takeStall w s) := by
  obtain ⟨u, hu, _⟩ := takeStall_eq hw
  have hs : Settled (takeStall w s) := by
    unfold takeStall
    rw [handWheels_feed]
    simpa [Settled] using h
  rw [hu] at hs ⊢
  exact feedPublished_recomputeFeed hs

namespace FeedPublished
variable {s t : State}

/-- A change that the limit does not read. -/
theorem same (h : FeedPublished s) (he : feedView t = feedView s) : FeedPublished t := by
  obtain ⟨hrun, hrc, hlink, hdepth⟩ := FeedView.mk.inj he
  obtain ⟨hsettled, hlimit⟩ := h
  have hstate : t.rc.state = s.rc.state := (congrArg Rc.state hrc :)
  have hcomputed : feedComputed t.rc = feedComputed s.rc := (congrArg feedComputed hrc :)
  have hflow : t.rc.qSettle = s.rc.qSettle := (congrArg Rc.qSettle hrc :)
  have htransport : t.rc.transport = s.rc.transport := (congrArg Rc.transport hrc :)
  have hfeed : t.rc.feedLimit = s.rc.feedLimit := (congrArg Rc.feedLimit hrc :)
  refine ⟨by rw [hflow, htransport, hsettled], ?_⟩
  simpa [feedAllowed, hrun, hstate, hlink, hdepth, hcomputed, hfeed] using hlimit

theorem ite {c : Prop} [Decidable c] (ht : c → FeedPublished t) (hs : ¬ c → FeedPublished s) :
    FeedPublished (if c then t else s) := by
  split
  · next hc => exact ht hc
  · next hc => exact hs hc

/-! ## Ports and requests (R177, R182, R187) -/

theorem setPort {p : Port} {q : PortRec} (h : FeedPublished s) (hq : p = .cabin → q.link = (s.port p).link) :
    FeedPublished (s.setPort p q) := by
  refine h.congr rfl rfl rfl ?_ rfl
  cases p
  · exact hq rfl
  · rfl
  · rfl

theorem reply {k : Kind} {p : Port} {tag : Byte} {st : Status} {d : List Byte} (h : FeedPublished s) :
    FeedPublished (reply k p tag st d s) := h.setPort fun _ => rfl

theorem receive {k : Kind} {p : Port} {tag : Byte} {d : List Byte} {body : State → State} (h : FeedPublished s)
    (hb : ∀ t, FeedPublished t → FeedPublished (body t)) : FeedPublished (receive k p tag d body s) := by
  have hh : FeedPublished (hear p s) := feedPublished_hear h p
  exact .ite (fun _ => hh.reply) fun _ => .ite (fun _ => hh.reply) fun _ => .ite (fun _ => hh.reply) fun _ => hb _ hh

theorem runRequest {k : Kind} {p : Port} {tag : Byte} {d : List Byte} {refusal : State → Option Status}
    {effect : State → State} (h : FeedPublished s) (he : ∀ t, feedView (effect t) = feedView t) :
    FeedPublished (runRequest k p tag d refusal effect s) := by
  refine h.receive fun t ht => ?_
  (repeat' split)
  · exact ht.reply
  · exact ht.reply
  · exact (ht.same (he t)).reply

/-! ## The posted queues (R184 to R186) -/

theorem drainList {p : Port} {es : List Entry} (h : FeedPublished s) : FeedPublished (drainList p es s) :=
  (Carries.refl s).drainList.feed h

theorem releaseHead {concerns : Posted → Bool} (h : FeedPublished s) : FeedPublished (releaseHead concerns s) :=
  (Carries.refl s).releaseHead.feed h

theorem post {k : Kind} {p : Port} {tag : Byte} {d : List Byte} {make : State → Posted × Bool} (h : FeedPublished s) :
    FeedPublished (post k p tag d make s) :=
  h.receive fun _ ht => .ite (fun _ => ht.reply) fun _ =>
    .ite (fun _ => ht.reply.drainList) fun _ => ht.reply.setPort fun _ => rfl

theorem postedHeadApply (h : FeedPublished s) (p : Port) :
    ∃ t, execPostedHeadApply p s = .next t ∧ FeedPublished t := by
  refine ⟨_, rfl, ?_⟩
  split
  · exact h
  · exact .ite (fun _ => h) fun _ => h.drainList

theorem holdTimerExpiry (h : FeedPublished s) (p : Port) :
    ∃ t, execHoldTimerExpiry p s = .next t ∧ FeedPublished t := by
  refine ⟨_, rfl, ?_⟩
  split
  · exact drainList ((Carries.refl s).recordRefusal.feed h)
  · exact h

theorem plateStep {n1 n2 s1 s2 : Int} (h : FeedPublished s) : FeedPublished (plateStep n1 n2 s1 s2 s) := by
  have hend {q : PlateId} {before : PerPlate Plate} {u : State} (hu : FeedPublished u) :
      FeedPublished (handEnd q before u) := .ite (fun _ => hu.releaseHead) fun _ => hu
  exact hend (hend (hend (hend (h.same rfl))))

/-! ## Depth (R20 to R25) -/

theorem reportCount {count : Int} (h : FeedPublished s) : FeedPublished (reportCount count s) := by
  unfold Machine.reportCount
  split
  · exact h.same rfl
  · exact feedPublished_handDepth (settled_takeCount h.settled)
  · exact feedPublished_handDepth (settled_takeCount (settled_emptyHistory h.settled))

theorem takeDatum {v : Nat} (h : FeedPublished s) : FeedPublished (takeDatum v s) :=
  feedPublished_handDepth (settled_emptyHistory h.settled)

theorem goStale (h : FeedPublished s) : FeedPublished (goStale s) :=
  .ite (fun _ => feedPublished_handDepth h.settled) fun _ => h

/-! ## The wheels (R54 to R66, R75) -/

theorem releaseWheels (h : FeedPublished s) : FeedPublished (releaseWheels s) :=
  feedPublished_handWheels h rfl rfl rfl

theorem takeTachFault {w : Wheel} (h : FeedPublished s) : FeedPublished (takeTachFault w s) :=
  feedPublished_handWheels h rfl rfl rfl

theorem haltTaken (h : FeedPublished s) : FeedPublished (haltTaken s) :=
  have hh : FeedPublished (haltWheels s) := feedPublished_haltWheels h
  .ite (fun _ => hh.releaseHead) fun _ => hh

theorem judgeGate {w : Wheel} {pulses : Nat} (h : FeedPublished s) : FeedPublished (judgeGate w pulses s) := by
  have hcount (n : Nat) : FeedPublished (s.setWheel w { s.wg.wheels.get w with zeroGates := n }) :=
    h.same (by cases w <;> rfl)
  exact .ite (fun _ => .ite (fun _ => .ite (fun _ => h.takeTachFault) fun _ => hcount _) fun _ => hcount 0) fun _ => h

end FeedPublished

/-- R64: a wheel that comes to rest did not run. -/
theorem feedView_restWheels (s : State) : feedView (restWheels s) = feedView s := by
  have hrest (w : WheelRec) : decide ((restWheel w).state = .running) = decide (w.state = .running) := by
    unfold restWheel
    split
    · next h => simp [h.1]
    · rfl
  rw [restWheels_eq]
  simp [feedView, bothRunning, rested, hrest]

theorem stalledWheel_running {s : State} {w : Wheel} (h : stalledWheel s = some w) :
    (s.wg.wheels.get w).state = .running := by
  have hreached : stallReached (s.wg.wheels.get w) = true := by
    unfold stalledWheel at h
    split at h
    · cases h
    · next ha _ => cases h; exact ha
    · next _ hb => cases h; exact hb
    · next ha hb =>
      split at h <;> cases h
      · exact hb
      · exact ha
  exact (stallReached_iff.1 hreached).1

/-- R171: a RECOVERING wheel does not run, before the wheels have moved or after. -/
theorem feedView_governed_recovering {pa pb : Int} {s : State} {w : Wheel}
    (h : (s.wg.wheels.get w).state = .recovering) : feedView (governed pa pb s) = feedView s := by
  have hstill : ((governed pa pb s).wg.wheels.get w).state = .recovering := by
    rcases governed_state (pa := pa) (pb := pb) (s := s) w with ⟨hn, _⟩ | ⟨_, hk, _⟩
    · rw [h] at hn
      simp at hn
    · exact hk.trans h
  have hnone {u : State} (hu : (u.wg.wheels.get w).state = .recovering) : bothRunning u = false := by
    cases w <;> simp_all [bothRunning, PerWheel.get]
  exact congrArg (fun b => { feedView s with running := b }) ((hnone hstill).trans (hnone h).symm)

namespace FeedPublished
variable {s t : State}

/-- R54: a stall that is taken and a recovery that is stepped leave the limit published, and any other change of the
wheels is handed to RC at the end of the update. -/
theorem governorStep {pa pb : Int} (h : FeedPublished s) : FeedPublished (governorStep pa pb s) := by
  have hmoved : FeedPublished (handWheels s.wg.wheels (restWheels (governed pa pb s))) := by
    rw [restWheels_eq, raiseHalted_eu]
    exact feedPublished_handWheels h rfl rfl rfl
  rw [governorStep_eq]
  cases hr : s.sru.record with
  | none =>
    rw [stepSru_none hr]
    unfold takeStalls
    split
    · next hw =>
      have hstall := feedPublished_takeStall (s := governed pa pb s) h.settled (stalledWheel_running hw)
      have hrest := hstall.same (feedView_restWheels _)
      rwa [handWheels_published hrest]
    · exact hmoved
  | some r =>
    rw [takeStalls_recovering (governed_record.trans hr), stepSru, hr]
    dsimp only
    split
    · next hw =>
      have hrest : FeedPublished (restWheels (governed pa pb s)) :=
        h.same ((feedView_restWheels _).trans (feedView_governed_recovering hw))
      have hstep := (Carries.refl _).stepRecovery (r := r) |>.feed hrest
      rwa [handWheels_published hstep]
    · exact hmoved

theorem phaseTimerExpiry (h : FeedPublished s) : ∃ t, execPhaseTimerExpiry s = .next t ∧ FeedPublished t := by
  refine ⟨_, rfl, ?_⟩
  split
  · exact h
  · refine .ite (fun _ => ?_) fun _ => h
    split
    · exact h.same rfl
    · exact (Carries.refl s).endRecovered.feed h

theorem burstStallTimerExpiry (h : FeedPublished s) :
    ∃ t, execBurstStallTimerExpiry s = .next t ∧ FeedPublished t := by
  refine ⟨_, rfl, ?_⟩
  split
  · exact h
  · exact .ite (fun _ => (Carries.refl s).failBurst.feed h) fun _ => h

/-! ## The return (R155 to R170) -/

theorem takeCeiling {qp : Nat} (h : FeedPublished s) : FeedPublished (takeCeiling qp s) := by
  have hc : FeedPublished (ceilingTaken qp s) := feedPublished_recomputeFeed (by rw [rejudgeShort_eq]; exact h.settled)
  rw [takeCeiling_eq]
  unfold ceilingIntoState
  split
  · exact .ite (fun _ => feedPublished_changeReturn hc.settled) fun _ => hc
  · exact .ite (fun _ => feedPublished_changeReturn hc.settled) fun _ => hc
  · exact .ite (fun _ => feedPublished_changeReturn hc.settled) fun _ => hc
  all_goals exact hc

theorem judgeFlow (h : FeedPublished s) : FeedPublished (judgeFlow s) := by
  unfold Machine.judgeFlow
  split
  · exact .ite (fun _ => feedPublished_changeReturn h.settled) fun _ => h
  · exact .ite (fun _ => .ite (fun _ => feedPublished_changeReturn h.settled) fun _ => h.same rfl) fun _ => h.same rfl
  all_goals exact h

theorem resetReturn (h : FeedPublished s) : FeedPublished (resetReturn s) := by
  unfold Machine.resetReturn
  split
  · exact feedPublished_testPlant h.1
  · exact feedPublished_testPlant h.1
  all_goals exact h

theorem takeRise {low : Nat} (h : FeedPublished s) : FeedPublished (takeRise low s) := by
  unfold Machine.takeRise
  split
  · exact .ite (fun _ => feedPublished_changeReturn h.settled) fun _ => h
  · exact .ite (fun _ => feedPublished_testPlant h.settled) fun _ => h
  all_goals exact h

theorem takeFall (h : FeedPublished s) : FeedPublished (takeFall s) := by
  unfold Machine.takeFall
  split
  · exact feedPublished_changeReturn h.1
  · exact feedPublished_changeReturn h.1
  · exact feedPublished_changeReturn h.1
  · exact h.same rfl
  all_goals exact h

/-! ## Restart and loss (R189, R191) -/

/-- R176: a return that is OFF feeds nothing. -/
theorem restartHub (h : FeedPublished s) : FeedPublished (restartHub s) := by
  have ht := restartHub_eq (s := s) rfl rfl
  rw [restarting_eq] at ht
  generalize Machine.restartHub s = t at ht
  have hrc : t.rc = (restartRc s).rc := by rw [ht]
  refine ⟨by rw [hrc]; exact h.settled, ?_⟩
  simp [feedAllowed, hrc, restartRc]

/-- R189: the loss of the cabin ends at RC, that of the hoist at the depth update it makes. -/
theorem silence {p : Port} (h : FeedPublished s) :
    FeedPublished (surveyLoss p (handLoss p (raisePortLost p (losePort p s)))) := by
  have hloss : FeedPublished (handLoss p (raisePortLost p (losePort p s))) := by
    have hother (hp : p ≠ .cabin) : FeedPublished (raisePortLost p (losePort p s)) := by
      refine (h.setPort (p := p) (q := lostPort (s.port p)) fun hc => absurd hc hp).same ?_
      simp [feedView, bothRunning, losePort_pi]
    cases p with
    | cabin => exact feedPublished_recomputeFeed (by rw [haltWheels_rc]; simpa using h.settled)
    | plant => exact (hother (by decide)).same (by simp [handLoss, feedView, bothRunning, suspendCrossCheck_dr])
    | hoist => exact (hother (by decide)).goStale
  exact hloss.same (by simp [feedView, bothRunning])

end FeedPublished

/-! ## The operations with more than one branch that the limit does not read -/

theorem feedView_stopSurvey (s : State) : feedView (stopSurvey s) = feedView s := by
  unfold stopSurvey
  split <;> simp [feedView, bothRunning]

theorem feedView_startCheck (s : State) : feedView (startCheck s) = feedView s := by
  unfold startCheck
  dsimp only
  split <;> simp [feedView, bothRunning]

theorem feedView_takeInvalid (s : State) : feedView (takeInvalid s) = feedView s := by
  unfold takeInvalid
  dsimp only
  split
  · simp [loseSensor, feedView, bothRunning]
  · rfl

theorem feedView_takeValid (x y psi : Int) (s : State) : feedView (takeValid x y psi s) = feedView s := by
  unfold takeValid
  dsimp only
  split
  · simp [feedView, bothRunning]
  · simp [endStarting, feedView, bothRunning]

theorem feedView_takeHeadPressure (r : Reading) (s : State) : feedView (takeHeadPressure r s) = feedView s := by
  have hdr : (takeHeadPressure r s).dr.state = s.dr.state := by
    unfold takeHeadPressure compareDepth
    dsimp only
    (repeat' split) <;> simp [raiseDisagree_dr, setDisagree_dr]
  simp [feedView, bothRunning, hdr]

/-- R28: a feed rate sets the floor, and the settling flow stands. -/
theorem feedView_setFeedRate {s : State} (h : Settled s) (v : Nat) : feedView (setFeedRate v s) = feedView s := by
  rw [setFeedRate_eq]
  unfold feedView
  dsimp only
  split
  · rfl
  · simp [Rc.feeding, flooredRc, bothRunning, h]

namespace FeedPublished
variable {s t : State}

theorem feedRate {v : Nat} (h : FeedPublished s) : FeedPublished (setFeedRate v s) :=
  h.same (feedView_setFeedRate h.settled v)

/-! ## Every command -/

/-- What a command answers keeps the limit published. -/
theorem exec (h : FeedPublished s) (c : Instr) : ∃ t, exec c s = .next t ∧ FeedPublished t := by
  cases c with
  | powerOn ready =>
    have hreset : FeedPublished (State.powered ready) := by cases ready <;> decide
    exact ⟨_, rfl, hreset.same rfl⟩
  | badFrame => exact ⟨_, rfl, .ite (fun _ => h.setPort fun _ => rfl) fun _ => h⟩
  | unknownKind p => exact ⟨_, rfl, (feedPublished_hear h p).setPort fun _ => rfl⟩
  | setScaler | setDepthCheck | loadZone | dropZone | setWheelDemand | setRamp | setFallbackSpeed | clearJam
  | setRecovery | setSteerMode | setTrimManual | setSteerGains | setPlate | clearPlate | setPumpDemand
  | setTransport | setPortTimeout | ackEvents | setEventEnables | setAlertLine | setMarkWidth =>
    exact ⟨_, rfl, h.post⟩
  | queryMeasurements | queryDepth | queryDemand | queryWheels | queryRecovery | querySteering | queryPlates
  | querySurvey | queryStatus | queryEvents => exact ⟨_, rfl, h.receive fun _ ht => ht.reply⟩
  | queryZone =>
    exact ⟨_, rfl, h.receive fun _ ht => .ite (fun _ => ht.reply) fun _ =>
      reply (.ite (fun _ => ht.same rfl) fun _ => ht)⟩
  | queryPort =>
    refine ⟨_, rfl, h.receive fun _ ht => ?_⟩
    split
    · exact ht.reply
    · exact reply (.ite (fun _ => ht.same rfl) fun _ => ht)
  | queryCheck => exact ⟨_, rfl, h.receive fun _ ht => reply (.ite (fun _ => ht.same rfl) fun _ => ht)⟩
  | queryReturn => exact ⟨_, rfl, h.receive fun _ ht => reply (.ite (fun _ => ht) fun _ => ht.same rfl)⟩
  | reportRopeCount => exact ⟨_, rfl, h.receive fun _ ht => ht.reportCount.reply⟩
  | setDatum =>
    refine ⟨_, rfl, h.receive fun _ ht => ?_⟩
    split
    · exact ht.reply
    · exact ht.takeDatum.reply
  | halt => exact ⟨_, rfl, h.receive fun _ ht => ht.haltTaken.reply⟩
  | releaseHalt => exact ⟨_, rfl, h.receive fun _ ht => .ite (fun _ => ht.reply) fun _ => ht.releaseWheels.reply⟩
  | surveyClaim =>
    exact ⟨_, rfl, h.receive fun _ ht => .ite (fun _ => reply (ht.same rfl)) fun _ => ht.reply⟩
  | surveyRelease =>
    refine ⟨_, rfl, h.receive fun _ ht => ?_⟩
    split
    · exact ht.reply
    · exact reply (ht.same rfl)
  | surveyConfig | surveyClear | surveySetPointer => exact ⟨_, rfl, h.runRequest fun _ => rfl⟩
  | surveyStart => exact ⟨_, rfl, h.runRequest fun t => by simp [startSurvey, feedView, bothRunning]⟩
  | surveyStop => exact ⟨_, rfl, h.runRequest feedView_stopSurvey⟩
  | surveyCheck => exact ⟨_, rfl, h.runRequest feedView_startCheck⟩
  | surveyWindow =>
    exact ⟨_, rfl, h.receive fun _ ht => .ite (fun _ => reply (ht.setPort fun _ => rfl)) fun _ => ht.reply⟩
  | readNext =>
    refine ⟨_, rfl, h.receive fun _ ht => ?_⟩
    dsimp only
    split
    · exact reply (ht.setPort fun _ => rfl)
    · exact ht.reply
  | setPlantCeiling => exact ⟨_, rfl, h.receive fun _ ht => ht.takeCeiling.reply⟩
  | reportDensity =>
    exact ⟨_, rfl, h.receive fun _ ht => .ite (fun _ => reply (feedPublished_recomputeFeed ht.settled)) fun _ => ht.reply⟩
  | resetReturn => exact ⟨_, rfl, h.receive fun _ ht => .ite (fun _ => ht.reply) fun _ => ht.resetReturn.reply⟩
  | headRestart => exact ⟨_, rfl, h.receive fun _ ht => ht.reply.restartHub⟩
  | testInject =>
    refine ⟨_, rfl, h.receive fun _ ht => ?_⟩
    split
    · exact ht.reply
    · exact .ite (fun _ => reply (ht.setPort fun _ => rfl)) fun _ => ht.reply
  | postedHeadApply p => exact h.postedHeadApply p
  | holdTimerExpiry p => exact h.holdTimerExpiry p
  | sampleSlot =>
    refine ⟨_, rfl, h.same ?_⟩
    split
    · exact feedView_takeInvalid s
    · exact feedView_takeInvalid s
    · exact feedView_takeInvalid s
    · exact feedView_takeValid ..
  | sensorLost => exact ⟨_, rfl, .ite (fun _ => h.same (by simp [loseSensor, feedView, bothRunning])) fun _ => h⟩
  | tachGateEnd => exact ⟨_, rfl, judgeGate (h.same rfl)⟩
  | flowGateEnd => exact ⟨_, rfl, judgeFlow (h.same rfl)⟩
  | governorUpdate => exact ⟨_, rfl, h.governorStep⟩
  | headPressureSample => exact ⟨_, rfl, h.same (feedView_takeHeadPressure ..)⟩
  | plateSample => exact ⟨_, rfl, h.plateStep⟩
  | snapshotIntervalExpiry =>
    exact ⟨_, rfl, .ite (fun _ => feedRate (h.same rfl)) fun _ => h.same rfl⟩
  | stallTimerExpiry => exact ⟨_, rfl, .ite (fun hw => feedPublished_takeStall h.settled hw.1) fun _ => h⟩
  | tachFault => exact ⟨_, rfl, .ite (fun _ => h.takeTachFault) fun _ => h⟩
  | depthDisagree | disagreeClear =>
    exact ⟨_, rfl, .ite (fun _ => h.same (by simp [feedView, bothRunning, raiseDisagree_dr, setDisagree_dr])) fun _ => h⟩
  | phaseTimerExpiry => exact h.phaseTimerExpiry
  | burstStallTimerExpiry => exact h.burstStallTimerExpiry
  | settleTimerExpiry | moveTimerExpiry => exact ⟨_, rfl, .ite (fun _ => releaseHead (h.same rfl)) fun _ => h⟩
  | primingTimerExpiry | starvationCountExpiry =>
    exact ⟨_, rfl, .ite (fun _ => feedPublished_changeReturn h.settled) fun _ => h⟩
  | plantReadyRise => exact ⟨_, rfl, .ite (fun _ => h) fun _ => takeRise (h.same rfl)⟩
  | plantReadyFall => exact ⟨_, rfl, .ite (fun _ => takeFall (h.same rfl)) fun _ => h⟩
  | silenceTimerExpiry => exact ⟨_, rfl, .ite (fun _ => h.silence) fun _ => h⟩
  | startUpTimerExpiry => exact ⟨_, rfl, .ite (fun _ => h.same rfl) fun _ => h⟩
  | widthTimerExpiry => exact ⟨_, rfl, h.same rfl⟩

end FeedPublished

/-- Settles O20: a millisecond leaves what the limit is read from, and a command that changes any of it ends by handing
the change to RC (`recomputeFeed`). -/
theorem feedPublishedKept : Obligations.FeedPublishedKept := by
  intro s t hs h
  unfold step at h
  split at h
  · cases h
    exact hs.same rfl
  · next c rest _ =>
    have hrest : FeedPublished { s with pending := rest } := hs.same rfl
    obtain ⟨u, hu, hk⟩ := hrest.exec c
    cases hu.symm.trans h
    exact hk

end Sys2Proof.Machine
end

section
/-! SUPPORT. SET_TRANSPORT (O36). -/

namespace Sys2Proof.Machine

/-- R158: the ranges of the seven settings. -/
theorem transportOk_iff (k : Transport) : transportOk k = true ↔
    220 ≤ k.cutLength ∧ k.cutLength ≤ 400 ∧ 60 ≤ k.thickness ∧ k.thickness ≤ 200 ∧ 100 ≤ k.hose ∧ k.hose ≤ 250 ∧
    15 ≤ k.velocity ∧ k.velocity ≤ 50 ∧ 10 ≤ k.c100 ∧ k.c100 ≤ 35 ∧ 2000 ≤ k.rhoCut ∧ k.rhoCut ≤ 2800 ∧
    5000 ≤ k.primingTime ∧ k.primingTime ≤ 120000 := by
  simp only [transportOk, Bool.and_eq_true, inRange_iff, and_assoc]

/-- R158 to R161, R171: the settings in force, with the floor and the feed limit that follow. -/
def transported (k : Transport) (s : State) : State :=
  recomputeFeed (recomputeFloor { s with rc := { s.rc with transport := k } })

theorem applySetTransport_eq (k : Transport) (s : State) :
    applySetTransport k s = if transportOk k then .ok (transported k s) else .error .outOfRange := rfl

/-- R159 to R161, R171: what the settings change, and the formulas that give it. -/
theorem transported_closed {k : Transport} {s t : State} (ht : t = transported k s) :
    t = { s with
      rc := { s.rc with transport := k, qSettle := t.rc.qSettle, qConc := t.rc.qConc, qFloor := t.rc.qFloor
                        qEff := t.rc.qEff, pump := t.rc.pump, short := t.rc.short, feedLimit := feedNow t }
      eu := if t.rc.short && !s.rc.short then latchAll .transportShort s.eu else s.eu } ∧
    t.rc.qSettle = (k.velocity * hoseArea k * 36 + 9999) / 10000 ∧
    t.rc.qConc = (6 * s.dr.fMeas * k.cutLength * k.thickness + (1000 * k.c100 - 1)) / (1000 * k.c100) ∧
    t.rc.qFloor = max t.rc.qSettle t.rc.qConc ∧
    t.rc.qEff = (if s.rc.qc = 0 then 0 else min (max s.rc.qc t.rc.qFloor) s.rc.qp) ∧
    t.rc.pump = (if s.rc.state = .priming ∨ s.rc.state = .pumping ∨ s.rc.state = .starved then t.rc.qEff else 0) ∧
    t.rc.short = (decide (0 < s.rc.qc) && decide (s.rc.qp < t.rc.qFloor)) := by
  have hclosed : t = { s with
      rc := { flooredRc s.dr.fMeas { s.rc with transport := k } with feedLimit := feedNow t }
      eu := shortRaised s.rc (flooredRc s.dr.fMeas { s.rc with transport := k }) s.eu } := by
    subst ht
    unfold transported
    rw [recomputeFloor_eq, feedNow_recomputeFeed]
    rfl
  obtain ⟨_, hsettle, hconc, hfloor, heff, hpump, _⟩ := flooredRc_formulas s.dr.fMeas { s.rc with transport := k } rfl
  rw [congrArg State.rc hclosed]
  exact ⟨hclosed, hsettle, hconc, hfloor, heff, hpump, rfl⟩

/-- Settles O36: the request is judged at a clear queue, and settings taken are `transported_closed` on the state that
has answered. -/
theorem transportTaken : Obligations.TransportTaken := by
  refine ⟨fun tag d s a k hq hl ha hk => ?_, by decide⟩
  have hmake : transportAt d = k := hk.symm
  have hexec : exec (.setTransport .cabin tag d) s = .next
      (if transportOk k then transported k a else refusedAt .setTransport .cabin tag .outOfRange a) :=
    congrArg _ (post_judged (r := .setTransport k) (c := false) hq rfl hl (by rw [hmake]) ha rfl
      (applySetTransport_eq k a) (by rw [(transported_closed rfl).1]; exact ⟨rfl, rfl⟩))
  have hdr : a.dr.fMeas = s.dr.fMeas := by simp [ha, answered]
  have hrc : a.rc = { s.rc with feedLimit := a.rc.feedLimit } := ha ▸ hear_rc .cabin s
  have heu : a.eu = s.eu := by simp [ha]
  rw [hexec, ← transportOk_iff]
  refine ⟨fun hok => ⟨transported k a, by rw [if_pos hok], ?_⟩, fun hout => by rw [if_neg hout]⟩
  have ht := transported_closed (k := k) (s := a) rfl
  rw [hdr, hrc, heu] at ht
  exact ht

end Sys2Proof.Machine
end

section
/-! SUPPORT. What holds the head of a posted queue (R186), and the operations that leave the waiting commands, the
posted queues and the held heads as they were (`Apart`). -/

namespace Sys2Proof.Machine

/-! ## What the operations with more than one branch leave of the ports, the plates and the waiting commands -/

@[simp] theorem resetReturn_keeps (s : State) :
    (resetReturn s).pi = s.pi ∧ (resetReturn s).psv = s.psv ∧ (resetReturn s).pending = s.pending := by
  unfold resetReturn leaveHold; split <;> simp

@[simp] theorem takeRise_keeps (low : Nat) (s : State) :
    (takeRise low s).pi = s.pi ∧ (takeRise low s).psv = s.psv ∧ (takeRise low s).pending = s.pending := by
  unfold takeRise riseInHold leaveHold; (repeat' split) <;> simp

@[simp] theorem takeFall_keeps (s : State) :
    (takeFall s).pi = s.pi ∧ (takeFall s).psv = s.psv ∧ (takeFall s).pending = s.pending := by
  unfold takeFall; split <;> simp

@[simp] theorem judgeFlow_keeps (s : State) :
    (judgeFlow s).pi = s.pi ∧ (judgeFlow s).psv = s.psv ∧ (judgeFlow s).pending = s.pending := by
  unfold judgeFlow; (repeat' split) <;> simp

@[simp] theorem judgeGate_keeps (w : Wheel) (pulses : Nat) (s : State) :
    (judgeGate w pulses s).pi = s.pi ∧ (judgeGate w pulses s).psv = s.psv ∧
    (judgeGate w pulses s).pending = s.pending := by
  unfold judgeGate; dsimp only; (repeat' split) <;> simp

@[simp] theorem takeCeiling_keeps (qp : Nat) (s : State) :
    (takeCeiling qp s).pi = s.pi ∧ (takeCeiling qp s).psv = s.psv ∧ (takeCeiling qp s).pending = s.pending := by
  unfold takeCeiling ceilingIntoState; (repeat' split) <;> simp

@[simp] theorem releaseWheels_keeps (s : State) :
    (releaseWheels s).pi = s.pi ∧ (releaseWheels s).psv = s.psv ∧ (releaseWheels s).pending = s.pending := by
  simp [releaseWheels]

@[simp] theorem restWheels_keeps (s : State) :
    (restWheels s).pi = s.pi ∧ (restWheels s).psv = s.psv ∧ (restWheels s).pending = s.pending := by
  simp [restWheels]

@[simp] theorem stopSurvey_keeps (s : State) :
    (stopSurvey s).pi = s.pi ∧ (stopSurvey s).psv = s.psv ∧ (stopSurvey s).pending = s.pending := by
  rw [stopSurvey_eq]; exact ⟨rfl, rfl, rfl⟩

@[simp] theorem startCheck_keeps (s : State) :
    (startCheck s).pi = s.pi ∧ (startCheck s).psv = s.psv ∧ (startCheck s).pending = s.pending := by
  unfold startCheck; dsimp only; split <;> simp

/-! ## What holds a head (R186) -/

/-- R186: a head is held by the recovery or by the move of the plate it names. -/
theorem held_iff (r : Posted) (s : State) :
    held r s = true ↔ (heldForRecovery r = true ∧ s.sru.record.isSome = true) ∨
      ∃ q, heldForPlate q r = true ∧ (s.psv.get q).move = .moving := by
  cases r
  case setPlate plate v =>
    cases h : plateNamed plate <;> simp [held, heldForRecovery, heldForPlate, h]
  all_goals simp [held, heldForRecovery, heldForPlate]

/-- R181, R186: no kind that the plant and the hoist may send is ever held. -/
theorem held_eq_false_of_permitted {r : Posted} {p : Port} (hp : p ≠ .cabin) (h : permitted r.kind p = true)
    (s : State) : held r s = false := by
  cases r
  case ackEvents | setEventEnables | setAlertLine => rfl
  all_goals exact absurd (of_decide_eq_true h) hp

/-- R109: a command handed does not end a move. -/
theorem takeCommand_moving {q : Plate} (h : q.move = .moving) (v : Nat) : (takeCommand v q).move = .moving := by
  simp [takeCommand, h]

theorem handedPlates_moving {p : PerPlate Plate} {q : PlateId} (h : (p.get q).move = .moving) (old new : PerPlate Nat) :
    ((handedPlates old new p).get q).move = .moving := by
  rw [handedPlates_get]
  split
  · exact h
  · exact takeCommand_moving h _

/-! ## The operations that leave the queues -/

/-- The commands that wait, every posted queue and whether its hold timer runs: as they were; and a request that was
held is held still, or `freed`. -/
structure Apart (freed : Posted → Prop) (s t : State) : Prop where
  pending : t.pending = s.pending
  queue : ∀ p, (t.port p).queue = (s.port p).queue
  hold : ∀ p, (t.port p).hold.isSome = (s.port p).hold.isSome
  holds : ∀ r, held r s = true → held r t = true ∨ freed r

/-- Nothing that was held has been freed. -/
abbrev Unfreed : Posted → Prop := fun _ => False

namespace Apart
variable {freed : Posted → Prop} {a s t : State}

theorem refl (s : State) : Apart Unfreed s s := ⟨rfl, fun _ => rfl, fun _ => rfl, fun _ => .inl⟩

theorem trans (h : Apart Unfreed a s) (k : Apart freed s t) : Apart freed a t :=
  ⟨k.pending.trans h.pending, fun p => (k.queue p).trans (h.queue p), fun p => (k.hold p).trans (h.hold p),
   fun r hr => k.holds r ((h.holds r hr).resolve_right id)⟩

theorem andThen (h : Apart freed a s) (k : Apart Unfreed s t) : Apart freed a t :=
  ⟨k.pending.trans h.pending, fun p => (k.queue p).trans (h.queue p), fun p => (k.hold p).trans (h.hold p),
   fun r hr => (h.holds r hr).imp_left fun hs => (k.holds r hs).resolve_right id⟩

theorem hold_none (h : Apart freed s t) {p : Port} (hn : (s.port p).hold = none) : (t.port p).hold = none := by
  rw [← Option.not_isSome_iff_eq_none, h.hold p, hn]
  simp

theorem nothingQueued (h : Apart freed s t) {p : Port} (hs : NothingQueued (s.port p)) : NothingQueued (t.port p) :=
  ⟨(h.queue p).trans hs.1, h.hold_none hs.2⟩

/-- What holds a head stays: a recovery that exists, and every move. -/
theorem of_holders (hpending : t.pending = s.pending) (hqueue : ∀ p, (t.port p).queue = (s.port p).queue)
    (hhold : ∀ p, (t.port p).hold.isSome = (s.port p).hold.isSome)
    (hrecord : s.sru.record.isSome = true → t.sru.record.isSome = true)
    (hmoves : ∀ q, (s.psv.get q).move = .moving → (t.psv.get q).move = .moving) : Apart Unfreed s t := by
  refine ⟨hpending, hqueue, hhold, fun r hr => .inl ((held_iff r t).2 ?_)⟩
  rcases (held_iff r s).1 hr with ⟨hk, hs⟩ | ⟨q, hk, hq⟩
  · exact .inl ⟨hk, hrecord hs⟩
  · exact .inr ⟨q, hk, hmoves q hq⟩

/-- An operation of the blocks: PI takes no part in it, and it ends no recovery and no move. -/
theorem blocks (h : Apart Unfreed a s) (hpending : t.pending = s.pending) (hpi : t.pi = s.pi)
    (hrecord : s.sru.record.isSome = true → t.sru.record.isSome = true)
    (hmoves : ∀ q, (s.psv.get q).move = .moving → (t.psv.get q).move = .moving) : Apart Unfreed a t :=
  h.trans (of_holders hpending (fun p => by rw [State.port, hpi, State.port])
    (fun p => by rw [State.port, hpi, State.port]) hrecord hmoves)

/-- An operation that none of PI, SRU and PSV takes part in. -/
theorem same (h : Apart Unfreed a s) (hpending : t.pending = s.pending := by simp) (hpi : t.pi = s.pi := by simp)
    (hsru : t.sru = s.sru := by simp) (hpsv : t.psv = s.psv := by simp) : Apart Unfreed a t :=
  h.blocks hpending hpi (fun hs => by rw [hsru]; exact hs) fun _ hq => by rw [hpsv]; exact hq

theorem ite {c : Prop} [Decidable c] {u : State} (ht : c → Apart freed a t) (hu : ¬ c → Apart freed a u) :
    Apart freed a (if c then t else u) := by
  split
  · next hc => exact ht hc
  · next hc => exact hu hc

/-- A port's record replaced, but for its queue and its hold timer. -/
theorem setPort {p : Port} {q : PortRec} (h : Apart Unfreed a s) (hq : q.queue = (s.port p).queue)
    (hh : q.hold.isSome = (s.port p).hold.isSome) : Apart Unfreed a (s.setPort p q) := by
  refine h.trans (of_holders rfl (fun p' => ?_) (fun p' => ?_) id fun _ => id)
  all_goals
    by_cases hp : p' = p
    · subst hp
      simpa using by assumption
    · rw [State.port_setPort_ne _ _ hp]

/-! ### Steering (R89 to R97) -/

theorem reevaluate (h : Apart Unfreed a s) : Apart Unfreed a (reevaluate s) := by
  rw [reevaluate_eq]
  exact h.blocks rfl rfl id fun q hq => handedPlates_moving hq _ _

theorem steerSample (h : Apart Unfreed a s) : Apart Unfreed a (steerSample s) := by
  cases hm : s.slu.actual with
  | auto =>
    rw [steerSample_auto hm rfl]
    exact h.blocks rfl rfl id fun q hq => handedPlates_moving hq _ _
  | manual => rw [steerSample_manual hm]; exact h.same
  | off => rwa [steerSample_still (.inl hm)]
  | frozen => rwa [steerSample_still (.inr hm)]

/-! ### Depth and the sensor (R7 to R9, R20 to R31) -/

theorem handDepth (h : Apart Unfreed a s) : Apart Unfreed a (handDepth s) :=
  (h.same (t := surveyDepth (selectZone s.dr.depth s))).reevaluate.same rfl rfl rfl rfl

theorem reportCount {count : Int} (h : Apart Unfreed a s) : Apart Unfreed a (reportCount count s) := by
  unfold Machine.reportCount
  split
  · exact h.same
  all_goals exact handDepth h.same

theorem takeDatum {v : Nat} (h : Apart Unfreed a s) : Apart Unfreed a (takeDatum v s) := handDepth h.same

theorem goStale (h : Apart Unfreed a s) : Apart Unfreed a (goStale s) := .ite (fun _ => handDepth h.same) fun _ => h

theorem setDisagree {d : Bool} (h : Apart Unfreed a s) : Apart Unfreed a (setDisagree d s) :=
  .ite (fun _ => h) fun _ => reevaluate h.same

theorem suspendCrossCheck (h : Apart Unfreed a s) : Apart Unfreed a (suspendCrossCheck s) := setDisagree h.same

theorem raiseDisagree (h : Apart Unfreed a s) : Apart Unfreed a (raiseDisagree s) := setDisagree h.same

theorem compareDepth (h : Apart Unfreed a s) : Apart Unfreed a (compareDepth s) :=
  .ite (fun _ => .ite (fun _ => raiseDisagree h.same) fun _ => h.same) fun _ =>
    .ite (fun _ => setDisagree h.same) fun _ => h.same

theorem takeHeadPressure {r : Reading} (h : Apart Unfreed a s) : Apart Unfreed a (takeHeadPressure r s) :=
  .ite (fun _ => compareDepth h.same) fun _ => h.same

theorem loseSensor (h : Apart Unfreed a s) : Apart Unfreed a (loseSensor s) := reevaluate h.same

theorem takeInvalid (h : Apart Unfreed a s) : Apart Unfreed a (takeInvalid s) :=
  .ite (fun _ => loseSensor h.same) fun _ => h.same

/-- R190: the hub's state changes, and no port. -/
theorem endStarting (h : Apart Unfreed a s) : Apart Unfreed a (endStarting s) :=
  h.trans (of_holders rfl (fun _ => rfl) (fun _ => rfl) id fun _ => id)

theorem takeValid {x y psi : Int} (h : Apart Unfreed a s) : Apart Unfreed a (takeValid x y psi s) := by
  unfold Machine.takeValid
  dsimp only
  split
  · exact steerSample h.same
  · generalize takeSet (clampSet x y psi) _ s.mfe = m
    have hset : Apart Unfreed a { s with mfe := m } := h.same
    exact steerSample (reevaluate hset.endStarting.same)

/-! ### The wheels (R59, R74) -/

/-- R74: a stall brings a recovery about. -/
theorem takeStall {w : Wheel} (h : Apart Unfreed a s) : Apart Unfreed a (takeStall w s) := by
  have hrecorded : Apart Unfreed a (stalled w s) := h.blocks rfl rfl (fun _ => rfl) fun _ => id
  have hjudged : Apart Unfreed a (Machine.reevaluate (judgeRecovery (stalled w s))) := reevaluate hrecorded.same
  exact hjudged.same (t := handWheels s.wg.wheels (Machine.reevaluate (judgeRecovery (stalled w s))))

theorem takeStalls (h : Apart Unfreed a s) : Apart Unfreed a (takeStalls s) := by
  unfold Machine.takeStalls
  split
  · exact h.takeStall
  · exact h

/-! ### A posted request applied (R185) -/

/-- R99, R111: a manual extension handed, or a plate that is not moving set free. -/
theorem setPlate {n v : Nat} (h : Apart Unfreed a s) (ht : applySetPlate n v s = .ok t) : Apart Unfreed a t := by
  cases hn : plateNamed n with
  | none => simp [applySetPlate, hn] at ht
  | some q =>
    rw [applySetPlate_eq hn] at ht
    split at ht <;> cases ht
    refine .ite (fun _ => h.blocks rfl rfl id fun q' hq' => ?_) fun _ => h.same
    by_cases hqq : q' = q
    · subst hqq
      rw [PerPlate.get_set_same]
      split
      · exact hq'
      · exact takeCommand_moving hq' _
    · rwa [PerPlate.get_set_ne _ _ hqq]

theorem clearPlate {n : Nat} (h : Apart Unfreed a s) (ht : applyClearPlate n s = .ok t) : Apart Unfreed a t := by
  cases hn : plateNamed n with
  | none => simp [applyClearPlate, hn] at ht
  | some q =>
    rw [applyClearPlate_eq hn] at ht
    split at ht <;> cases ht
    next hstuck =>
      refine h.blocks rfl rfl id fun q' hq' => ?_
      have hqq : q' ≠ q := by rintro rfl; rw [hstuck] at hq'; cases hq'
      rwa [PerPlate.get_set_ne _ _ hqq]

/-- R185: a request that is taken leaves the queues, and frees no head. -/
theorem applied {p : Port} {r : Posted} (h : Apart Unfreed a s) (ht : applyPosted p r s = .ok t) :
    Apart Unfreed a t := by
  cases r
  case setSteerMode =>
    simp only [applyPosted, applySetSteerMode] at ht
    split at ht <;> cases ht <;> exact reevaluate h.same
  case setSteerGains =>
    simp only [applyPosted, applySetSteerGains] at ht
    split at ht <;> cases ht
    exact .ite (fun _ => h.same) fun _ => reevaluate h.same
  case setPlate => exact h.setPlate ht
  case clearPlate => exact h.clearPlate ht
  case setPortTimeout =>
    simp only [applyPosted, applySetPortTimeout] at ht
    (repeat' split at ht) <;> cases ht
    exact h.setPort rfl rfl
  case setRecovery =>
    simp only [applyPosted, applySetRecovery] at ht
    split at ht <;> cases ht
    exact h.blocks rfl rfl id fun _ => id
  all_goals
    simp only [applyPosted, applySetScaler, applySetDepthCheck, applyLoadZone, applyDropZone, applySetWheelDemand,
      applySetRamp, applySetFallbackSpeed, applyClearJam, applySetTrimManual, applySetPumpDemand, applySetTransport,
      applyAckEvents, applySetEventEnables, applySetAlertLine, applySetMarkWidth] at ht
    (repeat' split at ht) <;> cases ht <;> exact h.same

theorem recordRefusal {p : Port} {e : Entry} {code : Status} (h : Apart Unfreed a s) :
    Apart Unfreed a (recordRefusal p e code s) :=
  same (h.setPort (p := p) (q := { s.port p with
    rejection := some { kind := e.request.kind, tag := e.tag, code := code }
    refused := min 255 ((s.port p).refused + 1) }) rfl rfl) rfl rfl rfl rfl

theorem applyEntry {p : Port} {e : Entry} (h : Apart Unfreed a s) : Apart Unfreed a (applyEntry p e s) := by
  unfold Machine.applyEntry
  split
  · next ht => exact h.applied ht
  · exact h.recordRefusal

/-! ### Requests (R177, R178, R187) -/

theorem sendReply {p : Port} {kind tag : Byte} {st : Status} {d : List Byte} (h : Apart Unfreed a s) :
    Apart Unfreed a (sendReply p kind tag st d s) := h.setPort rfl rfl

theorem reply {k : Kind} {p : Port} {tag : Byte} {st : Status} {d : List Byte} (h : Apart Unfreed a s) :
    Apart Unfreed a (reply k p tag st d s) := h.sendReply

theorem hear {p : Port} (h : Apart Unfreed a s) : Apart Unfreed a (hear p s) := by
  have hactive : Apart Unfreed a (s.setPort p { s.port p with link := .active, silence := some (s.port p).timeout }) :=
    h.setPort rfl rfl
  exact hactive.same (by simp) (hear_pi p s)

end Apart

end Sys2Proof.Machine
end

section
/-! SUPPORT. The posted queues: the heads that are judged, held and freed (R184 to R186). Every command completes, leaves
the commands that wait (O3) and leaves no head that should have been applied (O22). -/

namespace Sys2Proof.Machine

theorem haltWheels_psv (s : State) : (haltWheels s).psv = (abortRecovery s).psv := by simp [haltWheels]

/-! ## The heads (R185, R186) -/

/-- R186: a release judges the cabin's head, unless no head is held that it concerns. -/
theorem releaseHead_cases (concerns : Posted → Bool) (s : State) :
    releaseHead concerns s = drain .cabin s ∨ (releaseHead concerns s = s ∧ ∀ e es,
      (s.port .cabin).queue = e :: es → (s.port .cabin).hold.isSome = true → concerns e.request = false) := by
  unfold releaseHead
  split
  · next e es hh hq =>
    split
    · exact .inl rfl
    · next hc =>
      refine .inr ⟨rfl, fun e' es' hq' _ => ?_⟩
      cases hq.symm.trans hq'
      exact Bool.not_eq_true _ ▸ hc
  · next hno =>
    refine .inr ⟨rfl, fun e es hq hh => ?_⟩
    obtain ⟨n, hn⟩ := Option.isSome_iff_exists.1 hh
    exact absurd hq (hno n e es hn)

/-- What `HeadsHeld` asks, but of a head that is `freed`: such a head waits to be judged. -/
structure HeadsHeldBut (freed : Posted → Prop) (s : State) : Prop where
  others : ∀ p, p ≠ .cabin → NothingQueued (s.port p)
  empty : (s.port .cabin).queue = [] → (s.port .cabin).hold = none
  head : ∀ e es, (s.port .cabin).queue = e :: es →
    (s.port .cabin).hold.isSome = true ∧ (held e.request s = true ∨ freed e.request)

theorem headsHeld_iff (s : State) : HeadsHeld s ↔ HeadsHeldBut Unfreed s := by
  constructor
  · rintro ⟨hplant, hhoist, hcabin⟩
    refine ⟨fun p hp => ?_, fun hq => ?_, fun e es hq => ?_⟩
    · cases p
      · exact absurd rfl hp
      · exact hplant
      · exact hhoist
    · have hq' : s.pi.ports.cabin.queue = [] := hq
      simp only [headWaits, hq'] at hcabin
      exact Option.isNone_iff_eq_none.1 hcabin
    · have hq' : s.pi.ports.cabin.queue = e :: es := hq
      simp only [headWaits, hq', Bool.and_eq_true] at hcabin
      exact ⟨hcabin.2, .inl hcabin.1⟩
  · rintro ⟨hothers, hempty, hhead⟩
    refine ⟨hothers .plant nofun, hothers .hoist nofun, ?_⟩
    unfold headWaits
    split
    · next hq => exact Option.isNone_iff_eq_none.2 (hempty hq)
    · next e es hq =>
      obtain ⟨hh, hheld⟩ := hhead e es hq
      exact Bool.and_eq_true_iff.2 ⟨hheld.resolve_right id, hh⟩

namespace HeadsHeldBut
variable {freed freed' : Posted → Prop} {s t : State}

theorem mono (h : HeadsHeldBut freed s) (hf : ∀ r, freed r → freed' r) : HeadsHeldBut freed' s :=
  ⟨h.others, h.empty, fun e es hq => (h.head e es hq).imp_right (·.imp_right (hf _))⟩

/-- The commands that wait hold no head. -/
theorem setPending (h : HeadsHeldBut freed s) (cs : List Instr) : HeadsHeldBut freed { s with pending := cs } := by
  refine ⟨h.others, h.empty, fun e es hq => ?_⟩
  exact (h.head e es hq).imp_right (·.imp_left fun hr => (held_iff ..).2 ((held_iff ..).1 hr))

theorem apart (h : HeadsHeldBut Unfreed s) (ha : Apart freed s t) : HeadsHeldBut freed t := by
  have hqueue := ha.queue .cabin
  refine ⟨fun p hp => ha.nothingQueued (h.others p hp), fun hq => ha.hold_none (h.empty (hqueue.symm.trans hq)),
    fun e es hq => ?_⟩
  obtain ⟨hh, hheld⟩ := h.head e es (hqueue.symm.trans hq)
  exact ⟨(ha.hold .cabin).trans hh, ha.holds _ (hheld.resolve_right id)⟩

/-- No head waits in an empty queue. -/
theorem of_empty (h : HeadsHeldBut freed s) (hq : (s.port .cabin).queue = []) : HeadsHeldBut Unfreed s :=
  ⟨h.others, h.empty, fun e es he => by rw [hq] at he; cases he⟩

/-- A state with nothing queued at any port. -/
theorem clear (h : ∀ p, NothingQueued (s.port p)) : HeadsHeldBut freed s :=
  ⟨fun p _ => h p, fun _ => (h .cabin).2, fun e es hq => by rw [(h .cabin).1] at hq; cases hq⟩

/-- A port's queue emptied. -/
theorem emptied {p : Port} {q : PortRec} (h : HeadsHeldBut Unfreed s) (hq : NothingQueued q) :
    HeadsHeldBut Unfreed (s.setPort p q) := by
  by_cases hp : p = .cabin
  · subst hp
    refine clear fun p' => ?_
    by_cases hp' : p' = .cabin
    · subst hp'; rwa [State.port_setPort_same]
    · rw [State.port_setPort_ne _ _ hp']; exact h.others p' hp'
  · have hcabin : (s.setPort p q).port .cabin = s.port .cabin := State.port_setPort_ne _ _ (Ne.symm hp)
    refine ⟨fun p' hp' => ?_, by rw [hcabin]; exact h.empty, by rw [hcabin]; exact h.head⟩
    by_cases hpp : p' = p
    · subst hpp; rwa [State.port_setPort_same]
    · rw [State.port_setPort_ne _ _ hpp]; exact h.others p' hp'

/-- R186: a head that is held stands, its hold timer running. -/
theorem held {e : Entry} {es : List Entry} {n : Nat} (h : ∀ p, p ≠ .cabin → NothingQueued (s.port p))
    (he : Machine.held e.request s = true) : HeadsHeldBut Unfreed (setQueue .cabin (e :: es) (some n) s) := by
  refine ⟨fun p hp => ?_, nofun, fun e' es' hq => ?_⟩
  · rw [setQueue, State.port_setPort_ne _ _ hp]
    exact h p hp
  · rw [setQueue, State.port_setPort_same] at hq
    cases hq
    exact ⟨rfl, .inl ((held_iff ..).2 ((held_iff ..).1 he))⟩

/-- R185: whatever entries become heads of the cabin's queue, the first that is held is left there. -/
theorem drainList {es : List Entry} (h : ∀ p, p ≠ .cabin → NothingQueued (s.port p)) :
    HeadsHeldBut Unfreed (drainList .cabin es s) := by
  induction es generalizing s with
  | nil =>
    refine clear fun p => ?_
    by_cases hp : p = .cabin
    · subst hp; exact ⟨rfl, rfl⟩
    · rw [Machine.drainList, setQueue, State.port_setPort_ne _ _ hp]; exact h p hp
  | cons e es ih =>
    unfold Machine.drainList
    split
    · next he => exact held h he
    · exact ih fun p hp => (Apart.refl s).applyEntry.nothingQueued (h p hp)

/-- R186: the freed head is judged, and the entries behind it that it had kept waiting. -/
theorem releaseHead {concerns : Posted → Bool} (h : HeadsHeldBut (concerns · = true) s) :
    HeadsHeldBut Unfreed (releaseHead concerns s) := by
  rcases releaseHead_cases concerns s with hd | ⟨hs, hc⟩
  · rw [hd]
    exact drainList h.others
  · rw [hs]
    refine ⟨h.others, h.empty, fun e es hq => ?_⟩
    obtain ⟨hh, hheld⟩ := h.head e es hq
    exact ⟨hh, .inl (hheld.resolve_right (by rw [hc e es hq hh]; decide))⟩

end HeadsHeldBut

namespace Apart
variable {s : State}

/-- R84: the clearing of the record frees the heads that the recovery held. -/
theorem clearRecord (s : State) : Apart (heldForRecovery · = true) s (clearRecord s) := by
  have hcleared : Apart (heldForRecovery · = true) s { s with sru := { s.sru with record := none } } := by
    refine ⟨rfl, fun _ => rfl, fun _ => rfl, fun r hr => ?_⟩
    rcases (held_iff r s).1 hr with ⟨hk, _⟩ | hplate
    · exact .inr hk
    · exact .inl ((held_iff ..).2 (.inr hplate))
  exact hcleared.andThen (Apart.reevaluate (Apart.same (Apart.refl _)))

/-- R63, R84: a halt aborts the recovery. -/
theorem haltWheels (s : State) : Apart (heldForRecovery · = true) s (haltWheels s) := by
  have haborted : Apart (heldForRecovery · = true) s (abortRecovery s) := by
    unfold abortRecovery
    split
    · exact ⟨rfl, fun _ => rfl, fun _ => rfl, fun _ => .inl⟩
    · exact (clearRecord s).andThen ((Apart.refl _).blocks rfl rfl id fun _ => id)
  exact haborted.andThen ((Apart.refl _).same (by simp [Machine.haltWheels]) (by simp [Machine.haltWheels])
    (haltWheels_sru s) (haltWheels_psv s))

end Apart

theorem drainList_pending (p : Port) (es : List Entry) (s : State) : (drainList p es s).pending = s.pending := by
  induction es generalizing s with
  | nil => rfl
  | cons e es ih =>
    unfold drainList
    split
    · rfl
    · exact (ih _).trans (Apart.refl s).applyEntry.pending

theorem releaseHead_pending (concerns : Posted → Bool) (s : State) :
    (releaseHead concerns s).pending = s.pending := by
  rcases releaseHead_cases concerns s with hd | ⟨hs, _⟩
  · rw [hd]
    exact drainList_pending ..
  · rw [hs]

/-- The commands that wait, as they were; and the heads held, as they should be, where they were. -/
structure KeepsQueues (s t : State) : Prop where
  pending : t.pending = s.pending
  heads : HeadsHeldBut Unfreed s → HeadsHeldBut Unfreed t

namespace KeepsQueues
variable {a s t : State}

theorem refl (s : State) : KeepsQueues s s := ⟨rfl, id⟩

theorem apart (h : KeepsQueues a s) (ha : Apart Unfreed s t) : KeepsQueues a t :=
  ⟨ha.pending.trans h.pending, fun hs => (h.heads hs).apart ha⟩

/-- An operation that none of PI, SRU and PSV takes part in. -/
theorem same (h : KeepsQueues a s) (hpending : t.pending = s.pending := by simp) (hpi : t.pi = s.pi := by simp)
    (hsru : t.sru = s.sru := by simp) (hpsv : t.psv = s.psv := by simp) : KeepsQueues a t :=
  h.apart ((Apart.refl s).same hpending hpi hsru hpsv)

theorem ite {c : Prop} [Decidable c] {u : State} (ht : c → KeepsQueues a t) (hu : ¬ c → KeepsQueues a u) :
    KeepsQueues a (if c then t else u) := by
  split
  · next hc => exact ht hc
  · next hc => exact hu hc

theorem emptied {p : Port} {q : PortRec} (h : KeepsQueues a s) (hq : NothingQueued q) :
    KeepsQueues a (s.setPort p q) :=
  ⟨h.pending, fun ha => (h.heads ha).emptied hq⟩

theorem drainList {es : List Entry} (h : KeepsQueues a s) : KeepsQueues a (drainList .cabin es s) :=
  ⟨(drainList_pending ..).trans h.pending, fun ha => .drainList (h.heads ha).others⟩

/-- R186: an operation that frees a head is followed by its release. -/
theorem release {concerns : Posted → Bool} (h : KeepsQueues a s) (ha : Apart (concerns · = true) s t) :
    KeepsQueues a (releaseHead concerns t) :=
  ⟨(releaseHead_pending ..).trans (ha.pending.trans h.pending), fun hs => ((h.heads hs).apart ha).releaseHead⟩

/-- R184, R181: an entry joins the tail; into an empty queue of the plant or the hoist none comes that is held. -/
theorem joinQueue {p : Port} {e : Entry} (h : KeepsQueues a s) (hp : permitted e.request.kind p = true) :
    KeepsQueues a (joinQueue p e s) := by
  refine .ite (fun _ => ?_) fun hne => ?_
  · by_cases hcabin : p = .cabin
    · subst hcabin; exact h.drainList
    · rw [Machine.drainList, held_eq_false_of_permitted hcabin hp]
      exact emptied (h.apart (Apart.refl s).applyEntry) ⟨rfl, rfl⟩
  · refine ⟨h.pending, fun ha => ?_⟩
    obtain ⟨hothers, _, hhead⟩ := h.heads ha
    have hcabin : p = .cabin := by
      by_contra hcabin
      exact hne (by rw [(hothers p hcabin).1]; rfl)
    subst hcabin
    cases hq : (s.port .cabin).queue with
    | nil => exact absurd (by rw [hq]; rfl) hne
    | cons e' es =>
      obtain ⟨hh, hheld⟩ := hhead e' es hq
      refine ⟨fun p' hp' => ?_, fun hn => ?_, fun e'' es'' hq'' => ?_⟩
      · rw [State.port_setPort_ne _ _ hp']; exact hothers p' hp'
      · rw [State.port_setPort_same] at hn; cases hn
      · rw [State.port_setPort_same] at hq'' ⊢
        cases hq''
        exact ⟨hh, .inl ((held_iff ..).2 ((held_iff ..).1 (hheld.resolve_right id)))⟩

theorem recordRefusal {p : Port} {e : Entry} {code : Status} (h : KeepsQueues a s) :
    KeepsQueues a (recordRefusal p e code s) := h.apart (Apart.refl s).recordRefusal

theorem reply {k : Kind} {p : Port} {tag : Byte} {st : Status} {d : List Byte} (h : KeepsQueues a s) :
    KeepsQueues a (reply k p tag st d s) := h.apart (Apart.refl s).reply

/-- A port's record replaced, but for its queue and its hold timer. -/
theorem setPort {p : Port} {q : PortRec} (h : KeepsQueues a s) (hq : q.queue = (s.port p).queue)
    (hh : q.hold = (s.port p).hold) : KeepsQueues a (s.setPort p q) :=
  h.apart ((Apart.refl s).setPort hq (by rw [hh]))

/-- A head released, where none has been freed since. -/
theorem releaseHead {concerns : Posted → Bool} (h : KeepsQueues a s) : KeepsQueues a (releaseHead concerns s) :=
  h.release ⟨rfl, fun _ => rfl, fun _ => rfl, fun _ => .inl⟩

/-! ## The recovery (R75 to R84) -/

/-- R81, R82: the end of a recovery releases the head it held. -/
theorem ended {e : Event} {how : RecoveryEnd} {r : Recovery} (h : KeepsQueues a s) :
    KeepsQueues a (raise e (setOutcome how r (releaseRecovery (clearRecord s)))) := by
  have hreleased : KeepsQueues a (releaseRecovery (clearRecord s)) := h.release (Apart.clearRecord s)
  exact hreleased.apart ((Apart.refl _).blocks rfl rfl id fun _ => id)

theorem endRecovered {r : Recovery} (h : KeepsQueues a s) : KeepsQueues a (endRecovered r s) := ended h.same

theorem endJammed {r : Recovery} (h : KeepsQueues a s) : KeepsQueues a (endJammed r s) := ended h.same

theorem setRecord {r : Recovery} (h : KeepsQueues a s) : KeepsQueues a (s.setRecord (some r)) :=
  h.apart ((Apart.refl s).blocks rfl rfl (fun _ => rfl) fun _ => id)

theorem failBurst {r : Recovery} (h : KeepsQueues a s) : KeepsQueues a (failBurst r s) :=
  .ite (fun _ => h.setRecord) fun _ => h.endJammed

theorem driveRecovery {r : Recovery} (h : KeepsQueues a s) : KeepsQueues a (driveRecovery r s) := by
  have hmoved (v : WheelRec) (r2 : Recovery) : KeepsQueues a ((s.setWheel r.wheel v).setRecord (some r2)) :=
    setRecord h.same
  exact .ite (fun _ => failBurst (hmoved _ _)) fun _ => hmoved _ _

theorem stepRecovery {r : Recovery} (h : KeepsQueues a s) : KeepsQueues a (stepRecovery r s) := by
  refine .ite (fun _ => ?_) fun _ => h.driveRecovery
  split
  · exact h.driveRecovery
  · exact h.endRecovered

theorem governorStep {pa pb : Int} (h : KeepsQueues a s) : KeepsQueues a (governorStep pa pb s) := by
  have hg : KeepsQueues a (governed pa pb s) := h.same rfl rfl rfl rfl
  have hr : KeepsQueues a (restWheels (takeStalls (governed pa pb s))) := (hg.apart (Apart.refl _).takeStalls).same
  have hstep : KeepsQueues a (stepSru s (restWheels (takeStalls (governed pa pb s)))) := by
    unfold stepSru
    split
    · exact hr
    · exact .ite (fun _ => hr.stepRecovery) fun _ => hr
  rw [governorStep_eq]
  exact hstep.same

theorem phaseTimerExpiry (h : KeepsQueues a s) : ∃ t, execPhaseTimerExpiry s = .next t ∧ KeepsQueues a t := by
  refine ⟨_, rfl, ?_⟩
  split
  · exact h
  · refine .ite (fun _ => ?_) fun _ => h
    split
    · exact h.setRecord
    · exact h.endRecovered

theorem burstStallTimerExpiry (h : KeepsQueues a s) :
    ∃ t, execBurstStallTimerExpiry s = .next t ∧ KeepsQueues a t := by
  refine ⟨_, rfl, ?_⟩
  split
  · exact h
  · exact .ite (fun _ => h.failBurst) fun _ => h

/-- R63, R84: a halt that aborts a recovery releases the head it held. -/
theorem haltTaken (h : KeepsQueues a s) : KeepsQueues a (haltTaken s) := by
  refine .ite (fun _ => h.release (Apart.haltWheels s)) fun hr => ?_
  have hnone : s.sru.record = none := Option.not_isSome_iff_eq_none.1 hr
  refine h.same (by simp) (by simp) ?_ ?_
  · rw [haltWheels_sru, abortRecovery, hnone]
  · rw [haltWheels_psv, abortRecovery, hnone]

/-! ## The plates (R105 to R110) -/

/-- R107, R108: the end of the move of a plate frees the head that it held. -/
theorem endMove {q : PlateId} {x : Plate} (h : KeepsQueues a s)
    (ht : Apart Unfreed { s with psv := s.psv.set q x } t) : KeepsQueues a (releasePlate q t) := by
  have hended : Apart (heldForPlate q · = true) s { s with psv := s.psv.set q x } := by
    refine ⟨rfl, fun _ => rfl, fun _ => rfl, fun r hr => ?_⟩
    rcases (held_iff r s).1 hr with hrecovery | ⟨q', hk, hq'⟩
    · exact .inl ((held_iff ..).2 (.inl hrecovery))
    · by_cases hqq : q' = q
      · subst hqq; exact .inr hk
      · refine .inl ((held_iff ..).2 (.inr ⟨q', hk, ?_⟩))
        dsimp only
        rwa [PerPlate.get_set_ne _ _ hqq]
  exact h.release (hended.andThen ht)

end KeepsQueues

/-- R110: the head that was held by the move of a plate, one of `qs`, that has ended SETTLED. -/
def MoveEnded (before after : PerPlate Plate) (qs : List PlateId) (r : Posted) : Prop :=
  ∃ q ∈ qs, heldForPlate q r = true ∧ (before.get q).move = .moving ∧ (after.get q).move = .settled

theorem MoveEnded.tail {before after : PerPlate Plate} {q : PlateId} {qs : List PlateId} {r : Posted}
    (h : MoveEnded before after (q :: qs) r)
    (hn : heldForPlate q r = true → ¬ ((before.get q).move = .moving ∧ (after.get q).move = .settled)) :
    MoveEnded before after qs r := by
  obtain ⟨q', hmem, hk, hmove⟩ := h
  rcases List.mem_cons.1 hmem with rfl | hmem
  · exact absurd hmove (hn hk)
  · exact ⟨q', hmem, hk, hmove⟩

/-- R105 to R107: a move goes on at a sample, or ends SETTLED. -/
theorem samplePlate_move {q : Plate} (h : q.move = .moving) (v : Int) :
    (samplePlate v q).move = .moving ∨ (samplePlate v q).move = .settled := by
  rw [samplePlate_moving h]
  unfold judgeSettle
  (repeat' split)
  · exact .inl h
  · exact .inl h
  · exact .inr rfl
  · exact .inl h

/-- R105, R186: a sample frees the heads of the plates whose moves it ends. -/
theorem Apart.samplePlates (v : PerPlate Int) (s : State) :
    Apart (MoveEnded s.psv (sampledPlates v s.psv) [.n1, .n2, .s1, .s2]) s
      { s with psv := sampledPlates v s.psv } := by
  refine ⟨rfl, fun _ => rfl, fun _ => rfl, fun r hr => ?_⟩
  rcases (held_iff r s).1 hr with hrecovery | ⟨q, hk, hq⟩
  · exact .inl ((held_iff ..).2 (.inl hrecovery))
  · have hget : (sampledPlates v s.psv).get q = samplePlate (v.get q) (s.psv.get q) := sampledPlates_get ..
    rcases samplePlate_move hq (v.get q) with hm | hm
    · exact .inl ((held_iff ..).2 (.inr ⟨q, hk, by rw [← hm, ← hget]⟩))
    · exact .inr ⟨q, by cases q <;> simp, hk, hq, by rw [← hm, ← hget]⟩

/-- R107, R186: once the end of a plate's move has been handed to PI, its head no longer waits to be judged. -/
theorem HeadsHeldBut.handEnd {before : PerPlate Plate} {q : PlateId} {qs : List PlateId} {s : State}
    (h : HeadsHeldBut (MoveEnded before s.psv (q :: qs)) s) :
    HeadsHeldBut (MoveEnded before (handEnd q before s).psv qs) (handEnd q before s) := by
  unfold Machine.handEnd
  split
  · rcases releaseHead_cases (heldForPlate q) s with hd | ⟨hs, hc⟩
    · rw [releasePlate, hd]
      exact (drainList h.others).mono nofun
    · rw [releasePlate, hs]
      refine ⟨h.others, h.empty, fun e es hq => ?_⟩
      obtain ⟨hh, hheld⟩ := h.head e es hq
      exact ⟨hh, hheld.imp_right fun hm => hm.tail fun hk => by rw [hc e es hq hh] at hk; cases hk⟩
  · next hn => exact h.mono fun r hm => hm.tail fun _ => hn

/-- R105: the ends of the four moves are handed on in turn. -/
theorem HeadsHeldBut.handEnds {before : PerPlate Plate} {s : State}
    (h : HeadsHeldBut (MoveEnded before s.psv [.n1, .n2, .s1, .s2]) s) :
    HeadsHeldBut Unfreed (Machine.handEnd .s2 before (Machine.handEnd .s1 before (Machine.handEnd .n2 before
      (Machine.handEnd .n1 before s)))) := by
  have hnorth := h.handEnd.handEnd
  refine hnorth.handEnd.handEnd.mono fun r hm => ?_
  obtain ⟨q, hq, _⟩ := hm
  cases hq

theorem handEnd_pending (q : PlateId) (before : PerPlate Plate) (s : State) :
    (handEnd q before s).pending = s.pending := by
  unfold handEnd
  split
  · exact releaseHead_pending ..
  · rfl

namespace KeepsQueues
variable {a s t : State}

/-- R105: the four plates are judged, and then the end of each move is handed on. -/
theorem plateStep {n1 n2 s1 s2 : Int} (h : KeepsQueues a s) : KeepsQueues a (plateStep n1 n2 s1 s2 s) := by
  refine ⟨?_, fun ha => ?_⟩
  · unfold Machine.plateStep
    simp only [handEnd_pending]
    exact h.pending
  · have hsampled := (h.heads ha).apart (Apart.samplePlates ⟨n1, n2, s1, s2⟩ s)
    exact HeadsHeldBut.handEnds (s := { s with psv := sampledPlates ⟨n1, n2, s1, s2⟩ s.psv }) hsampled

/-! ## The ports (R189, R191) -/

theorem losePort {p : Port} (h : KeepsQueues a s) : KeepsQueues a (losePort p s) :=
  .ite (fun _ => h.emptied ⟨rfl, rfl⟩) fun _ =>
    same (h.emptied (p := p) (q := lostPort (s.port p)) ⟨rfl, rfl⟩) rfl rfl rfl rfl

/-- R189: the loss of the cabin aborts the recovery, with no head left that it held. -/
theorem handLoss {p : Port} (h : KeepsQueues a s) (hq : (s.port p).queue = []) : KeepsQueues a (handLoss p s) := by
  cases p
  · have hhalt := Apart.haltWheels s
    have hstopped : KeepsQueues a (haltWheels s) := ⟨hhalt.pending.trans h.pending, fun ha =>
      ((h.heads ha).apart hhalt).of_empty ((hhalt.queue .cabin).trans hq)⟩
    exact hstopped.same (t := recomputeFeed (Machine.haltWheels s))
  · exact h.apart (Apart.refl s).suspendCrossCheck
  · exact h.apart (Apart.refl s).goStale

theorem silence {p : Port} (h : KeepsQueues a s) :
    KeepsQueues a (surveyLoss p (Machine.handLoss p (raisePortLost p (Machine.losePort p s)))) := by
  have hlost : KeepsQueues a (raisePortLost p (Machine.losePort p s)) := (h.losePort (p := p)).same
  have hqueue : ((raisePortLost p (Machine.losePort p s)).port p).queue = [] := by
    have hpi : (raisePortLost p (Machine.losePort p s)).pi = (s.setPort p (lostPort (s.port p))).pi := by
      simp [losePort_pi]
    rw [State.port, hpi, ← State.port, State.port_setPort_same]
    rfl
  exact (hlost.handLoss hqueue).same

/-- R191: a restart empties every queue. -/
theorem restartHub (h : KeepsQueues a s) : KeepsQueues a (restartHub s) := by
  have ht := restartHub_eq (s := s) rfl rfl
  rw [restarting_eq] at ht
  generalize Machine.restartHub s = t at ht
  have hpi : t.pi = (restartPi s).pi := by rw [ht]
  refine ⟨by rw [ht]; exact h.pending, fun _ => .clear fun p => ?_⟩
  rw [State.port, hpi, ← State.port, restartPi_port]
  exact ⟨rfl, rfl⟩

theorem powered (ready : Bool) (s : State) (free : Nat) :
    KeepsQueues s { State.powered ready with pending := s.pending, free := free } :=
  ⟨rfl, fun _ => .clear fun p => by cases p <;> exact ⟨rfl, rfl⟩⟩

/-- R185: a head is judged when one stands, which only the cabin's queue can have. -/
theorem postedHeadApply (h : KeepsQueues a s) (p : Port) :
    ∃ t, execPostedHeadApply p s = .next t ∧ KeepsQueues a t := by
  refine ⟨_, rfl, ?_⟩
  split
  · exact h
  · next e es hq =>
    refine .ite (fun _ => h) fun _ => ⟨(drainList_pending ..).trans h.pending, fun ha => ?_⟩
    obtain ⟨hothers, _⟩ := h.heads ha
    by_cases hp : p = .cabin
    · subst hp; exact .drainList hothers
    · rw [(hothers p hp).1] at hq; cases hq

/-- R186: the entries behind a head that is given up become heads in turn. -/
theorem holdTimerExpiry (h : KeepsQueues a s) (p : Port) :
    ∃ t, execHoldTimerExpiry p s = .next t ∧ KeepsQueues a t := by
  refine ⟨_, rfl, ?_⟩
  split
  · next n e es hh hq =>
    have hr := h.recordRefusal (p := p) (e := e) (code := .heldTooLong)
    refine ⟨(drainList_pending ..).trans hr.pending, fun ha => ?_⟩
    by_cases hp : p = .cabin
    · subst hp; exact .drainList (hr.heads ha).others
    · rw [((h.heads ha).others p hp).1] at hq; cases hq
  · exact h

/-! ## Requests (R177, R182, R184, R187) -/

theorem hear {p : Port} (h : KeepsQueues a s) : KeepsQueues a (hear p s) := h.apart (Apart.refl s).hear

theorem receive {k : Kind} {p : Port} {tag : Byte} {d : List Byte} {body : State → State} (h : KeepsQueues a s)
    (hb : permitted k p = true → ∀ t, KeepsQueues a t → KeepsQueues a (body t)) :
    KeepsQueues a (receive k p tag d body s) :=
  .ite (fun _ => h.hear.reply) fun hp => .ite (fun _ => h.hear.reply) fun _ => .ite (fun _ => h.hear.reply) fun _ =>
    hb (Bool.not_eq_false _ ▸ hp) _ h.hear

/-- A request whose effect leaves the queues. -/
theorem receive_apart {k : Kind} {p : Port} {tag : Byte} {d : List Byte} {body : State → State} (h : KeepsQueues a s)
    (hb : ∀ t, Apart Unfreed t (body t)) : KeepsQueues a (Machine.receive k p tag d body s) :=
  h.receive fun _ t ht => ht.apart (hb t)

theorem post {k : Kind} {p : Port} {tag : Byte} {d : List Byte} {make : State → Posted × Bool} (h : KeepsQueues a s)
    (hm : ∀ t, (make t).1.kind = k) : KeepsQueues a (post k p tag d make s) :=
  h.receive fun hp t ht => .ite (fun _ => ht.reply) fun _ => ht.reply.joinQueue (by rw [hm]; exact hp)

theorem runRequest {k : Kind} {p : Port} {tag : Byte} {d : List Byte} {refusal : State → Option Status}
    {effect : State → State} (h : KeepsQueues a s) (he : ∀ t, Apart Unfreed t (effect t)) :
    KeepsQueues a (runRequest k p tag d refusal effect s) := by
  refine h.receive_apart fun t => .ite (fun _ => (Apart.refl t).reply) fun _ => ?_
  split
  · exact (Apart.refl t).reply
  · exact (he t).reply

/-! ## Every command -/

/-- What a command answers. -/
theorem exec (c : Instr) (s : State) : ∃ t, exec c s = .next t ∧ KeepsQueues s t := by
  have h := refl s
  have ha := Apart.refl s
  cases c with
  | powerOn ready => exact ⟨_, rfl, powered ready s _⟩
  | badFrame => exact ⟨_, rfl, .ite (fun _ => h.setPort rfl rfl) fun _ => h⟩
  | unknownKind => exact ⟨_, rfl, h.apart ha.hear.sendReply⟩
  | setScaler | setDepthCheck | loadZone | dropZone | setWheelDemand | setRamp | setFallbackSpeed | clearJam
  | setRecovery | setSteerMode | setTrimManual | setSteerGains | setPlate | clearPlate | setPumpDemand
  | setTransport | setPortTimeout | ackEvents | setEventEnables | setAlertLine | setMarkWidth =>
    exact ⟨_, rfl, h.post fun _ => rfl⟩
  | queryMeasurements | queryDepth | queryDemand | queryWheels | queryRecovery | querySteering | queryPlates
  | querySurvey | queryStatus | queryEvents => exact ⟨_, rfl, h.receive_apart fun t => (Apart.refl t).reply⟩
  | queryZone =>
    exact ⟨_, rfl, h.receive_apart fun t => .ite (fun _ => (Apart.refl t).reply) fun _ =>
      Apart.reply (.ite (fun _ => (Apart.refl t).same) fun _ => Apart.refl t)⟩
  | queryPort =>
    refine ⟨_, rfl, h.receive_apart fun t => ?_⟩
    split
    · exact (Apart.refl t).reply
    · exact Apart.reply (.ite (fun _ => (Apart.refl t).same) fun _ => Apart.refl t)
  | queryCheck =>
    exact ⟨_, rfl, h.receive_apart fun t =>
      Apart.reply (.ite (fun _ => (Apart.refl t).same) fun _ => Apart.refl t)⟩
  | queryReturn =>
    exact ⟨_, rfl, h.receive_apart fun t =>
      Apart.reply (.ite (fun _ => Apart.refl t) fun _ => (Apart.refl t).same)⟩
  | reportRopeCount => exact ⟨_, rfl, h.receive_apart fun t => (Apart.refl t).reportCount.reply⟩
  | setDatum =>
    refine ⟨_, rfl, h.receive_apart fun t => ?_⟩
    split
    · exact (Apart.refl t).reply
    · exact (Apart.refl t).takeDatum.reply
  | halt => exact ⟨_, rfl, h.receive fun _ _ ht => ht.haltTaken.reply⟩
  | releaseHalt =>
    exact ⟨_, rfl, h.receive_apart fun t => .ite (fun _ => (Apart.refl t).reply) fun _ => .reply (.same (.refl t))⟩
  | surveyClaim =>
    exact ⟨_, rfl, h.receive_apart fun t => .ite (fun _ => .reply (.same (.refl t))) fun _ => (Apart.refl t).reply⟩
  | surveyRelease =>
    refine ⟨_, rfl, h.receive_apart fun t => ?_⟩
    split
    · exact (Apart.refl t).reply
    · exact .reply (.same (.refl t))
  | surveyConfig | surveyClear | surveySetPointer => exact ⟨_, rfl, h.runRequest fun t => (Apart.refl t).same⟩
  | surveyStart =>
    exact ⟨_, rfl, h.runRequest fun t => (Apart.refl t).same (by simp [startSurvey]) (by simp [startSurvey])
      (by simp [startSurvey]) (by simp [startSurvey])⟩
  | surveyStop => exact ⟨_, rfl, h.runRequest fun t => (Apart.refl t).same⟩
  | surveyCheck => exact ⟨_, rfl, h.runRequest fun t => (Apart.refl t).same⟩
  | surveyWindow =>
    exact ⟨_, rfl, h.receive_apart fun t => .ite (fun _ => .reply (.setPort (.refl t) rfl rfl)) fun _ =>
      (Apart.refl t).reply⟩
  | readNext =>
    refine ⟨_, rfl, h.receive_apart fun t => ?_⟩
    dsimp only
    split
    · exact .reply (.setPort (.refl t) rfl rfl)
    · exact (Apart.refl t).reply
  | testInject =>
    refine ⟨_, rfl, h.receive_apart fun t => ?_⟩
    split
    · exact (Apart.refl t).reply
    · exact .ite (fun _ => .reply (.setPort (.refl t) rfl rfl)) fun _ => (Apart.refl t).reply
  | setPlantCeiling => exact ⟨_, rfl, h.receive_apart fun t => .reply (.same (.refl t))⟩
  | reportDensity =>
    exact ⟨_, rfl, h.receive_apart fun t => .ite (fun _ => .reply (.same (.refl t) rfl rfl rfl rfl)) fun _ =>
      (Apart.refl t).reply⟩
  | resetReturn =>
    exact ⟨_, rfl, h.receive_apart fun t => .ite (fun _ => (Apart.refl t).reply) fun _ => .reply (.same (.refl t))⟩
  | headRestart => exact ⟨_, rfl, h.receive fun _ _ ht => ht.reply.restartHub⟩
  | postedHeadApply p => exact h.postedHeadApply p
  | holdTimerExpiry p => exact h.holdTimerExpiry p
  | sampleSlot =>
    refine ⟨_, rfl, h.apart ?_⟩
    split
    · exact ha.takeInvalid
    · exact ha.takeInvalid
    · exact ha.takeInvalid
    · exact ha.takeValid
  | sensorLost => exact ⟨_, rfl, h.apart (.ite (fun _ => Apart.loseSensor ha.same) fun _ => ha)⟩
  | tachGateEnd | flowGateEnd => exact ⟨_, rfl, h.same⟩
  | governorUpdate => exact ⟨_, rfl, h.governorStep⟩
  | headPressureSample => exact ⟨_, rfl, h.apart ha.takeHeadPressure⟩
  | plateSample => exact ⟨_, rfl, h.plateStep⟩
  | snapshotIntervalExpiry => exact ⟨_, rfl, .ite (fun _ => h.same (t := setFeedRate _ _)) fun _ => h.same⟩
  | stallTimerExpiry => exact ⟨_, rfl, h.apart (.ite (fun _ => ha.takeStall) fun _ => ha)⟩
  | tachFault | primingTimerExpiry | starvationCountExpiry => exact ⟨_, rfl, .ite (fun _ => h.same) fun _ => h⟩
  | depthDisagree => exact ⟨_, rfl, h.apart (.ite (fun _ => Apart.raiseDisagree ha.same) fun _ => ha)⟩
  | disagreeClear => exact ⟨_, rfl, h.apart (.ite (fun _ => Apart.setDisagree ha.same) fun _ => ha)⟩
  | phaseTimerExpiry => exact h.phaseTimerExpiry
  | burstStallTimerExpiry => exact h.burstStallTimerExpiry
  | settleTimerExpiry => exact ⟨_, rfl, .ite (fun _ => h.endMove (Apart.refl _)) fun _ => h⟩
  | moveTimerExpiry q =>
    have hraised := (Apart.refl { s with psv := s.psv.set q (stickPlate (s.psv.get q)) }).same
      (t := raise .plateStuck { s with psv := s.psv.set q (stickPlate (s.psv.get q)) })
    exact ⟨_, rfl, .ite (fun _ => h.endMove hraised) fun _ => h⟩
  | plantReadyRise => exact ⟨_, rfl, .ite (fun _ => h) fun _ => h.same⟩
  | plantReadyFall => exact ⟨_, rfl, .ite (fun _ => h.same) fun _ => h⟩
  | silenceTimerExpiry => exact ⟨_, rfl, .ite (fun _ => h.silence) fun _ => h⟩
  | startUpTimerExpiry => exact ⟨_, rfl, h.apart (.ite (fun _ => ha.endStarting) fun _ => ha)⟩
  | widthTimerExpiry => exact ⟨_, rfl, h.same⟩

end KeepsQueues

/-- A hold timer that runs down runs on. -/
theorem apart_tickTimers (s : State) : Apart Unfreed s (tickTimers s) := by
  refine .of_holders rfl (fun p => by cases p <;> rfl) (fun p => ?_) id fun q hq => ?_
  · cases p <;> exact Option.isSome_map
  · cases q <;> exact hq

/-- Settles O3: the command leaves the queue before it is executed, and no operation of a command reads or writes it. -/
theorem everyCommandCompletes : Obligations.EveryCommandCompletes := by
  intro c s
  obtain ⟨t, ht, hk⟩ := KeepsQueues.exec c s
  exact ⟨t, ht, hk.pending⟩

/-- Settles O22: what can free a held head, the end of a recovery or of a plate's move, hands it to be judged
(`KeepsQueues.release`), and a queue is judged until a head is held or none is left (`HeadsHeldBut.drainList`). -/
theorem headsHeldKept : Obligations.HeadsHeldKept := by
  intro s t hs h
  rw [headsHeld_iff] at hs ⊢
  unfold step at h
  split at h
  · cases h
    exact (hs.apart (apart_tickTimers s)).setPending (expired (tickTimers s))
  · next c rest _ =>
    obtain ⟨u, hu, hk⟩ := KeepsQueues.exec c { s with pending := rest }
    cases hu.symm.trans h
    exact hk.heads (hs.setPending rest)

end Sys2Proof.Machine
end

section
/-! SUPPORT. Frames and the arrival of a request: a step runs the command at the front (O1), what is read as a frame
(O4, O5) and the checks a request meets before its own effect (O8). -/

namespace Sys2Proof.Machine

/-- Settles O1. -/
theorem frontCommandRuns : Obligations.FrontCommandRuns := fun _ _ _ => rfl

/-! ## Frames (R177, R181) -/

/-- R177: the length byte spells the length of a payload that fits. -/
theorem toNat_lengthByte {payload : List Byte} (h : payload.length ≤ 60) :
    (BitVec.ofNat 8 payload.length).toNat = payload.length := by
  rw [BitVec.toNat_ofNat]
  omega

theorem crcBytes_length (c : BitVec 16) : (crcBytes c).length = 2 := rfl

theorem readFrame_frameBytes {payload : List Byte} (h : payload.length ≤ 60) (kind tag : Byte) :
    readFrame (frameBytes kind tag payload) = some (kind, tag, payload) := by
  have hlen := toNat_lengthByte h
  simp only [frameBytes, checkedBytes, List.cons_append, readFrame, hlen, List.take_left, List.drop_left]
  simp [h, crcBytes_length]

/-- R177: the four checks leave no byte of a candidate free but kind, tag and payload. -/
theorem frameBytes_of_readFrame {candidate payload : List Byte} {kind tag : Byte}
    (h : readFrame candidate = some (kind, tag, payload)) :
    candidate = frameBytes kind tag payload ∧ payload.length ≤ 60 := by
  unfold readFrame at h
  split at h
  · next marker k g len rest =>
    dsimp only at h
    split at h <;> cases h
    next hchecks =>
      obtain ⟨hmarker, hmax, hlength, hcheck⟩ := hchecks
      have hpayload : (rest.take len.toNat).length = len.toNat := by rw [List.length_take]; omega
      have hlen : BitVec.ofNat 8 (rest.take len.toNat).length = len := by rw [hpayload]; simp
      refine ⟨?_, by omega⟩
      rw [frameBytes, checkedBytes, hlen, ← hcheck, hmarker]
      simp
  · cases h

/-- Settles O5. -/
theorem frameReadExactly : Obligations.FrameReadExactly := by
  refine fun candidate kind tag payload => ⟨frameBytes_of_readFrame, ?_⟩
  rintro ⟨rfl, h⟩
  exact readFrame_frameBytes h kind tag

/-- R181: the kind byte names its kind. -/
theorem ofCode_code (k : Kind) : Kind.ofCode (BitVec.ofNat 8 k.code) = some k := by cases k <;> rfl

theorem commandOf_request {i : Instr} {k : Kind} {p : Port} {tag : Byte} {d : List Byte}
    (h : i.request = some (k, p, tag, d)) : commandOf k p tag d = i := by
  cases i <;> cases h <;> rfl

/-- R177: the payload of a well-formed request fits its frame. -/
theorem length_of_wellFormed {i : Instr} {k : Kind} {p : Port} {tag : Byte} {d : List Byte}
    (h : i.request = some (k, p, tag, d)) (hw : i.wellFormed = true) : d.length ≤ 60 := by
  unfold Instr.wellFormed at hw
  split at hw
  · cases h
  · cases h
  · simpa [h] using hw

/-- Settles O4: the frame reads back its kind byte, tag and payload, and the kind byte names the kind. -/
theorem frameRoundTrip : Obligations.FrameRoundTrip := by
  intro i k p tag d h hw
  refine ⟨frameBytes (BitVec.ofNat 8 k.code) tag d, by rw [frameOf, h]; rfl, ?_⟩
  simp only [commandOfFrame, readFrame_frameBytes (length_of_wellFormed h hw), ofCode_code]
  exact commandOf_request h

/-! ## The arrival checks (R182) -/

/-- R182: whatever a request is for, it is received first. -/
theorem exec_request {i : Instr} {k : Kind} {p : Port} {tag : Byte} {d : List Byte}
    (h : i.request = some (k, p, tag, d)) (s : State) :
    ∃ body, exec i s = .next (receive k p tag d body s) := by
  rw [← commandOf_request h]
  cases k <;> exact ⟨_, rfl⟩

section
variable {k : Kind} {p : Port} {tag : Byte} {d : List Byte} {body : State → State} {s : State}

theorem receive_notPermitted (hp : permitted k p = false) :
    receive k p tag d body s = answered k p tag .notPermitted [] s := if_pos hp

theorem receive_badLength (hp : permitted k p = true) (hl : d.length ≠ payloadLength k) :
    receive k p tag d body s = answered k p tag .badLength [] s := by
  simp [receive, hp, hl, answered]

theorem receive_starting (hp : permitted k p = true) (hl : d.length = payloadLength k) (hs : s.pi.hub = .starting)
    (hk : k ≠ .queryStatus) : receive k p tag d body s = answered k p tag .starting [] s := by
  simp [receive, hp, hl, hs, hk, answered]

end

/-- Settles O8. -/
theorem arrivalRefusals : Obligations.ArrivalRefusals := by
  intro i k p tag d s h
  obtain ⟨body, hbody⟩ := exec_request h s
  rw [hbody]
  exact ⟨fun hp => congrArg _ (receive_notPermitted hp), fun hp hl => congrArg _ (receive_badLength hp hl),
    fun hp hl hs hk => congrArg _ (receive_starting hp hl hs hk)⟩

end Sys2Proof.Machine
end

section
/-! SUPPORT. The reply of a request (O6): the port it came on has been heard, no effect of the request touches its link,
its silence timer or its test injection before the reply, nor its reply after. -/

namespace Sys2Proof.Machine

/-- What a reply reads and leaves of a port: its link, its silence timer, its test injection and the reply itself. -/
structure LineKept (p : Port) (s t : State) : Prop where
  link : (t.port p).link = (s.port p).link
  silence : (t.port p).silence = (s.port p).silence
  injection : (t.port p).injection = (s.port p).injection
  lastReply : (t.port p).lastReply = (s.port p).lastReply

namespace LineKept
variable {p p' : Port} {a s t : State}

theorem refl (s : State) : LineKept p s s := ⟨rfl, rfl, rfl, rfl⟩

theorem trans (h : LineKept p a s) (k : LineKept p s t) : LineKept p a t :=
  ⟨k.link.trans h.link, k.silence.trans h.silence, k.injection.trans h.injection, k.lastReply.trans h.lastReply⟩

/-- An operation that PI takes no part in. -/
theorem pi (hpi : t.pi = s.pi := by simp) : LineKept p s t := by
  have hport : t.port p = s.port p := by rw [State.port, hpi, State.port]
  exact ⟨by rw [hport], by rw [hport], by rw [hport], by rw [hport]⟩

/-- A port's record replaced, but for its line. -/
theorem setPort {q : PortRec} (hlink : q.link = (s.port p').link) (hsilence : q.silence = (s.port p').silence)
    (hinjection : q.injection = (s.port p').injection) (hreply : q.lastReply = (s.port p').lastReply) :
    LineKept p s (s.setPort p' q) := by
  by_cases hp : p = p'
  · subst hp
    constructor <;> rw [State.port_setPort_same] <;> assumption
  · constructor <;> rw [State.port_setPort_ne _ _ hp]

theorem setQueue {es : List Entry} {n : Option Nat} : LineKept p s (setQueue p' es n s) := setPort rfl rfl rfl rfl

theorem recordRefusal {e : Entry} {code : Status} : LineKept p s (recordRefusal p' e code s) :=
  trans (setPort (s := s) (p' := p') (q := { s.port p' with
    rejection := some { kind := e.request.kind, tag := e.tag, code := code }
    refused := min 255 ((s.port p').refused + 1) }) rfl rfl rfl rfl) (pi rfl)

/-- R188: a request applied touches no line; a new timeout is read when the port is next heard. -/
theorem applied {r : Posted} (ht : applyPosted p' r s = .ok t) : LineKept p s t := by
  cases r
  case setPortTimeout =>
    simp only [applyPosted, applySetPortTimeout] at ht
    (repeat' split at ht) <;> cases ht
    exact setPort rfl rfl rfl rfl
  all_goals
    simp only [applyPosted, applySetScaler, applySetDepthCheck, applyLoadZone, applyDropZone, applySetWheelDemand,
      applySetRamp, applySetFallbackSpeed, applyClearJam, applySetRecovery, applySetSteerMode, applySetTrimManual,
      applySetSteerGains, applySetPlate, applyClearPlate, applySetPumpDemand, applySetTransport, applyAckEvents,
      applySetEventEnables, applySetAlertLine, applySetMarkWidth] at ht
    (repeat' split at ht) <;> cases ht <;> exact pi

theorem applyEntry {e : Entry} : LineKept p s (applyEntry p' e s) := by
  unfold Machine.applyEntry
  split
  · next ht => exact applied ht
  · exact recordRefusal

theorem drainList {es : List Entry} : LineKept p s (drainList p' es s) := by
  induction es generalizing s with
  | nil => exact setQueue
  | cons e es ih =>
    unfold Machine.drainList
    split
    · exact setQueue
    · exact applyEntry.trans ih

theorem joinQueue {e : Entry} : LineKept p s (joinQueue p' e s) := by
  unfold Machine.joinQueue
  dsimp only
  split
  · exact drainList
  · exact setPort rfl rfl rfl rfl

theorem releaseHead {concerns : Posted → Bool} : LineKept p s (releaseHead concerns s) := by
  rcases releaseHead_cases concerns s with hd | ⟨hs, _⟩
  · rw [hd]
    exact drainList
  · rw [hs]
    exact refl s

theorem haltTaken : LineKept p s (haltTaken s) := by
  have hhalt : LineKept p s (haltWheels s) := pi
  unfold Machine.haltTaken
  split
  · exact hhalt.trans releaseHead
  · exact hhalt

end LineKept

/-- R187: the frame of a request of kind `k` has been heard on port `p`, whose record had been `q`; a TEST_INJECT may
have set the count of test injection since. -/
structure Heard (k : Kind) (p : Port) (q : PortRec) (t : State) : Prop where
  link : (t.port p).link = .active
  silence : (t.port p).silence = some q.timeout
  injection : k ≠ .testInject → (t.port p).injection = q.injection

/-- R178, R180, R192: the request has been answered. -/
structure Replied (k : Kind) (p : Port) (tag : Byte) (q : PortRec) (t : State) : Prop where
  answer : ∃ r, (t.port p).lastReply = some r ∧ r.kind = kindByte k ∧ r.tag = tag ∧
    r.check = (if 0 < q.injection ∧ k ≠ .testInject
               then ~~~(replyCheck r.kind r.tag r.status r.payload) else replyCheck r.kind r.tag r.status r.payload)
  link : (t.port p).link = .active
  silence : (t.port p).silence = some q.timeout

theorem kindByte_ne_testInject_iff (k : Kind) : (kindByte k != kindByte .testInject) = true ↔ k ≠ .testInject := by
  cases k <;> decide

namespace Replied
variable {k : Kind} {p : Port} {tag : Byte} {q : PortRec} {s t : State}

theorem line (h : Replied k p tag q s) (hl : LineKept p s t) : Replied k p tag q t :=
  ⟨by rw [hl.lastReply]; exact h.answer, hl.link.trans h.link, hl.silence.trans h.silence⟩

theorem joinQueue {e : Entry} (h : Replied k p tag q s) : Replied k p tag q (joinQueue p e s) := h.line .joinQueue

/-- R191: a restart keeps the links, and the reply that it follows. -/
theorem restartHub (h : Replied k p tag q s) : Replied k p tag q (restartHub s) := by
  have ht := restartHub_eq (s := s) rfl rfl
  rw [restarting_eq] at ht
  have hpi : (Machine.restartHub s).pi = (restartPi s).pi := by rw [ht]
  have hport : (Machine.restartHub s).port p = restartPort (s.port p) := by
    rw [State.port, hpi, ← State.port, restartPi_port]
  exact ⟨by rw [hport]; exact h.answer, by rw [hport]; exact h.link, by rw [hport]; exact h.silence⟩

theorem ite {c : Prop} [Decidable c] {u : State} (ht : Replied k p tag q t) (hu : Replied k p tag q u) :
    Replied k p tag q (if c then t else u) := by
  split
  · exact ht
  · exact hu

end Replied

namespace Heard
variable {k : Kind} {p : Port} {tag : Byte} {q : PortRec} {s t : State}

theorem hear (k : Kind) (p : Port) (s : State) : Heard k p (s.port p) (hear p s) := by
  have hport := hear_port p s
  exact ⟨by rw [hport], by rw [hport], fun _ => by rw [hport]⟩

theorem line (h : Heard k p q s) (hl : LineKept p s t) : Heard k p q t :=
  ⟨hl.link.trans h.link, hl.silence.trans h.silence, fun hk => hl.injection.trans (h.injection hk)⟩

/-- An effect that PI takes no part in. -/
theorem pi (h : Heard k p q s) (hpi : t.pi = s.pi := by simp) : Heard k p q t := h.line (.pi hpi)

/-- R192: a TEST_INJECT sets the count of a port. -/
theorem setInjection {p' : Port} {n : Nat} (h : Heard .testInject p q s) :
    Heard .testInject p q (s.setPort p' { s.port p' with injection := n }) := by
  by_cases hp : p = p'
  · subst hp
    exact ⟨by rw [State.port_setPort_same]; exact h.link, by rw [State.port_setPort_same]; exact h.silence,
      fun hk => absurd rfl hk⟩
  · exact ⟨by rw [State.port_setPort_ne _ _ hp]; exact h.link, by rw [State.port_setPort_ne _ _ hp]; exact h.silence,
      fun hk => absurd rfl hk⟩

/-- R180, R192: the check that the injection in force gives. -/
theorem injected_iff (h : Heard k p q s) :
    injected (s.port p) (kindByte k) = true ↔ 0 < q.injection ∧ k ≠ .testInject := by
  rw [injected, Bool.and_eq_true, decide_eq_true_iff, kindByte_ne_testInject_iff]
  exact and_congr_left fun hk => by rw [h.injection hk]

theorem reply (h : Heard k p q s) (st : Status) (d : List Byte) : Replied k p tag q (reply k p tag st d s) := by
  have hport : (Machine.reply k p tag st d s).port p = { s.port p with
      injection := if injected (s.port p) (kindByte k) then (s.port p).injection - 1 else (s.port p).injection
      lastReply := some { kind := kindByte k, tag := tag, status := st, payload := d,
                          check := if injected (s.port p) (kindByte k) then ~~~(replyCheck (kindByte k) tag st d)
                                   else replyCheck (kindByte k) tag st d } } := State.port_setPort_same ..
  refine ⟨⟨_, by rw [hport], rfl, rfl, ?_⟩, by rw [hport]; exact h.link, by rw [hport]; exact h.silence⟩
  simp only [h.injected_iff]

end Heard

namespace Replied
variable {k : Kind} {p : Port} {tag : Byte} {d : List Byte} {s : State}

theorem receive {body : State → State}
    (hb : ∀ t, Heard k p (s.port p) t → Replied k p tag (s.port p) (body t)) :
    Replied k p tag (s.port p) (receive k p tag d body s) := by
  have h := Heard.hear k p s
  exact .ite (h.reply ..) (.ite (h.reply ..) (.ite (h.reply ..) (hb _ h)))

theorem post {make : State → Posted × Bool} : Replied k p tag (s.port p) (post k p tag d make s) :=
  receive fun _ h => .ite (h.reply ..) (h.reply ..).joinQueue

theorem runRequest {refusal : State → Option Status} {effect : State → State} (he : ∀ t, (effect t).pi = t.pi) :
    Replied k p tag (s.port p) (runRequest k p tag d refusal effect s) := by
  refine receive fun t h => .ite (h.reply ..) ?_
  split
  · exact h.reply ..
  · exact (h.pi (he t)).reply ..

/-- What a request answers. -/
theorem exec {i : Instr} (hi : i.request = some (k, p, tag, d)) (s : State) :
    ∃ t, exec i s = .next t ∧ Replied k p tag (s.port p) t := by
  rw [← commandOf_request hi]
  cases k with
  | setScaler | setDepthCheck | loadZone | dropZone | setWheelDemand | setRamp | setFallbackSpeed | clearJam
  | setRecovery | setSteerMode | setTrimManual | setSteerGains | setPlate | clearPlate | setPumpDemand
  | setTransport | setPortTimeout | ackEvents | setEventEnables | setAlertLine | setMarkWidth => exact ⟨_, rfl, post⟩
  | queryMeasurements | queryDepth | queryDemand | queryWheels | queryRecovery | querySteering | queryPlates
  | querySurvey | queryStatus | queryEvents => exact ⟨_, rfl, receive fun _ h => h.reply ..⟩
  | queryZone =>
    refine ⟨_, rfl, receive fun t h => .ite (h.reply ..) (Heard.reply (h.pi ?_) ..)⟩
    split <;> rfl
  | queryPort =>
    refine ⟨_, rfl, receive fun t h => ?_⟩
    split
    · exact h.reply ..
    · refine Heard.reply (h.pi ?_) ..
      split <;> rfl
  | queryCheck | queryReturn =>
    refine ⟨_, rfl, receive fun t h => Heard.reply (h.pi ?_) ..⟩
    split <;> rfl
  | reportRopeCount => exact ⟨_, rfl, receive fun _ h => Heard.reply h.pi ..⟩
  | setDatum =>
    refine ⟨_, rfl, receive fun t h => ?_⟩
    split
    · exact h.reply ..
    · exact Heard.reply h.pi ..
  | halt => exact ⟨_, rfl, receive fun _ h => (h.line .haltTaken).reply ..⟩
  | releaseHalt => exact ⟨_, rfl, receive fun _ h => .ite (h.reply ..) (Heard.reply h.pi ..)⟩
  | surveyClaim => exact ⟨_, rfl, receive fun _ h => .ite (Heard.reply h.pi ..) (h.reply ..)⟩
  | surveyRelease =>
    refine ⟨_, rfl, receive fun t h => ?_⟩
    split
    · exact h.reply ..
    · exact Heard.reply h.pi ..
  | surveyConfig | surveyClear | surveySetPointer | surveyStop | surveyCheck =>
    exact ⟨_, rfl, runRequest fun _ => by simp⟩
  | surveyStart => exact ⟨_, rfl, runRequest fun _ => by simp [startSurvey]⟩
  | surveyWindow =>
    refine ⟨_, rfl, receive fun t h => .ite (Heard.reply (h.line ?_) ..) (h.reply ..)⟩
    exact .setPort rfl rfl rfl rfl
  | readNext =>
    refine ⟨_, rfl, receive fun t h => ?_⟩
    dsimp only
    split
    · refine Heard.reply (h.line ?_) ..
      exact .setPort rfl rfl rfl rfl
    · exact h.reply ..
  | testInject =>
    refine ⟨_, rfl, receive fun t h => ?_⟩
    split
    · exact h.reply ..
    · exact .ite (Heard.reply h.setInjection ..) (h.reply ..)
  | setPlantCeiling => exact ⟨_, rfl, receive fun _ h => Heard.reply h.pi ..⟩
  | reportDensity =>
    refine ⟨_, rfl, receive fun t h => .ite (Heard.reply (h.pi ?_) ..) (h.reply ..)⟩
    rfl
  | resetReturn => exact ⟨_, rfl, receive fun _ h => .ite (h.reply ..) (Heard.reply h.pi ..)⟩
  | headRestart => exact ⟨_, rfl, receive fun _ h => (h.reply ..).restartHub⟩

end Replied

/-- Settles O6: the arrival checks answer a refusal themselves, and every effect of a request comes with one reply. -/
theorem everyRequestAnswered : Obligations.EveryRequestAnswered := by
  intro i k p tag d s hi
  obtain ⟨t, ht, ⟨r, hr, hkind, htag, hcheck⟩, hlink, hsilence⟩ := Replied.exec hi s
  exact ⟨t, r, ht, hr, hkind, htag, hcheck, hlink, hsilence⟩

end Sys2Proof.Machine
end

section
/-! SUPPORT. The order of a posted queue (O40): what joins it, and how its heads are judged. -/

namespace Sys2Proof.Machine

/-! ## Joining (R184) -/

/-- R184: the posted kinds are posted. -/
theorem exec_posted {i : Instr} {k : Kind} {p : Port} {tag : Byte} {d : List Byte}
    (h : i.request = some (k, p, tag, d)) (hk : isPosted k = true) (s : State) :
    ∃ make, exec i s = .next (post k p tag d make s) := by
  rw [← commandOf_request h]
  cases k with
  | setScaler | setDepthCheck | loadZone | dropZone | setWheelDemand | setRamp | setFallbackSpeed | clearJam
  | setRecovery | setSteerMode | setTrimManual | setSteerGains | setPlate | clearPlate | setPumpDemand
  | setTransport | setPortTimeout | ackEvents | setEventEnables | setAlertLine | setMarkWidth => exact ⟨_, rfl⟩
  | _ => exact absurd hk (by decide)

/-- R184: a queue of 8 entries takes nothing. -/
theorem post_full {k : Kind} {p : Port} {tag : Byte} {d : List Byte} {make : State → Posted × Bool} {s : State}
    (hp : permitted k p = true) (hl : d.length = payloadLength k) (hr : s.pi.hub = .ready)
    (hq : 8 ≤ (s.port p).queue.length) : post k p tag d make s = answered k p tag .queueFull [] s := by
  refine (receive_ready hp hl hr _).trans (if_pos ?_)
  rwa [hear_port]

/-- R184, R185: a request posted at a queue that has room, as the command that it is. -/
theorem exec_joined {i : Instr} {k : Kind} {p : Port} {tag : Byte} {d : List Byte} {make : State → Posted × Bool}
    {s : State} {r : Posted} {c : Bool} (hi : exec i s = .next (post k p tag d make s)) (hr : s.pi.hub = .ready)
    (hq : (s.port p).queue.length < 8) (hp : permitted k p = true) (hl : d.length = payloadLength k)
    (hm : make (hear p s) = (r, c)) (hk : r.kind = k) : exec i s = .next (joinedAfter p tag r c s) := by
  rw [hi, post_joined hr hq hp hl hm hk]

section
variable {d : List Byte}

/-- R49, R50, R99, R158: a value clamped is one that lay outside its range. -/
theorem clamped_iff {x lo hi : Int} (h : lo ≤ hi) : max lo (min x hi) ≠ x ↔ x < lo ∨ hi < x := by omega

theorem postWheelDemand_clamped {x : Int} (hx : x = int16At d 0) :
    postWheelDemand d = (.setWheelDemand (max 0 (min x 350)).toNat, decide (x < 0 ∨ 350 < x)) := by
  have hv : (((max 0 (min x 350)).toNat : Nat) : Int) = max 0 (min x 350) := by omega
  rw [postWheelDemand_eq hx hv, hv]
  simp only [clamped_iff (show (0 : Int) ≤ 350 by decide)]

theorem postRamp_clamped {x : Nat} (hx : x = natAt d 0) :
    postRamp d = (.setRamp (max 5 (min x 100)), decide (x < 5 ∨ 100 < x)) := by
  rw [postRamp_eq hx rfl]
  have hiff : max 5 (min x 100) ≠ x ↔ x < 5 ∨ 100 < x := by omega
  simp only [hiff]

theorem postPlate_clamped {x : Nat} (hx : x = natAt d 1) :
    postPlate d = (.setPlate (byteAt d 0).toNat (min x 100), decide (100 < x)) := by
  rw [postPlate_eq hx]
  have hiff : min x 100 ≠ x ↔ 100 < x := by omega
  simp only [hiff]

theorem postPumpDemand_clamped {x : Nat} (hx : x = natAt d 0) :
    postPumpDemand d = (.setPumpDemand (min x 7000), decide (7000 < x)) := by
  have hiff : min x 7000 ≠ x ↔ 7000 < x := by omega
  rw [postPumpDemand, ← hx]
  simp only [hiff]

/-- R98: the limit is the one at arrival. -/
theorem postTrimManual_clamped {x lim : Int} {s : State} (hx : x = intAt d 0)
    (hlim : lim = (min s.slu.settings.trimLimit (s.wg.sEff / 4) : Nat)) :
    postTrimManual d (hear .cabin s) =
      (.setTrimManual (max (-lim) (min x lim)), decide (x < -lim ∨ lim < x)) := by
  obtain ⟨_, _, hwg, _, hslu, _⟩ := hear_keeps .cabin s
  have hl : (trimLim (hear .cabin s).slu.settings.trimLimit (hear .cabin s).wg.sEff : Int) = lim := by
    rw [hlim, hwg, hslu]
    rfl
  have hiff := clamped_iff (x := x) (show -lim ≤ lim by omega)
  simp only [postTrimManual, ← hx, hl, clampInt, hiff]

end

/-! ## Judging (R185, R186) -/

section
variable {p : Port} {e : Entry} {es : List Entry} {s u : State} {c : Status}

theorem drainList_held (h : held e.request s = true) :
    drainList p (e :: es) s = s.setPort p { s.port p with queue := e :: es, hold := some 10000 } := if_pos h

theorem drainList_taken (h : held e.request s = false) (ht : applyPosted p e.request s = .ok u) :
    drainList p (e :: es) s = drainList p es u := by
  rw [drainList, if_neg (by rw [h]; decide), applyEntry, ht]

theorem drainList_refused (h : held e.request s = false) (ht : applyPosted p e.request s = .error c) :
    drainList p (e :: es) s = drainList p es (refusedAt e.request.kind p e.tag c s) := by
  rw [drainList, if_neg (by rw [h]; decide), applyEntry, ht]
  exact congrArg _ (recordRefusal_eq ..)

theorem exec_postedHeadApply_empty (hq : (s.port p).queue = []) : exec (.postedHeadApply p) s = .next s := by
  change execPostedHeadApply p s = _
  simp only [execPostedHeadApply, hq]

/-- Log entry 20: a held head without a timer is given one. -/
theorem exec_postedHeadApply_held (hq : (s.port p).queue = e :: es) (h : held e.request s = true) :
    exec (.postedHeadApply p) s =
      .next (s.setPort p { s.port p with hold := some ((s.port p).hold.getD 10000) }) := by
  change execPostedHeadApply p s = _
  simp only [execPostedHeadApply, hq, h, Bool.true_and, drain]
  cases hh : (s.port p).hold with
  | none => rw [drainList_held h, ← hq]; rfl
  | some n =>
    have hrec : { s.port p with queue := e :: es, hold := some n } = s.port p := by rw [← hq, ← hh]
    simp [hrec]

theorem exec_postedHeadApply_free (hq : (s.port p).queue = e :: es) (h : held e.request s = false) :
    exec (.postedHeadApply p) s = .next (drainList p (e :: es) s) := by
  change execPostedHeadApply p s = _
  simp only [execPostedHeadApply, hq, h, drain]
  rfl

theorem exec_holdTimerExpiry_idle (hh : (s.port p).hold = none) : exec (.holdTimerExpiry p) s = .next s := by
  change execHoldTimerExpiry p s = _
  simp only [execHoldTimerExpiry, hh]

theorem exec_holdTimerExpiry_held (hh : (s.port p).hold.isSome = true) (hq : (s.port p).queue = e :: es) :
    exec (.holdTimerExpiry p) s = .next (drainList p es (refusedAt e.request.kind p e.tag .heldTooLong s)) := by
  obtain ⟨n, hn⟩ := Option.isSome_iff_exists.1 hh
  change execHoldTimerExpiry p s = _
  simp only [execHoldTimerExpiry, hn, hq, recordRefusal_eq]

end

/-- Settles O40: the three kinds of any port and the eighteen of the cabin join alike (`exec_joined`); the heads are
judged one by one (`drainList`). -/
theorem queueOrder : Obligations.QueueOrder := by
  refine ⟨?full, ?cabin, ?anyPort, fun p s => ⟨rfl, fun _ _ => drainList_held, fun _ _ _ => drainList_taken,
    fun _ _ _ => drainList_refused⟩, fun p s => ⟨exec_postedHeadApply_empty, fun _ _ => exec_postedHeadApply_held,
    fun _ _ => exec_postedHeadApply_free, exec_holdTimerExpiry_idle, fun _ _ => exec_holdTimerExpiry_held⟩⟩
  case full =>
    intro i k p tag d s hi hk hp hl hr hq
    obtain ⟨make, hmake⟩ := exec_posted hi hk s
    rw [hmake, post_full hp hl hr hq]
  case cabin =>
    intro tag d s joined hr hq hj
    simp only [hj]
    exact ⟨fun hl => exec_joined rfl hr hq rfl hl rfl rfl, fun hl => exec_joined rfl hr hq rfl hl rfl rfl,
      fun hl => exec_joined rfl hr hq rfl hl rfl rfl, fun hl => exec_joined rfl hr hq rfl hl rfl rfl,
      fun _ hx hl => exec_joined rfl hr hq rfl hl (postWheelDemand_clamped hx) rfl,
      fun _ hx hl => exec_joined rfl hr hq rfl hl (postRamp_clamped hx) rfl,
      fun hl => exec_joined rfl hr hq rfl hl rfl rfl, fun hl => exec_joined rfl hr hq rfl hl rfl rfl,
      fun hl => exec_joined rfl hr hq rfl hl rfl rfl, fun hl => exec_joined rfl hr hq rfl hl rfl rfl,
      fun _ _ hx hlim hl => exec_joined rfl hr hq rfl hl (postTrimManual_clamped hx hlim) rfl,
      fun hl => exec_joined rfl hr hq rfl hl rfl rfl,
      fun _ hx hl => exec_joined rfl hr hq rfl hl (postPlate_clamped hx) rfl,
      fun hl => exec_joined rfl hr hq rfl hl rfl rfl,
      fun _ hx hl => exec_joined rfl hr hq rfl hl (postPumpDemand_clamped hx) rfl,
      fun hl => exec_joined rfl hr hq rfl hl rfl rfl, fun hl => exec_joined rfl hr hq rfl hl rfl rfl,
      fun hl => exec_joined rfl hr hq rfl hl rfl rfl⟩
  case anyPort =>
    intro p tag d s hr hq
    exact ⟨fun hl => exec_joined rfl hr hq rfl hl rfl rfl, fun hl => exec_joined rfl hr hq rfl hl rfl rfl,
      fun hl => exec_joined rfl hr hq rfl hl rfl rfl⟩

end Sys2Proof.Machine
end

section
/-! SUPPORT. The event sets, and the alert lines of the ports (O37). -/

namespace Sys2Proof.Machine

/-! ## Event sets bit by bit (R195) -/

/-- R196, R197: a set names no bit from 19 to 31 exactly when its value is below 2 ^ 19. -/
theorem namesNoKind_eq_false_iff_lt (set : EventSet) : namesNoKind set = false ↔ set.toNat < 2 ^ 19 := by
  rw [namesNoKind_eq_false, ← BitVec.toNat_inj, BitVec.toNat_ushiftRight, Nat.shiftRight_eq_div_pow]
  change set.toNat / 2 ^ 19 = 0 ↔ _
  omega

theorem getLsbD_lt_of_legal {set : EventSet} {i : Nat} (h : namesNoKind set = false) (hi : set.getLsbD i = true) :
    i < 19 := by
  have hle : 2 ^ i ≤ set.toNat := Nat.ge_two_pow_of_testBit hi
  exact (Nat.pow_lt_pow_iff_right (by decide)).1 (hle.trans_lt ((namesNoKind_eq_false_iff_lt set).1 h))

theorem ne_zero_iff_getLsbD (set : EventSet) : set ≠ 0 ↔ ∃ i, set.getLsbD i = true := by
  rw [← not_iff_not, not_not, not_exists]
  refine ⟨fun h i => by simp [h], fun h => BitVec.eq_of_getLsbD_eq fun i _ => ?_⟩
  simpa using h i

theorem and_eventBit_ne_zero (set : EventSet) (e : Event) :
    set &&& eventBit e ≠ 0 ↔ set.getLsbD (eventNumber e) = true := by
  change set &&& BitVec.twoPow 32 (eventNumber e) ≠ 0 ↔ _
  have hbit : BitVec.twoPow 32 (eventNumber e) ≠ 0 := by cases e <;> decide
  rw [BitVec.and_twoPow]
  split
  · next h => exact ⟨fun _ => h, fun _ => hbit⟩
  · next h => simp [h]

/-- R195: the kinds are numbered 0 to 18 without a gap. -/
theorem eventNumber_ofNat : ∀ i < 19, eventNumber (Event.ofNat i) = i := by decide

/-! ## When an alert line is asserted, and its level (R198) -/

theorem alertAsserted_iff (e : EuPort) :
    alertAsserted e = true ↔ ∃ i, e.latched.getLsbD i = true ∧ e.enabled.getLsbD i = true := by
  rw [alertAsserted, bne_iff_ne, ne_zero_iff_getLsbD]
  simp only [BitVec.getLsbD_and, Bool.and_eq_true]

theorem alertAsserted_iff_event {e : EuPort} (h : SetsLegal e) :
    alertAsserted e = true ↔ ∃ k : Event, e.latched &&& eventBit k ≠ 0 ∧ e.enabled &&& eventBit k ≠ 0 := by
  obtain ⟨hlatched, -⟩ := h
  simp only [alertAsserted_iff, and_eventBit_ne_zero]
  constructor
  · rintro ⟨i, hl, he⟩
    have hi := eventNumber_ofNat i (getLsbD_lt_of_legal hlatched hl)
    exact ⟨Event.ofNat i, by rwa [hi], by rwa [hi]⟩
  · rintro ⟨k, hl, he⟩
    exact ⟨eventNumber k, hl, he⟩

theorem alertLevel_eq (e : EuPort) : alertLevel e = match e.mode with
    | .activeLowOpen => if alertAsserted e then .pulledLow else .released
    | .activeHighOpen => if alertAsserted e then .released else .pulledLow
    | .pushPullHigh => if alertAsserted e then .drivenHigh else .drivenLow := by
  unfold alertLevel
  cases e.mode <;> cases alertAsserted e <;> rfl

/-! ## The three requests at the Event Unit (R196 to R198) -/

theorem alertModeNamed_eq_none : ∀ {n : Nat}, 2 < n → alertModeNamed n = none
  | _ + 3, _ => rfl

section
variable {p : Port} {a : State}

theorem applyAckEvents_eq (set : EventSet) : applyAckEvents p set a =
    if set.toNat < 2 ^ 19 then
      .ok (a.setEu p { a.eu.ports.get p with latched := (a.eu.ports.get p).latched &&& ~~~set })
    else .error .outOfRange := by
  simp only [← namesNoKind_eq_false_iff_lt]
  cases h : namesNoKind set <;> simp [applyAckEvents, h]

theorem applySetEventEnables_eq (set : EventSet) : applySetEventEnables p set a =
    if set.toNat < 2 ^ 19 then .ok (a.setEu p { a.eu.ports.get p with enabled := set }) else .error .outOfRange := by
  simp only [← namesNoKind_eq_false_iff_lt]
  cases h : namesNoKind set <;> simp [applySetEventEnables, h]

theorem applySetAlertLine_eq {n : Nat} {m : AlertMode} (hm : alertModeNamed n = some m) : applySetAlertLine p n a =
    if (a.eu.ports.get p).enabled = 0 then .ok (a.setEu p { a.eu.ports.get p with mode := m })
    else .error .wrongState := by
  simp only [applySetAlertLine, hm, ite_not]

end

theorem eu_of_answered {k : Kind} {p : Port} {tag : Byte} {st : Status} {d : List Byte} {s a : State}
    (ha : a = answered k p tag st d s) : a.eu = s.eu := by
  simp [ha]

/-- Settles O37: the Event Unit judges each request by the `_eq` lemma of its rule; the line is read off the two sets
bit by bit. -/
theorem eventSets : Obligations.EventSets := by
  refine ⟨fun p tag d s hq => ⟨?ack, ?enables, ?line⟩, fun e =>
    ⟨alertAsserted_iff e, alertAsserted_iff_event, ?low, ?high, ?push⟩⟩
  case ack =>
    intro hl a ha
    rw [← eu_of_answered ha]
    exact congrArg _ (post_judged (r := .ackEvents (word32At d 0)) (c := false) hq rfl hl rfl ha rfl
      (applyAckEvents_eq _) ⟨rfl, rfl⟩)
  case enables =>
    intro hl a ha
    rw [← eu_of_answered ha]
    exact congrArg _ (post_judged (r := .setEventEnables (word32At d 0)) (c := false) hq rfl hl rfl ha rfl
      (applySetEventEnables_eq _) ⟨rfl, rfl⟩)
  case line =>
    intro hl a ha
    rw [← eu_of_answered ha]
    refine ⟨fun m hm => ?_, fun hn => ?_⟩
    · exact congrArg _ (post_judged (r := .setAlertLine (nameAt d 0)) (c := false) hq rfl hl rfl ha rfl
        (applySetAlertLine_eq hm) ⟨rfl, rfl⟩)
    · refine congrArg _ (post_refused (r := .setAlertLine (nameAt d 0)) (c := false) hq rfl hl rfl ha rfl ?_)
      simp only [applyPosted, applySetAlertLine, nameAt, alertModeNamed_eq_none hn]
  case low => intro hm; rw [alertLevel_eq, hm]
  case high => intro hm; rw [alertLevel_eq, hm]
  case push => intro hm; rw [alertLevel_eq, hm]

end Sys2Proof.Machine
end

section
/-! SUPPORT. "Round" (00_scope.md, Arithmetic; O10): it is odd, and for an `n` of 0 or above its value is within half of
`n / d`, with the lower half left out, so that a half goes up, away from zero. -/

namespace Sys2Proof.Machine

theorem roundDiv_of_nonneg {n : Int} (hn : 0 ≤ n) (d : Nat) : roundDiv n d = (2 * n + d) / (2 * d) :=
  if_pos hn

theorem roundDiv_zero (d : Nat) : roundDiv 0 d = 0 := by
  rw [roundDiv_of_nonneg le_rfl]
  rcases Nat.eq_zero_or_pos d with rfl | hd
  · rfl
  · exact Int.ediv_eq_zero_of_lt (by omega) (by omega)

theorem roundDiv_neg (n : Int) (d : Nat) : roundDiv (-n) d = -roundDiv n d := by
  rcases lt_trichotomy n 0 with hn | rfl | hn
  · rw [roundDiv, roundDiv, if_pos (by omega), if_neg (by omega), neg_neg]
  · rw [neg_zero, roundDiv_zero, neg_zero]
  · rw [roundDiv, roundDiv, if_neg (by omega), if_pos (by omega), neg_neg]

/-- The value times `d` is within half of `d` of `n`, and is not exactly half of `d` below it. -/
theorem roundDiv_mul_bounds {n : Int} {d : Nat} (hn : 0 ≤ n) (hd : 0 < d) :
    2 * n - d < 2 * (roundDiv n d * d) ∧ 2 * (roundDiv n d * d) ≤ 2 * n + d := by
  have h2d : (0 : Int) < 2 * d := by omega
  rw [roundDiv_of_nonneg hn]
  have hlow := Int.ediv_mul_le (2 * n + d) h2d.ne'
  have hhigh := Int.lt_ediv_add_one_mul_self (2 * n + d) h2d
  constructor <;> linarith

/-- Settles O10: `roundDiv` is odd, so the bounds at `n.natAbs` serve both signs. -/
theorem roundIsNearest : Obligations.RoundIsNearest := by
  intro n d hd
  obtain ⟨m, rfl | rfl⟩ := n.eq_nat_or_neg
  all_goals have hbounds := roundDiv_mul_bounds (n := m) (by omega) hd
  · omega
  · rw [roundDiv_neg, neg_mul]
    omega

end Sys2Proof.Machine
end
